-- ==== Sys2Proof/Config.lean ====
section
/-! DEFINITION. What the spec leaves free. Each constant here has no body, so that a claim about the model holds for every value of it. -/

namespace Sys2Proof.Config

/-- The choice among the orders that the spec allows inside one event (R69, R107, R136): the value at `n`
is the `n`th free choice of a run. It is reduced modulo the number of alternatives where it is used.
Free value, logs 6 to 8. -/
opaque freeChoice : Nat → Nat

/-- Whether a running timer with this many microseconds left, not a whole number of milliseconds, is
reported in milliseconds rounded up. The spec gives remaining times in ms and states no rounding (R105,
R141). Free value, log 5. -/
opaque roundsUp : Nat → Bool

end Sys2Proof.Config
end

