-- ==== Sys2Proof/Word.lean ====
section
/-! DEFINITION. The byte of a frame and the plainest arithmetic of the model: clamping, saturation and truncating division (00_scope, Conventions). -/

namespace Sys2Proof

/-- One byte of a frame, a sensor reading or a record layout. -/
abbrev Byte := BitVec 8

/-- "clamp" of 00_scope: `v` limited to the range from `lo` to `hi`. -/
def clamp (lo hi v : Int) : Int := max lo (min hi v)

/-- A counter after one more event, saturating at `top`. -/
def satSucc (top n : Nat) : Nat := min top (n + 1)

/-- "trunc" of 00_scope: the quotient rounded toward zero. -/
def trunc (num den : Int) : Int := num.tdiv den

end Sys2Proof
end

