-- ==== Sys2Proof/Syntax.lean ====
section
/-! DEFINITION. The commands of the block: one constructor of `Instr` for each row of spec/opcode_table.json. -/

namespace Sys2Proof

/-- The four transports of the string (00_scope). -/
inductive TransportId where
  | t0 | t1 | t2 | t3
  deriving DecidableEq, Repr

/-- The two links (00_scope). -/
inductive PortId where
  | a | b
  deriving DecidableEq, Repr

/-- A reel of a transport and the column beside it (00_scope, Terms). -/
inductive Reel where
  | file | machine
  deriving DecidableEq, Repr

/-- The upper or the lower end switch of a column (01, line table). -/
inductive ColumnEnd where
  | upper | lower
  deriving DecidableEq, Repr

/-- A reflective marker (R7). -/
inductive Marker where
  | bot | eot
  deriving DecidableEq, Repr

/-- Direction of a motion or of a count (00_scope, Units). -/
inductive Direction where
  | forward | reverse
  deriving DecidableEq, Repr

/-- The head of a frame that arrived on a port: the port, and the unit and tag bytes (R182). -/
structure Head where
  port : PortId
  unit : Byte
  tag : Byte
  deriving DecidableEq, Repr

/-- What a servo sample reads from the columns of its transport (R4, R6). A switch is `true` when it reads active. -/
structure LoopReading where
  flp : Byte
  mlp : Byte
  fue : Bool
  fle : Bool
  mue : Bool
  mle : Bool
  deriving DecidableEq, Repr

/-- Why a received frame fails its check (R162). Low receive-ready is no defect of the frame. -/
inductive FrameDefect where
  | badCrc | longBody | outboundKind | unknownKind
  deriving DecidableEq, Repr

/-- The two kinds of frame that the part takes (R182). -/
inductive InboundKind where
  | order | management
  deriving DecidableEq, Repr

/-- The commands. Frames carry their head and, where their layout has one, their body (R185). -/
inductive Instr where
  /-- HARD_RESET, R18 and the values-after-reset rule of each chapter. -/
  | hardReset
  /-- CAPSTAN_COUNT: CTA and CTB change to these levels (R1, R2). -/
  | capstanCount (t : TransportId) (cta ctb : Bool)
  /-- REEL_COUNT: a pulse on FRT or MRT (R3). -/
  | reelCount (t : TransportId) (reel : Reel)
  /-- SERVO_SAMPLE with what it reads (R4, R65). -/
  | servoSample (t : TransportId) (reading : LoopReading)
  /-- RAMP_STEP (R45). -/
  | rampStep (t : TransportId)
  /-- PRESSURE_SAMPLE with the value of MPR (R136). -/
  | pressureSample (mpr : Byte)
  /-- MARKER_INPUT_CHANGE: BOTS or EOTS changes to this level (R7). -/
  | markerInputChange (t : TransportId) (marker : Marker) (active : Bool)
  /-- COVER_CHANGE: CVR changes to this level (R12). -/
  | coverChange (t : TransportId) (isOpen : Bool)
  /-- REEL_PRESENT_CHANGE: FRP or MRP changes to this level (R13). -/
  | reelPresentChange (t : TransportId) (reel : Reel) (present : Bool)
  /-- TRANSPORT_PRESENT_CHANGE: TPR changes to this level (R13). -/
  | transportPresentChange (t : TransportId) (present : Bool)
  /-- ONLINE_SWITCH_CHANGE: OLS changes to this level (R14). -/
  | onlineSwitchChange (t : TransportId) (offline : Bool)
  /-- PANEL_LOAD_PRESS (R15, R156). -/
  | panelLoadPress (t : TransportId)
  /-- PANEL_REWIND_PRESS (R15). -/
  | panelRewindPress (t : TransportId)
  /-- PANEL_UNLOAD_PRESS (R15). -/
  | panelUnloadPress (t : TransportId)
  /-- CARRIER_UP (R158). -/
  | carrierUp (p : PortId)
  /-- CARRIER_DOWN (R158). -/
  | carrierDown (p : PortId)
  /-- TRANSMISSION_END (R160). -/
  | transmissionEnd (p : PortId)
  /-- FRAME_CHECK_FAILURE (R162). -/
  | frameCheckFailure (p : PortId) (defect : FrameDefect)
  /-- UNKNOWN_CODE_FRAME: a good frame whose code names nothing of its kind (R163, R165). -/
  | unknownCodeFrame (h : Head) (kind : InboundKind) (code : Byte)
  /-- MOVE (R21, R187). -/
  | move (h : Head) (body : List Byte)
  /-- REWIND (R21, R185). -/
  | rewind (h : Head) (body : List Byte)
  /-- UNLOAD (R21). -/
  | unload (h : Head)
  /-- LOAD (R144). -/
  | load (h : Head)
  /-- STOP (R33, R102). -/
  | stop (h : Head)
  /-- HALT (R34, R103, R150, R155). -/
  | halt (h : Head)
  /-- PAUSE (R35). -/
  | pause (h : Head)
  /-- CONTINUE (R36, R101). -/
  | continueOrder (h : Head)
  /-- SELECT_PROFILE (R28). -/
  | selectProfile (h : Head) (body : List Byte)
  /-- RESERVE (R167). -/
  | reserve (h : Head)
  /-- RELEASE (R167, R168). -/
  | release (h : Head)
  /-- FORCE_RELEASE (R169). -/
  | forceRelease (h : Head)
  /-- CLEAR_FAULT (R115). -/
  | clearFault (h : Head)
  /-- SENSE (R177). -/
  | sense (h : Head)
  /-- READ_SNAPSHOT (R112). -/
  | readSnapshot (h : Head)
  /-- LOAD_PROFILE (R173). -/
  | loadProfile (h : Head) (body : List Byte)
  /-- READ_PROFILE (R173). -/
  | readProfile (h : Head) (body : List Byte)
  /-- LOCK_BANK (R174). -/
  | lockBank (h : Head) (body : List Byte)
  /-- LOAD_SERVO (R176). -/
  | loadServo (h : Head) (body : List Byte)
  /-- READ_SERVO (R176). -/
  | readServo (h : Head)
  /-- SET_UNIT_MAP (R166). -/
  | setUnitMap (h : Head) (body : List Byte)
  /-- READ_UNIT_MAP (R166). -/
  | readUnitMap (h : Head)
  /-- SET_VACUUM (R135). -/
  | setVacuum (h : Head) (body : List Byte)
  /-- SET_GRANT_LIMIT (R128). -/
  | setGrantLimit (h : Head) (body : List Byte)
  /-- SENSE_STRING (R130, R141). -/
  | senseString (h : Head)
  /-- SET_MONITOR (R178). -/
  | setMonitor (h : Head) (body : List Byte)
  /-- READ_MONITOR (R178). -/
  | readMonitor (h : Head)
  /-- READ_COUNTERS (R181). -/
  | readCounters (h : Head) (body : List Byte)
  /-- PART_RESET (R170). -/
  | partReset (h : Head)
  /-- PART_RESET_HOLD_EXPIRY (R170). -/
  | partResetHoldExpiry
  /-- TACH_LOSS_DETECTION: the tach-loss timer expires (R58). -/
  | tachLossDetection (t : TransportId)
  /-- LOOP_GUARD_TIMER_EXPIRY (R76). -/
  | loopGuardTimerExpiry (t : TransportId)
  /-- RECOVERY_TIMER_EXPIRY (R89). -/
  | recoveryTimerExpiry (t : TransportId)
  /-- ECONOMY_TIMER_EXPIRY (R134). -/
  | economyTimerExpiry
  /-- VACUUM_STEP_EXPIRY (R145). -/
  | vacuumStepExpiry (t : TransportId)
  /-- DRAW_LIMIT_EXPIRY (R146). -/
  | drawLimitExpiry (t : TransportId)
  /-- UNLOAD_WIND_EXPIRY (R155). -/
  | unloadWindExpiry (t : TransportId)
  /-- READY_BECOMES_TRUE: the settle timer reaches 300 ms (R137). -/
  | readyBecomesTrue
  /-- MARKER_CROSSING_QUALIFIED: a marker run reaches Q (R7). -/
  | markerCrossingQualified (t : TransportId) (marker : Marker)
  /-- TAPE_BREAK: the zero run of a column reaches 2 (R5). -/
  | tapeBreak (t : TransportId) (column : Reel)
  /-- COLUMN_END: the active run of an end switch reaches 2 (R6). -/
  | columnEnd (t : TransportId) (column : Reel) (which : ColumnEnd)
  /-- DRIVE_SATURATION: a saturation run reaches SAT_LIMIT (R69). -/
  | driveSaturation (t : TransportId) (reel : Reel)
  /-- RECOVERY_SETTLED: the settle count of a LOOP GUARD recovery reaches its goal (R89). -/
  | recoverySettled (t : TransportId)
  /-- RADIUS_WINDOW_CLOSE: the window of a reel reaches W (R79). -/
  | radiusWindowClose (t : TransportId) (reel : Reel)
  /-- SEARCH_LIMIT_REACHED: the search counter reaches the BOT search limit (R148, R153). -/
  | searchLimitReached (t : TransportId)
  deriving DecidableEq, Repr

end Sys2Proof
end

