-- ==== Sys2Proof/Machine/Types.lean ====
section
/-! DEFINITION. The records of the machine's state, block by block (chapters 1 to 11). All of it is plain data. -/

namespace Sys2Proof.Machine

/-! ### Fixed numbers of like things -/

/-- One value for each transport T0 to T3. -/
structure Quad (α : Type) where
  t0 : α
  t1 : α
  t2 : α
  t3 : α
  deriving DecidableEq, Repr

/-- One value for each of Port A and Port B. -/
structure PerPort (α : Type) where
  a : α
  b : α
  deriving DecidableEq, Repr

/-- One value for each of the file and the machine side of a transport. -/
structure PerReel (α : Type) where
  file : α
  machine : α
  deriving DecidableEq, Repr

/-- A timer: stopped (`none`), or running with its remaining time in microseconds. -/
abbrev Timer := Option Nat

/-! ### Codes -/

/-- Transport conditions (00_scope). -/
inductive Condition where
  | unloaded | loading | loaded | unloading | faulted
  deriving DecidableEq, Repr

/-- Motion phases (00_scope). -/
inductive Phase where
  | stopped | waitVacuum | waitGrant | accel | cruise | decel | holdDecel | held
  deriving DecidableEq, Repr

/-- Fault causes, in the order of their codes (R188). -/
inductive FaultCause where
  | tachLoss | driveSaturation | columnEnd | tapeBreak
  | suspendOverflow | recoveryTimeout | vacuumLoss | coverOpen
  deriving DecidableEq, Repr

/-- Status codes (00_scope, Status Codes in Brief). -/
inductive Status where
  | done | doneEarly | atBot | eotLimit | noBot | tachInterrupted | superseded | aborted
  | notOwner | unitAbsent | offline | notLoaded | queueFull | badProfile | badField | locked
  | busy | faulted | notReady | loadFailed | unknownCode
  deriving DecidableEq, Repr

/-- The step named by LOAD FAILED (R149, R188). -/
inductive LoadStep where
  | vacuum | draw
  deriving DecidableEq, Repr

/-- Where an order came from (R19). -/
inductive Origin where
  | port (p : PortId)
  | panel
  deriving DecidableEq, Repr

/-- Kinds of order in the motion context (R23). The queue holds the first three (R19). -/
inductive OrderKind where
  | move | rewind | unload | load
  deriving DecidableEq, Repr

/-- End reasons (R29). -/
inductive EndReason where
  | distance | stop | eot | bot | tach | halt
  deriving DecidableEq, Repr

/-- Profile classes of an entry that is not EMPTY (R172). -/
inductive ProfileClass where
  | startStop | rewind
  deriving DecidableEq, Repr

/-- Grant state of a ramp engine (R42). -/
inductive GrantState where
  | none | requested | held
  deriving DecidableEq, Repr

/-- Tach state of a ramp engine (R42). -/
inductive TachState where
  | clear | detected | countSeen
  deriving DecidableEq, Repr

/-- Servo modes (R64). -/
inductive ServoMode where
  | zero | draw | track | wind
  deriving DecidableEq, Repr

/-- Band standings (R74). -/
inductive Band where
  | outsideGuard | inGuard | inRecovery
  deriving DecidableEq, Repr

/-- Hold causes, most urgent first: rank 1, 2 and 3 (R85). -/
inductive Rank where
  | sag | loopGuard | pause
  deriving DecidableEq, Repr

/-- Load Control sequences (R143). -/
inductive Sequence where
  | none | load | rewind | unload
  deriving DecidableEq, Repr

/-- Load Control steps and the sub-steps of the motion context (R143). -/
inductive SeqStep where
  | vacuum | draw | search | reverse | reverseCreep | clearing | reverseStop | forwardCreep | wind
  deriving DecidableEq, Repr

/-- Search outcomes (R143). -/
inductive SearchOutcome where
  | none | botFound | limit | eot
  deriving DecidableEq, Repr

/-- Vacuum modes (R132). -/
inductive VacuumMode where
  | normal | economy | auto
  deriving DecidableEq, Repr

/-- Blower states (R132). -/
inductive Blower where
  | off | economy | normal
  deriving DecidableEq, Repr

/-- Motion Monitor measures (R178). -/
inductive Measure where
  | off | startLatency | motionCount
  deriving DecidableEq, Repr

/-- Motion Monitor direction filters (R178). -/
inductive Filter where
  | forward | reverse | both
  deriving DecidableEq, Repr

/-! ### Transport Sense Interface (chapter 1) -/

/-- Levels of the input lines of a transport that change by an input change event, and of the two
tachometer phases (01, line table). The held levels of R13 are these. -/
structure Lines where
  cta : Bool
  ctb : Bool
  bots : Bool
  eots : Bool
  coverOpen : Bool
  fileReel : Bool
  machineReel : Bool
  present : Bool
  offlineSwitch : Bool
  deriving DecidableEq, Repr

/-- Run record of a marker sensor (R7). -/
structure MarkerRun where
  count : Nat
  direction : Direction
  edge : Int
  qualified : Bool
  deriving DecidableEq, Repr

/-- A marker crossing record (R10). -/
structure Crossing where
  position : Int
  direction : Direction
  deriving DecidableEq, Repr

/-- Position record (R10). -/
structure Position where
  referenced : Bool
  count : Int
  pastEot : Bool
  eotPoint : Option Int
  lastBot : Option Crossing
  lastEot : Option Crossing
  deriving DecidableEq, Repr

/-- Checks of one column (R5, R6). -/
structure Column where
  tapeSeen : Bool
  zeroRun : Nat
  upperRun : Nat
  lowerRun : Nat
  deriving DecidableEq, Repr

/-- State of the Transport Sense Interface beside its lines. -/
structure Sense where
  coverOpen : Bool
  offline : Bool
  lastDirection : Option Direction
  depths : PerReel Nat
  columns : PerReel Column
  botRun : MarkerRun
  eotRun : MarkerRun
  position : Position
  deriving DecidableEq, Repr

/-! ### Tables (chapter 11) -/

/-- A profile table entry that is not EMPTY, and the profile copy of a motion context (R23, R172). -/
structure Profile where
  cls : ProfileClass
  vTop : Nat
  aAcc : Nat
  aDec : Nat
  tR : Nat
  priority : Nat
  creep : Option Nat
  deriving DecidableEq, Repr

/-- Servo record (R175). Times are in ms, as the record gives them. -/
structure ServoRecord where
  gFF : Nat
  kp : Nat
  kpRec : Nat
  slew : Nat
  satLimit : Nat
  setpoint : Nat
  guardLow : Nat
  guardHigh : Nat
  recoveryLow : Nat
  recoveryHigh : Nat
  recoverySettle : Nat
  recoveryLimit : Nat
  kRad : Nat
  window : Nat
  initialFile : Nat
  initialMachine : Nat
  q : Nat
  eotAllowance : Nat
  tachTimeout : Nat
  searchSpeed : Nat
  searchLimit : Nat
  approach : Nat
  drawDemand : Nat
  drawLimit : Nat
  windDemand : Nat
  windTime : Nat
  deriving DecidableEq, Repr

/-- Table Store (R172, R174, R175). -/
structure Tables where
  profiles : Vector (Option Profile) 16
  lock0 : Bool
  lock1 : Bool
  servo : Quad ServoRecord
  deriving DecidableEq, Repr

/-! ### Order queue and motion context (chapter 2) -/

/-- Order record (R19). `arrivalUnit` is the model's own: the unit byte of the order's frame while its
own arrival event lasts (R160, log 20). -/
structure OrderRecord where
  kind : OrderKind
  origin : Origin
  tag : Byte
  direction : Option Direction
  profile : Option (Fin 16)
  distance : Option Nat
  arrivalUnit : Option Byte
  deriving DecidableEq, Repr

/-- Motion context (R23) but for its phase, which stands beside it, and its sub-step, which is Load
Control's step (R143). `arrivalUnit` as in the order record. -/
structure Motion where
  kind : OrderKind
  tag : Byte
  origin : Origin
  direction : Direction
  profileNo : Fin 16
  copy : Profile
  r : Option Int
  endReason : Option EndReason
  arrivalUnit : Option Byte
  deriving DecidableEq, Repr

/-- A pending RELEASE: the release-pending flag with the port and tag of its deferred answer (R40, R168). -/
structure PendingRelease where
  port : PortId
  tag : Byte
  deriving DecidableEq, Repr

/-! ### Capstan Ramp Engine (chapter 3) -/

/-- Engine state (R42). -/
structure Engine where
  v : Int
  workTop : Option Nat
  stepTimer : Bool
  grant : GrantState
  tachTimer : Timer
  tach : TachState
  deriving DecidableEq, Repr

/-! ### Reel Servo (chapter 4) -/

/-- Servo state of one reel (R64). -/
structure ReelServo where
  demand : Int
  satRun : Nat
  radius : Int
  windowCount : Nat
  reelCount : Nat
  deriving DecidableEq, Repr

/-- Servo state of a transport (R64). -/
structure Servo where
  reels : PerReel ReelServo
  mode : ServoMode
  loopGuard : Timer
  band : Band
  deriving DecidableEq, Repr

/-! ### Hold Controller (chapter 5) -/

/-- A subset of the ranks 1, 2 and 3 (R84). -/
structure RankSet where
  sag : Bool
  loopGuard : Bool
  pause : Bool
  deriving DecidableEq, Repr

/-- Slot 1 (R84). -/
inductive Slot1 where
  | free
  | saved (m : Motion)
  | emptyContext
  deriving DecidableEq, Repr

/-- A saved recovery in slot 2 (R84). -/
structure SavedRecovery where
  rank : Rank
  settle : Nat
  deriving DecidableEq, Repr

/-- Hold Controller state (R84). -/
structure Hold where
  cause : Option Rank
  inService : RankSet
  pending : RankSet
  slot1 : Slot1
  slot2 : Option SavedRecovery
  active : Option Rank
  settle : Nat
  timer : Timer
  deriving DecidableEq, Repr

/-! ### Load Control (chapter 9) -/

/-- LOAD record (R143). -/
structure LoadRecord where
  origin : Origin
  tag : Byte
  deriving DecidableEq, Repr

/-- Load Control state (R143). `tachOutcome` is the model's own: the outcome as it stood at the tach-loss
detection, which R148 asks for (log 21). -/
structure LoadControl where
  sequence : Sequence
  record : Option LoadRecord
  step : Option SeqStep
  timer : Timer
  searchCount : Int
  markerCleared : Bool
  outcome : SearchOutcome
  tachOutcome : SearchOutcome
  deriving DecidableEq, Repr

/-! ### Fault Stop (chapter 6) -/

/-- The current order as the fault snapshot records it (R111). -/
structure SnapshotOrder where
  kind : OrderKind
  tag : Byte
  origin : Origin
  deriving DecidableEq, Repr

/-- Fault snapshot (R111). -/
structure Snapshot where
  cause : FaultCause
  condition : Condition
  phase : Option Phase
  position : Position
  v : Int
  order : Option SnapshotOrder
  r : Option Int
  queueDepth : Nat
  inService : RankSet
  pending : RankSet
  slots : Nat
  depths : PerReel Nat
  demands : PerReel Int
  radii : PerReel Int
  further : Nat
  deriving DecidableEq, Repr

/-- Per-transport counters that READ COUNTERS reports (R181). -/
structure TransportCounters where
  rights : Nat
  radiusRejections : Nat
  tachLosses : Nat
  faults : Nat
  deriving DecidableEq, Repr

/-! ### One transport -/

/-- Everything the part holds once for each transport, but for the tables and the reservation table. -/
structure Transport where
  lines : Lines
  sense : Sense
  condition : Condition
  phase : Phase
  queue : List OrderRecord
  motion : Option Motion
  selected : Fin 16
  paused : Bool
  release : Option PendingRelease
  engine : Engine
  servo : Servo
  hold : Hold
  load : LoadControl
  brakesEngaged : Bool
  valveOpen : Bool
  faultCause : Option FaultCause
  snapshot : Option Snapshot
  counters : TransportCounters
  deriving DecidableEq, Repr

/-! ### String-wide blocks -/

/-- Waiting-list entry (R120). -/
structure WaitEntry where
  transport : TransportId
  priority : Nat
  joined : Nat
  deriving DecidableEq, Repr

/-- Start Grant Arbiter (R120). `nextJoin` is the model's own source of joining orders (log 31). -/
structure Arbiter where
  limit : Nat
  holders : Quad Bool
  waiting : List WaitEntry
  nextJoin : Nat
  deriving DecidableEq, Repr

/-- Vacuum Supply Controller (R132). The settle timer is in ms. -/
structure Vacuum where
  mode : VacuumMode
  blower : Blower
  loss : Nat
  sag : Nat
  run : Nat
  lastPressure : Nat
  settle : Option Nat
  ready : Bool
  economy : Timer
  deriving DecidableEq, Repr

/-- Motion Monitor (R178). A running measurement holds the time of its take in microseconds. -/
structure Monitor where
  measure : Measure
  transport : TransportId
  filter : Filter
  samples : Nat
  last : Option Nat
  maximum : Option Nat
  running : Option Nat
  deriving DecidableEq, Repr

/-- Kinds of frame that the part sends (R182). -/
inductive OutboundKind where
  | response | attention
  deriving DecidableEq, Repr

/-- An outgoing frame (R182, R186). -/
structure OutFrame where
  kind : OutboundKind
  unit : Byte
  tag : Byte
  code : Byte
  body : List Byte
  deriving DecidableEq, Repr

/-- Port counters (R171). -/
structure PortCounters where
  received : Nat
  checkErrors : Nat
  refusals : Nat
  dropped : Nat
  deriving DecidableEq, Repr

/-- One port (R158). Receive-ready is computed (`State.receiveReady`, R159). `rx` is what the port has taken of a
frame that is still arriving: none while it hunts for the sync byte, otherwise the bytes after it (R183). -/
structure Port where
  up : Bool
  rx : Option (List Byte)
  tx : List OutFrame
  unitMap : Vector (Option TransportId) 16
  counters : PortCounters
  heldLost : Quad Bool
  deriving DecidableEq, Repr

/-- The PART RESET hold: its timer, and where its DONE goes (R170). -/
structure ResetHold where
  port : PortId
  tag : Byte
  timer : Nat
  deriving DecidableEq, Repr

end Sys2Proof.Machine
end

