-- ==== Sys2Proof/Machine/Defaults.lean ====
section
/-! DEFINITION. The values that resets, idle blocks and table defaults take (the values-after-reset rule of each chapter), and the fixed limits and times of the spec. -/

namespace Sys2Proof.Machine

/-! ### Fixed limits and times -/

/-- Microseconds in a millisecond: timers count microseconds. -/
def ms (n : Nat) : Nat := n * 1000

/-- Greatest value of a counter that the chapter gives no other limit (00_scope, Units). -/
def counterTop : Nat := 65535

/-- Least position count (R10). -/
def positionMin : Int := -131072

/-- Greatest position count (R10). -/
def positionMax : Int := 16777215

/-- Least value of R (R24). -/
def remainingMin : Int := -33554432

/-- Greatest value of R (R24). -/
def remainingMax : Int := 33554431

/-- Greatest magnitude of the search counter (R143). -/
def searchCountTop : Int := 16777215

/-- Greatest MOVE distance (R19). -/
def distanceMax : Nat := 16777215

/-- Capacity of an order queue (R19). -/
def queueCapacity : Nat := 6

/-- Orders a transport may hold outstanding before RELEASE is refused (R167). -/
def outstandingMax : Nat := 7

/-- Transmit-queue length at which receive-ready goes low and attentions are dropped (R159, R161). -/
def readyLowAt : Nat := 16

/-- Greatest reel demand magnitude (R68). -/
def demandTop : Int := 2047

/-- Greatest window capstan count (R64). -/
def windowCountTop : Nat := 16384

/-- Greatest saturation run, settle and further-fault count (R64, R84, R113). -/
def smallCountTop : Nat := 255

/-- Least and greatest radius estimate (R80). -/
def radiusMin : Int := 175
/-- Greatest radius estimate (R80). -/
def radiusMax : Int := 525

/-- Least and greatest plausible measured radius (R79). -/
def plausibleMin : Nat := 160
/-- Greatest plausible measured radius (R79). -/
def plausibleMax : Nat := 560

/-- Economy timer, in microseconds (R134). -/
def economyTime : Nat := ms 5000

/-- Vacuum wait of LOAD, in microseconds (R144). -/
def vacuumWait : Nat := ms 10000

/-- PART RESET hold, in microseconds (R170). -/
def resetHoldTime : Nat := ms 100

/-- Settle time for READY, in ms (R137). -/
def settleGoal : Nat := 300

/-- Pressure sample period, in ms (R136). -/
def pressurePeriod : Nat := 10

/-! ### Idle and cleared records -/

/-- A marker run of count 0 (R11). -/
def idleRun : MarkerRun := { count := 0, direction := .forward, edge := 0, qualified := false }

/-- The cleared position record (R11). -/
def clearedPosition : Position :=
  { referenced := false, count := 0, pastEot := false, eotPoint := none, lastBot := none, lastEot := none }

/-- A column with its flag clear and its runs at 0 (R18). -/
def idleColumn : Column := { tapeSeen := false, zeroRun := 0, upperRun := 0, lowerRun := 0 }

/-- The idle ramp engine (R63). -/
def idleEngine : Engine :=
  { v := 0, workTop := none, stepTimer := false, grant := .none, tachTimer := none, tach := .clear }

/-- The empty set of ranks (R106). -/
def noRanks : RankSet := { sag := false, loopGuard := false, pause := false }

/-- The cleared Hold Controller (R106). -/
def idleHold : Hold :=
  { cause := none, inService := noRanks, pending := noRanks, slot1 := .free, slot2 := none
    active := none, settle := 0, timer := none }

/-- The idle Load Control (R157). -/
def idleLoad : LoadControl :=
  { sequence := .none, record := none, step := none, timer := none, searchCount := 0
    markerCleared := false, outcome := .none, tachOutcome := .none }

/-- Counters at 0 (R181). -/
def zeroCounters : TransportCounters := { rights := 0, radiusRejections := 0, tachLosses := 0, faults := 0 }

/-- Port counters at 0 (R171). -/
def zeroPortCounters : PortCounters := { received := 0, checkErrors := 0, refusals := 0, dropped := 0 }

/-- The monitor record after either reset (R178). -/
def idleMonitor : Monitor :=
  { measure := .off, transport := .t0, filter := .both, samples := 0, last := none, maximum := none, running := none }

/-! ### Table defaults -/

/-- Profile 0 at hard reset (R172). -/
def profile0 : Profile :=
  { cls := .startStop, vTop := 62500, aAcc := 3125, aDec := 3125, tR := 250, priority := 4, creep := none }

/-- Profile 15 at hard reset (R172). -/
def profile15 : Profile :=
  { cls := .rewind, vTop := 250000, aAcc := 2500, aDec := 2500, tR := 500, priority := 6, creep := some 10000 }

/-- The profile table at hard reset (R172). -/
def defaultProfiles : Vector (Option Profile) 16 :=
  ((Vector.replicate 16 none).set 0 (some profile0)).set 15 (some profile15)

/-- A servo record at hard reset (R175). -/
def defaultServo : ServoRecord :=
  { gFF := 16, kp := 40, kpRec := 80, slew := 64, satLimit := 50, setpoint := 128
    guardLow := 24, guardHigh := 232, recoveryLow := 96, recoveryHigh := 160
    recoverySettle := 20, recoveryLimit := 2000, kRad := 33377, window := 4096
    initialFile := 480, initialMachine := 190, q := 40, eotAllowance := 90000, tachTimeout := 5
    searchSpeed := 12500, searchLimit := 300000, approach := 30000
    drawDemand := 120, drawLimit := 5000, windDemand := 300, windTime := 3000 }

/-- The Table Store at hard reset (R172, R174, R175). -/
def defaultTables : Tables :=
  { profiles := defaultProfiles, lock0 := false, lock1 := false
    servo := { t0 := defaultServo, t1 := defaultServo, t2 := defaultServo, t3 := defaultServo } }

/-- A unit map at hard reset (R166). -/
def defaultUnitMap : Vector (Option TransportId) 16 :=
  (((Vector.replicate 16 none).set 0 (some .t0)).set 1 (some .t1)).set 2 (some .t2) |>.set 3 (some .t3)

/-! ### Blocks after reset -/

/-- Input levels right after power-on: a connected, closed, present, ONLINE transport. The spec gives no
level (DESIGN CHOICE, log 3). -/
def initialLines : Lines :=
  { cta := false, ctb := false, bots := false, eots := false, coverOpen := false
    fileReel := true, machineReel := true, present := true, offlineSwitch := false }

/-- The Transport Sense Interface after either reset: cover and OFFLINE are read from the lines (R18). -/
def resetSense (l : Lines) : Sense :=
  { coverOpen := l.coverOpen, offline := l.offlineSwitch, lastDirection := none
    depths := { file := 0, machine := 0 }, columns := { file := idleColumn, machine := idleColumn }
    botRun := idleRun, eotRun := idleRun, position := clearedPosition }

/-- A reel's servo at rest with this radius and a restarted window (R83). -/
def idleReel (radius : Nat) : ReelServo :=
  { demand := 0, satRun := 0, radius := radius, windowCount := 0, reelCount := 0 }

/-- The Reel Servo after either reset (R83). -/
def resetServo (rec : ServoRecord) : Servo :=
  { reels := { file := idleReel rec.initialFile, machine := idleReel rec.initialMachine }
    mode := .zero, loopGuard := none, band := .outsideGuard }

/-- A transport after either reset, with these input levels, servo record and snapshot. The snapshot is
absent after hard reset and kept through PART RESET (R119). -/
def resetTransport (l : Lines) (rec : ServoRecord) (snap : Option Snapshot) : Transport :=
  { lines := l, sense := resetSense l, condition := .unloaded, phase := .stopped, queue := [], motion := none
    selected := 0, paused := false, release := none, engine := idleEngine, servo := resetServo rec
    hold := idleHold, load := idleLoad, brakesEngaged := true, valveOpen := false
    faultCause := none, snapshot := snap, counters := zeroCounters }

/-- A port after hard reset, with this carrier level (R171). Its receiver hunts (log 30). -/
def resetPort (carrier : Bool) : Port :=
  { up := carrier, rx := none, tx := [], unitMap := defaultUnitMap, counters := zeroPortCounters
    heldLost := { t0 := false, t1 := false, t2 := false, t3 := false } }

/-- The arbiter after hard reset (R131). -/
def resetArbiter : Arbiter :=
  { limit := 2, holders := { t0 := false, t1 := false, t2 := false, t3 := false }, waiting := [], nextJoin := 0 }

/-- The Vacuum Supply Controller after hard reset (R142). -/
def resetVacuum : Vacuum :=
  { mode := .auto, blower := .off, loss := 60, sag := 140, run := 160, lastPressure := 0
    settle := none, ready := false, economy := none }

end Sys2Proof.Machine
end

