-- ==== Sys2Proof/Machine/State.lean ====
section
/-! DEFINITION. The state of the machine, the state after reset, and the reasons a step can stop. -/

namespace Sys2Proof.Machine

/-- Why the model stops. -/
inductive Fault where
  /-- Raised by the agenda (`Machine/Agenda.lean`) when the hand-offs of one event have not come to an end
  within its bound. Safe: the model stops where the part goes on (log 19). -/
  | cascadeUnfinished
  deriving DecidableEq, Repr

/-- Why a command has no meaning. -/
inductive Refusal where
  /-- Raised by an arm of `exec` whose command is not modelled. Safe: the model stops. No arm does. -/
  | notModelled (mnemonic : String)
  deriving DecidableEq, Repr

/-- Everything the spec gives the part, and the queue of waiting commands (INVENTORY.md, State). -/
structure State where
  transports : Quad Transport
  ports : PerPort Port
  /-- Reservation table (R158). -/
  owners : Quad (Option PortId)
  arbiter : Arbiter
  vacuum : Vacuum
  tables : Tables
  monitor : Monitor
  /-- The PART RESET hold, while it stands (R170). -/
  resetHold : Option ResetHold
  /-- Microseconds since power-on, the model's own (log 1). -/
  clock : Nat
  /-- Free choices made so far, the model's own (log 24). -/
  freeCount : Nat
  /-- The commands that wait, first in, first out. -/
  pending : List Instr
  deriving DecidableEq, Repr

/-- The machine right after power-on or hard reset (R18, R41, R63, R83, R106, R119, R131, R142, R157, R171,
R172, R175, R178). -/
def State.reset : State :=
  { transports :=
      { t0 := resetTransport initialLines defaultServo none, t1 := resetTransport initialLines defaultServo none
        t2 := resetTransport initialLines defaultServo none, t3 := resetTransport initialLines defaultServo none }
    ports := { a := resetPort true, b := resetPort true }
    owners := { t0 := none, t1 := none, t2 := none, t3 := none }
    arbiter := resetArbiter
    vacuum := resetVacuum
    tables := defaultTables
    monitor := idleMonitor
    resetHold := none
    clock := 0
    freeCount := 0
    pending := [] }

end Sys2Proof.Machine
end

