-- ==== Sys2Proof/Machine/Ops.lean ====
section
/-! DEFINITION. The named operations over the state: reading and updating one transport, port or reel; the transmit queues, refusals and attentions of the Port Controller (R159 to R161, R186); the reservation table; the free choices. -/

namespace Sys2Proof.Machine

/-! ### Reading and updating one of several -/

/-- The value of transport `t`. -/
def Quad.get {α : Type} (q : Quad α) (t : TransportId) : α :=
  match t with
  | .t0 => q.t0
  | .t1 => q.t1
  | .t2 => q.t2
  | .t3 => q.t3

/-- `q` with the value of transport `t` replaced. -/
def Quad.set {α : Type} (q : Quad α) (t : TransportId) (x : α) : Quad α :=
  match t with
  | .t0 => { q with t0 := x }
  | .t1 => { q with t1 := x }
  | .t2 => { q with t2 := x }
  | .t3 => { q with t3 := x }

/-- One value for all four transports. -/
def Quad.all {α : Type} (x : α) : Quad α := { t0 := x, t1 := x, t2 := x, t3 := x }

/-- The value of port `p`. -/
def PerPort.get {α : Type} (q : PerPort α) (p : PortId) : α :=
  match p with
  | .a => q.a
  | .b => q.b

/-- `q` with the value of port `p` replaced. -/
def PerPort.set {α : Type} (q : PerPort α) (p : PortId) (x : α) : PerPort α :=
  match p with
  | .a => { q with a := x }
  | .b => { q with b := x }

/-- The value of one side. -/
def PerReel.get {α : Type} (q : PerReel α) (x : Reel) : α :=
  match x with
  | .file => q.file
  | .machine => q.machine

/-- `q` with the value of one side replaced. -/
def PerReel.set {α : Type} (q : PerReel α) (x : Reel) (v : α) : PerReel α :=
  match x with
  | .file => { q with file := v }
  | .machine => { q with machine := v }

/-- The transports, T0 first. -/
def transportIds : List TransportId := [.t0, .t1, .t2, .t3]

/-- The other port. -/
def otherPort (p : PortId) : PortId :=
  match p with
  | .a => .b
  | .b => .a

/-- Transport `t` of the state. -/
def State.tr (s : State) (t : TransportId) : Transport := s.transports.get t

/-- The state with transport `t` replaced. -/
def State.setTr (s : State) (t : TransportId) (x : Transport) : State :=
  { s with transports := s.transports.set t x }

/-- Port `p` of the state. -/
def State.port (s : State) (p : PortId) : Port := s.ports.get p

/-- The state with port `p` replaced. -/
def State.setPort (s : State) (p : PortId) (x : Port) : State := { s with ports := s.ports.set p x }

/-- The servo record of transport `t` (R77: read in the Table Store at each use). -/
def State.servoOf (s : State) (t : TransportId) : ServoRecord := s.tables.servo.get t

/-- The owner of transport `t` (R158). -/
def State.owner (s : State) (t : TransportId) : Option PortId := s.owners.get t

/-- The reservation table with the owner of `t` replaced. -/
def State.setOwner (s : State) (t : TransportId) (o : Option PortId) : State :=
  { s with owners := s.owners.set t o }

/-! ### Parts of a transport -/

/-- The position record of a transport. -/
def Transport.position (tr : Transport) : Position := tr.sense.position

/-- The transport with its position record replaced. -/
def Transport.setPosition (tr : Transport) (p : Position) : Transport :=
  { tr with sense := { tr.sense with position := p } }

/-- The run record of a marker. -/
def Sense.run (x : Sense) (m : Marker) : MarkerRun :=
  match m with
  | .bot => x.botRun
  | .eot => x.eotRun

/-- The sense state with the run record of a marker replaced. -/
def Sense.setRun (x : Sense) (m : Marker) (r : MarkerRun) : Sense :=
  match m with
  | .bot => { x with botRun := r }
  | .eot => { x with eotRun := r }

/-- The level of a marker input. -/
def Lines.marker (l : Lines) (m : Marker) : Bool :=
  match m with
  | .bot => l.bots
  | .eot => l.eots

/-- The current order: in the motion context, or saved in slot 1 (R23, R84). -/
def Transport.current (tr : Transport) : Option Motion :=
  match tr.motion with
  | some m => some m
  | none =>
    match tr.hold.slot1 with
    | .saved m => some m
    | .free | .emptyContext => none

/-- The transport with its current order replaced where it stands, in the motion context or in slot 1. -/
def Transport.setCurrent (tr : Transport) (m : Motion) : Transport :=
  match tr.motion with
  | some _ => { tr with motion := some m }
  | none =>
    match tr.hold.slot1 with
    | .saved _ => { tr with hold := { tr.hold with slot1 := .saved m } }
    | .free | .emptyContext => tr

/-- The motion with this end reason, unless R29 keeps one already set. -/
def Motion.endWith (m : Motion) (r : EndReason) : Motion :=
  { m with endReason := if m.endReason.isSome then m.endReason else some r }

/-! ### Sets of ranks (R84) -/

/-- Urgency of a hold cause: 1 is the most urgent (R85). -/
def Rank.number (r : Rank) : Nat :=
  match r with
  | .sag => 1
  | .loopGuard => 2
  | .pause => 3

/-- Whether `a` is more urgent than `b`. -/
def Rank.outranks (a b : Rank) : Bool := a.number < b.number

/-- Membership of a rank. -/
def RankSet.has (x : RankSet) (r : Rank) : Bool :=
  match r with
  | .sag => x.sag
  | .loopGuard => x.loopGuard
  | .pause => x.pause

/-- The set with one rank put in or taken out. -/
def RankSet.put (x : RankSet) (r : Rank) (b : Bool) : RankSet :=
  match r with
  | .sag => { x with sag := b }
  | .loopGuard => { x with loopGuard := b }
  | .pause => { x with pause := b }

/-- The most urgent rank of a set. -/
def RankSet.mostUrgent (x : RankSet) : Option Rank :=
  if x.sag then some .sag else if x.loopGuard then some .loopGuard else if x.pause then some .pause else none

/-- Number of ranks in a set. -/
def RankSet.size (x : RankSet) : Nat := x.sag.toNat + x.loopGuard.toNat + x.pause.toNat

/-! ### Transmit queues (R158 to R161) -/

/-- Receive-ready of a port, as R159 defines it: high on an UP port whose transmit queue holds 15 frames or
fewer while no PART RESET hold stands. -/
def State.receiveReady (s : State) (p : PortId) : Bool :=
  (s.port p).up && decide ((s.port p).tx.length < readyLowAt) && s.resetHold.isNone

/-- Joins a frame to a port's transmit queue, or discards it when the port is DOWN (R158, R160). -/
def place (p : PortId) (f : OutFrame) (s : State) : State :=
  if (s.port p).up then s.setPort p { s.port p with tx := (s.port p).tx ++ [f] } else s

/-- The byte of a status code (00_scope, Status Codes in Brief). -/
def Status.code (x : Status) : Byte :=
  match x with
  | .done => 0x00
  | .doneEarly => 0x01
  | .atBot => 0x02
  | .eotLimit => 0x03
  | .noBot => 0x04
  | .tachInterrupted => 0x05
  | .superseded => 0x06
  | .aborted => 0x10
  | .notOwner => 0x20
  | .unitAbsent => 0x21
  | .offline => 0x22
  | .notLoaded => 0x23
  | .queueFull => 0x24
  | .badProfile => 0x25
  | .badField => 0x26
  | .locked => 0x27
  | .busy => 0x28
  | .faulted => 0x29
  | .notReady => 0x2A
  | .loadFailed => 0x2B
  | .unknownCode => 0x2C

/-- The transport as a byte of a body (R186, R188). -/
def transportByte (t : TransportId) : Byte :=
  match t with
  | .t0 => 0
  | .t1 => 1
  | .t2 => 2
  | .t3 => 3

/-- The lowest logical unit that a map names for a transport, or 255 (R160). -/
def lowestUnit (map : Vector (Option TransportId) 16) (t : TransportId) : Byte :=
  match map.toList.findIdx? (fun e => e == some t) with
  | some i => BitVec.ofNat 8 i
  | none => 255

/-- The response to a frame within its own arrival event: unit and tag are the frame's (R160, R186). -/
def respond (h : Head) (st : Status) (body : List Byte) (s : State) : State :=
  place h.port { kind := .response, unit := h.unit, tag := h.tag, code := st.code, body := body } s

/-- A port with its counters replaced. -/
def Port.setCounters (x : Port) (c : PortCounters) : Port := { x with counters := c }

/-- Adds 1 to a port's check errors (R162, R171). -/
def countCheckError (p : PortId) (s : State) : State :=
  let x := s.port p
  s.setPort p (x.setCounters { x.counters with checkErrors := satSucc counterTop x.counters.checkErrors })

/-- Adds 1 to a port's frames received (R162, R171). -/
def countReceived (p : PortId) (s : State) : State :=
  let x := s.port p
  s.setPort p (x.setCounters { x.counters with received := satSucc counterTop x.counters.received })

/-- Adds 1 to a port's refusals (R162, R171). -/
def countRefusal (p : PortId) (s : State) : State :=
  let x := s.port p
  s.setPort p (x.setCounters { x.counters with refusals := satSucc counterTop x.counters.refusals })

/-- Adds 1 to a port's attentions dropped (R161, R171). -/
def countDropped (p : PortId) (s : State) : State :=
  let x := s.port p
  s.setPort p (x.setCounters { x.counters with dropped := satSucc counterTop x.counters.dropped })

/-- Answers a frame with a refusal: the response and the refusals counter, and nothing else (R162). -/
def refuse (h : Head) (st : Status) (body : List Byte) (s : State) : State :=
  respond h st body (countRefusal h.port s)

/-- Adds 1 to a transport's rights violations (R164). -/
def countRightsViolation (t : TransportId) (s : State) : State :=
  let x := s.tr t
  s.setTr t { x with counters := { x.counters with rights := satSucc counterTop x.counters.rights } }

/-- The refusal NOT OWNER (R164, R167). -/
def refuseNotOwner (h : Head) (t : TransportId) (body : List Byte) (s : State) : State :=
  refuse h .notOwner body (countRightsViolation t s)

/-! ### Attentions (R161, R186) -/

/-- Codes of the four attentions (R186). -/
inductive AttentionKind where
  | eotCrossed | faultStop | onlineChange | reservationLost
  deriving DecidableEq, Repr

/-- The code byte of an attention (R186). -/
def AttentionKind.code (k : AttentionKind) : Byte :=
  match k with
  | .eotCrossed => 1
  | .faultStop => 2
  | .onlineChange => 3
  | .reservationLost => 4

/-- The ports an attention of a transport goes to under this owner: the owning port, or each UP port (R161). -/
def attentionPorts (owner : Option PortId) (s : State) : List PortId :=
  match owner with
  | some p => [p]
  | none => [PortId.a, PortId.b].filter (fun p => (s.port p).up)

/-- Places one copy of an attention on a port, or drops and counts it when the port is DOWN or its queue
holds 16 or more frames (R161). While a PART RESET hold stands it is discarded without being counted (R170). -/
def attend (p : PortId) (t : TransportId) (k : AttentionKind) (field : List Byte) (s : State) : State :=
  if s.resetHold.isSome then s
  else if (s.port p).up && decide ((s.port p).tx.length < readyLowAt) then
    place p { kind := .attention, unit := lowestUnit (s.port p).unitMap t, tag := 0, code := k.code
              body := transportByte t :: field } s
  else countDropped p s

/-- Places an attention for every port it goes to (R161). -/
def attendAll (ps : List PortId) (t : TransportId) (k : AttentionKind) (field : List Byte) (s : State) : State :=
  ps.foldl (fun s p => attend p t k field s) s

/-! ### Free choices (logs 6 to 8) -/

/-- The next free choice among `n` alternatives, `n` at least 1. -/
def State.choice (s : State) (n : Nat) : Nat := Config.freeChoice s.freeCount % n

/-- The state after a free choice was made. -/
def State.chose (s : State) : State := { s with freeCount := s.freeCount + 1 }

/-- A free order of a list: a list of at most one element needs no choice, otherwise each next element is
chosen freely. The first argument bounds the length, the second is the number of the first choice. -/
def freeOrder {α : Type} : Nat → Nat → List α → List α
  | 0, _, xs => xs
  | _ + 1, _, [] => []
  | _ + 1, _, [x] => [x]
  | fuel + 1, n, x :: y :: rest =>
    let xs := x :: y :: rest
    let i := Config.freeChoice n % xs.length
    (xs.getD i x) :: freeOrder fuel (n + 1) (xs.eraseIdx i)

end Sys2Proof.Machine
end

