-- ==== Sys2Proof/Machine/Flags.lean ====
section
/-! DEFINITION. The tests that several blocks make on the state: conditions and phases (00_scope), the column checks (R5), the time before DRAW start (R3, R81), the band standing (R74), the take conditions (R25), idleness (R167) and the quiet string (R133). -/

namespace Sys2Proof.Machine

/-- DRAW has begun in a LOAD: its step is DRAW or SEARCH (R5). -/
def Transport.drawBegun (tr : Transport) : Bool :=
  tr.condition == .loading && (tr.load.step == some .draw || tr.load.step == some .search)

/-- DRAW start has not come since the transport was last UNLOADED: UNLOADED, LOADING in the VACUUM step, or FAULTED in
that step, whose fault stop is the one of a LOAD that leaves the valve closed (R150). The radius estimates stand until
DRAW start (R3, R81). -/
def Transport.beforeDraw (tr : Transport) : Bool :=
  match tr.condition with
  | .unloaded => true
  | .loading => tr.load.step == some .vacuum
  | .faulted => !tr.valveOpen && tr.snapshot.map Snapshot.condition == some .loading
  | .loaded | .unloading => false

/-- LOADING in the SEARCH step. -/
def Transport.searching (tr : Transport) : Bool := tr.condition == .loading && tr.load.step == some .search

/-- Whether the transport has a motion phase: LOADED, or LOADING in the SEARCH step (00_scope, R85). -/
def Transport.hasPhase (tr : Transport) : Bool := tr.condition == .loaded || tr.searching

/-- The motion phase as the outside sees it, or none (00_scope, R111, R177). -/
def Transport.phaseSeen (tr : Transport) : Option Phase := if tr.hasPhase then some tr.phase else none

/-- The ramp is active (R42). -/
def Phase.moving (p : Phase) : Bool :=
  match p with
  | .accel | .cruise | .decel | .holdDecel => true
  | .stopped | .waitVacuum | .waitGrant | .held => false

/-- A waiting phase: WAIT VACUUM or WAIT GRANT. -/
def Phase.waiting (p : Phase) : Bool := p == .waitVacuum || p == .waitGrant

/-- The column checks apply to this column: the transport is LOADED, or LOADING with DRAW begun, and the
column's tape-seen flag is set (R5, R6). -/
def Transport.columnChecked (tr : Transport) (c : Column) : Bool :=
  (tr.condition == .loaded || tr.drawBegun) && c.tapeSeen

/-- A depth lies within a band (R74). -/
def within (lo hi depth : Nat) : Bool := decide (lo ≤ depth) && decide (depth ≤ hi)

/-- The band standing of two loop depths against a servo record (R74). -/
def bandOf (rec : ServoRecord) (d : PerReel Nat) : Band :=
  if !(within rec.guardLow rec.guardHigh d.file && within rec.guardLow rec.guardHigh d.machine) then .outsideGuard
  else if within rec.recoveryLow rec.recoveryHigh d.file && within rec.recoveryLow rec.recoveryHigh d.machine then
    .inRecovery
  else .inGuard

/-- The take conditions of R25 but for the records of the queue. The loops are judged by the band standing
of the last sample (R74, log 14). -/
def Transport.canTake (tr : Transport) : Bool :=
  tr.motion.isNone && tr.phase == .stopped && tr.condition == .loaded && !tr.paused && tr.servo.band != .outsideGuard

/-- The transport is idle (R167): UNLOADED or FAULTED, or LOADED with phase STOPPED and an empty queue. -/
def Transport.idle (tr : Transport) : Bool :=
  tr.condition == .unloaded || tr.condition == .faulted ||
    (tr.condition == .loaded && tr.phase == .stopped && tr.queue.isEmpty)

/-- Orders outstanding: the current order and the queue (R167). -/
def Transport.outstanding (tr : Transport) : Nat :=
  tr.queue.length + (tr.current.isSome || tr.condition == .loading).toNat

/-- A transport that does not end the quiet of the string (R133). -/
def Transport.quiet (tr : Transport) : Bool :=
  tr.condition == .unloaded || tr.condition == .faulted || (tr.condition == .loaded && tr.phase == .stopped)

/-- Every transport is UNLOADED. -/
def State.allUnloaded (s : State) : Bool := transportIds.all (fun t => (s.tr t).condition == .unloaded)

/-- The string is quiet (R133). -/
def State.quiet (s : State) : Bool := !s.allUnloaded && transportIds.all (fun t => (s.tr t).quiet)

/-- Number of occupied suspension slots (R84, R111). -/
def Hold.slotsUsed (h : Hold) : Nat := (h.slot1 != .free).toNat + h.slot2.isSome.toNat

/-- The Hold Controller has nothing: no hold cause, nothing in service, nothing pending (R38). -/
def Hold.nothing (h : Hold) : Bool := h.cause.isNone && h.inService == noRanks && h.pending == noRanks

/-- A cause stands already as the hold cause, in service or pending (R85). -/
def Hold.stands (h : Hold) (r : Rank) : Bool := h.cause == some r || h.inService.has r || h.pending.has r

/-- The Hold Controller has a cause to serve at a rest (R95, R96). -/
def Hold.hasCause (h : Hold) : Bool := h.cause.isSome || h.pending != noRanks

/-- The saved order of slot 1, if any. -/
def Slot1.order (x : Slot1) : Option Motion :=
  match x with
  | .saved m => some m
  | .free | .emptyContext => none

end Sys2Proof.Machine
end

