-- ==== Sys2Proof/Machine/Operands.lean ====
section
/-! DEFINITION. Byte order and bit fields of frames: reading the fields of a body and forming the bytes of one (R182 to R184: numbers are sent most significant byte first, signed numbers in two's complement, bit 0 is the least significant bit), and the frame check CRC-16 (R183). -/

namespace Sys2Proof.Machine

/-- The byte at an offset; an offset beyond the body reads as 0 and is only asked for where the layout does
not need it. -/
def byteAt (b : List Byte) (i : Nat) : Byte := b.getD i 0

/-- The unsigned number of `n` bytes from an offset, most significant byte first. -/
def fieldAt (b : List Byte) (i n : Nat) : Nat :=
  ((b.drop i).take n).foldl (fun acc x => acc * 256 + x.toNat) 0

/-- Bit `k` of the byte at an offset. -/
def bitAt (b : List Byte) (i k : Nat) : Bool := (byteAt b i).getLsbD k

/-- The byte of weight 256^k of a number in two's complement. -/
def byteOf (v : Int) (k : Nat) : Byte := BitVec.ofInt 8 (v / (256 : Int) ^ k)

/-- A number as `n` bytes, most significant first, in two's complement when negative. -/
def bytesOf (n : Nat) (v : Int) : List Byte := (List.range n).reverse.map (byteOf v)

/-- A byte made of bit fields, each a value and the place of its lowest bit. A bit that no field fills is sent as 0: the
layouts of chapter 12 give no sent value for the bits they leave unassigned (DESIGN CHOICE, log 41). -/
def packed (fields : List (Nat × Nat)) : Byte :=
  BitVec.ofNat 8 (fields.foldl (fun acc f => acc + f.1 * 2 ^ f.2) 0)

/-- The signed byte layout of an optional number: absent is sent as zero (chapter 12). -/
def optBytes (n : Nat) (v : Option Int) : List Byte := bytesOf n (v.getD 0)

/-- One bit of the CRC-16 register (R183): polynomial x^16 + x^12 + x^5 + 1. -/
def crcBit (r : BitVec 16) : BitVec 16 := if r.msb then (r <<< 1) ^^^ 0x1021 else r <<< 1

/-- One byte into the CRC-16 register, most significant bit first (R183). -/
def crcByte (r : BitVec 16) (x : Byte) : BitVec 16 :=
  let r := r ^^^ (x.zeroExtend 16 <<< 8)
  crcBit (crcBit (crcBit (crcBit (crcBit (crcBit (crcBit (crcBit r)))))))

/-- CRC-16 of a list of bytes: the register starts at 0xFFFF and is not inverted at the end (R183). -/
def crc16 (b : List Byte) : BitVec 16 := b.foldl crcByte 0xFFFF

/-- The two CRC bytes that close a frame, high byte first (R182). -/
def crcBytes (b : List Byte) : List Byte := bytesOf 2 (crc16 b).toNat

end Sys2Proof.Machine
end

