-- ==== Sys2Proof/Machine/Frames.lean ====
section
/-! DEFINITION. The byte layouts of the frames that the part sends: envelope (R182), position record and ending response (R188), SENSE (R189), snapshot and string reports (R190), profile and servo records (R191). -/

namespace Sys2Proof.Machine

/-! ### Codes of the layouts -/

/-- Condition code (R189). -/
def Condition.code (x : Condition) : Nat :=
  match x with
  | .unloaded => 0
  | .loading => 1
  | .loaded => 2
  | .unloading => 3
  | .faulted => 4

/-- Phase code, 0 for none (R189). -/
def phaseCode (x : Option Phase) : Nat :=
  match x with
  | none => 0
  | some .stopped => 1
  | some .waitVacuum => 2
  | some .waitGrant => 3
  | some .accel => 4
  | some .cruise => 5
  | some .decel => 6
  | some .holdDecel => 7
  | some .held => 8

/-- Step code, 0 for none (R189). -/
def stepCode (x : Option SeqStep) : Nat :=
  match x with
  | none => 0
  | some .vacuum => 1
  | some .draw => 2
  | some .search => 3
  | some .reverse => 4
  | some .reverseCreep => 5
  | some .clearing => 6
  | some .reverseStop => 7
  | some .forwardCreep => 8
  | some .wind => 9

/-- Order kind code, 0 for absent (R189). -/
def kindCode (x : Option OrderKind) : Nat :=
  match x with
  | none => 0
  | some .move => 1
  | some .rewind => 2
  | some .unload => 3
  | some .load => 4

/-- Port of origin code (R189). -/
def Origin.code (x : Origin) : Nat :=
  match x with
  | .port .a => 1
  | .port .b => 2
  | .panel => 3

/-- Owner code, 0 for NONE (R189). -/
def ownerCode (x : Option PortId) : Nat :=
  match x with
  | none => 0
  | some .a => 1
  | some .b => 2

/-- Grant state code (R189). -/
def GrantState.code (x : GrantState) : Nat :=
  match x with
  | .none => 0
  | .requested => 1
  | .held => 2

/-- Band standing code (R189). -/
def Band.code (x : Band) : Nat :=
  match x with
  | .outsideGuard => 0
  | .inGuard => 1
  | .inRecovery => 2

/-- Fault cause code (R188). -/
def FaultCause.code (x : FaultCause) : Nat :=
  match x with
  | .tachLoss => 0
  | .driveSaturation => 1
  | .columnEnd => 2
  | .tapeBreak => 3
  | .suspendOverflow => 4
  | .recoveryTimeout => 5
  | .vacuumLoss => 6
  | .coverOpen => 7

/-- Direction bit: 1 REVERSE (R187 to R189). -/
def directionBit (d : Direction) : Nat :=
  match d with
  | .forward => 0
  | .reverse => 1

/-- Rank code, 0 for none (R189). -/
def rankCode (x : Option Rank) : Nat :=
  match x with
  | none => 0
  | some r => r.number

/-- Set of ranks, rank 1 lowest (R189). -/
def RankSet.bits (x : RankSet) : Nat := x.sag.toNat + 2 * x.loopGuard.toNat + 4 * x.pause.toNat

/-- Remaining time of a timer in whole ms, 0 when stopped. The rounding of a part of a millisecond is a free
value (log 5). -/
def timerMs (x : Timer) : Nat :=
  match x with
  | none => 0
  | some us => if us % 1000 = 0 then us / 1000 else us / 1000 + (Config.roundsUp us).toNat

/-- Mode code (R185). -/
def VacuumMode.code (x : VacuumMode) : Nat :=
  match x with
  | .normal => 0
  | .economy => 1
  | .auto => 2

/-- Blower state code (R190). -/
def Blower.code (x : Blower) : Nat :=
  match x with
  | .off => 0
  | .economy => 1
  | .normal => 2

/-- Measure code (R185). -/
def Measure.code (x : Measure) : Nat :=
  match x with
  | .off => 0
  | .startLatency => 1
  | .motionCount => 2

/-- Direction filter code (R185). -/
def Filter.code (x : Filter) : Nat :=
  match x with
  | .forward => 0
  | .reverse => 1
  | .both => 2

/-- Load step code (R188). -/
def LoadStep.code (x : LoadStep) : Nat :=
  match x with
  | .vacuum => 1
  | .draw => 2

/-! ### Position record and ending response (R188) -/

/-- Direction bit of a crossing record, 0 when absent. -/
def crossingBit (x : Option Crossing) : Nat :=
  match x with
  | none => 0
  | some c => directionBit c.direction

/-- The 17 bytes of a position record (R188). -/
def Position.bytes (x : Position) : List Byte :=
  packed [(x.referenced.toNat, 0), (x.pastEot.toNat, 1), (x.eotPoint.isSome.toNat, 2), (x.lastBot.isSome.toNat, 3),
      (crossingBit x.lastBot, 4), (x.lastEot.isSome.toNat, 5), (crossingBit x.lastEot, 6)]
    :: (bytesOf 4 x.count ++ optBytes 4 x.eotPoint ++ optBytes 4 (x.lastBot.map Crossing.position)
      ++ optBytes 4 (x.lastEot.map Crossing.position))

/-- The ending-response body of 19 to 24 bytes (R188). It carries a fault cause or a load step, not both. -/
def endingBody (t : TransportId) (pos : Position) (stopError : Option Int) (cause : Option FaultCause)
    (step : Option LoadStep) : List Byte :=
  [transportByte t, packed [(stopError.isSome.toNat, 0), (cause.isSome.toNat, 1), (step.isSome.toNat, 2)]]
    ++ pos.bytes
    ++ (match stopError with | some e => bytesOf 4 e | none => [])
    ++ (match cause with | some c => [BitVec.ofNat 8 c.code] | none => [])
    ++ (match step with | some l => [BitVec.ofNat 8 l.code] | none => [])

/-! ### SENSE (R177, R189) -/

/-- The current order as SENSE reports it: kind, direction bit, port of origin, R and tag, profile number. While
LOADING it is the LOAD with its LOAD record's tag and port (R177); direction and profile number are there
those of the search motion once it stands. -/
structure SensedOrder where
  kind : OrderKind
  direction : Nat
  origin : Nat
  tag : Byte
  profileNo : Nat
  r : Option Int
  deriving DecidableEq, Repr

/-- A motion as SENSE reports it. -/
def Motion.sensed (m : Motion) : SensedOrder :=
  { kind := m.kind, direction := directionBit m.direction, origin := m.origin.code, tag := m.tag
    profileNo := m.profileNo.val, r := m.r }

/-- The current order of a transport for SENSE (R177). -/
def Transport.sensedOrder (tr : Transport) : Option SensedOrder :=
  match tr.current, tr.load.record with
  | some m, _ => some m.sensed
  | none, some l => some { kind := .load, direction := 0, origin := l.origin.code, tag := l.tag, profileNo := 0, r := none }
  | none, none => none

/-- Two bytes of a queue entry (R189). -/
def OrderRecord.entryBytes (x : OrderRecord) : List Byte :=
  [packed [(kindCode (some x.kind), 0), (x.origin.code, 2)], x.tag]

/-- The first six queue entries, filled up with zeros (R189). -/
def queueBytes (q : List OrderRecord) : List Byte :=
  let b := ((q.take queueCapacity).map OrderRecord.entryBytes).flatten
  b ++ List.replicate (2 * queueCapacity - b.length) 0

/-- Slot 1 code (R189). -/
def Slot1.code (x : Slot1) : Nat :=
  match x with
  | .free => 0
  | .saved _ => 1
  | .emptyContext => 2

/-- Further-fault count for SENSE: while FAULTED (R177); otherwise absent and sent as zero (log 13). -/
def Transport.sensedFurther (tr : Transport) : Nat :=
  match tr.condition, tr.snapshot with
  | .faulted, some x => x.further
  | _, _ => 0

/-- The 60 bytes of a SENSE response body (R189). Bits that the layout leaves unassigned (byte 3 bit 7, byte 26 bit 7,
byte 51 bits 6 and 7, the upper half of a queue entry's first byte) are sent as 0 (DESIGN CHOICE, log 41). -/
def senseBody (tr : Transport) (owner : Option PortId) : List Byte :=
  let o := tr.sensedOrder
  let h := tr.hold
  [ packed [(tr.condition.code, 0), (phaseCode tr.phaseSeen, 3), (tr.sense.offline.toNat, 7)],
    BitVec.ofNat 8 tr.sensedFurther,
    packed [(ownerCode owner, 0), (tr.release.isSome.toNat, 2), (tr.paused.toNat, 3), (tr.selected.val, 4)],
    packed [(kindCode (o.map SensedOrder.kind), 0), ((o.map SensedOrder.direction).getD 0, 3),
      ((o.map SensedOrder.origin).getD 0, 4), ((o.bind SensedOrder.r).isSome.toNat, 6)],
    (o.map SensedOrder.tag).getD 0,
    packed [((o.map SensedOrder.profileNo).getD 0, 0), (stepCode tr.load.step, 4)] ]
  ++ optBytes 4 (o.bind SensedOrder.r)
  ++ [packed [(tr.queue.length, 0), (tr.engine.grant.code, 3), ((tr.faultCause.map FaultCause.code).getD 0, 5)]]
  ++ queueBytes tr.queue
  ++ bytesOf 3 tr.engine.v
  ++ [ packed [(rankCode h.cause, 0), (rankCode h.active, 2), (h.slot1.code, 4), (h.timer.isSome.toNat, 6)],
    packed [(h.inService.bits, 0), (h.pending.bits, 3), (rankCode (h.slot2.map SavedRecovery.rank), 6)],
    BitVec.ofNat 8 ((h.slot2.map SavedRecovery.settle).getD 0),
    BitVec.ofNat 8 h.settle ]
  ++ bytesOf 2 (timerMs h.timer)
  ++ tr.position.bytes
  ++ [ BitVec.ofNat 8 tr.sense.depths.file, BitVec.ofNat 8 tr.sense.depths.machine,
    packed [(tr.servo.band.code, 0), (tr.servo.loopGuard.isSome.toNat, 2), (tr.sense.coverOpen.toNat, 3),
      (tr.lines.fileReel.toNat, 4), (tr.lines.machineReel.toNat, 5)] ]
  ++ bytesOf 2 tr.servo.reels.file.demand ++ bytesOf 2 tr.servo.reels.machine.demand
  ++ bytesOf 2 tr.servo.reels.file.radius ++ bytesOf 2 tr.servo.reels.machine.radius

/-! ### Snapshot and string reports (R190) -/

/-- The 42 bytes of a fault snapshot (R190). -/
def Snapshot.bytes (x : Snapshot) : List Byte :=
  [ BitVec.ofNat 8 x.cause.code, packed [(x.condition.code, 0), (phaseCode x.phase, 3)] ]
  ++ x.position.bytes ++ bytesOf 3 x.v
  ++ [ packed [(kindCode (x.order.map SnapshotOrder.kind), 0), ((x.order.map (fun o => o.origin.code)).getD 0, 4),
      (x.r.isSome.toNat, 6)],
    (x.order.map SnapshotOrder.tag).getD 0 ]
  ++ optBytes 4 x.r
  ++ [ BitVec.ofNat 8 x.queueDepth, packed [(x.inService.bits, 0), (x.pending.bits, 3)], BitVec.ofNat 8 x.slots,
    BitVec.ofNat 8 x.depths.file, BitVec.ofNat 8 x.depths.machine ]
  ++ bytesOf 2 x.demands.file ++ bytesOf 2 x.demands.machine
  ++ bytesOf 2 x.radii.file ++ bytesOf 2 x.radii.machine ++ [BitVec.ofNat 8 x.further]

/-- A waiting-list entry in one byte (R190). -/
def WaitEntry.byte (x : WaitEntry) : Byte := packed [((transportByte x.transport).toNat, 0), (x.priority, 2)]

/-- The 18 bytes of SENSE STRING (R130, R141, R190). -/
def senseStringBody (s : State) : List Byte :=
  let a := s.arbiter
  let v := s.vacuum
  let list := (a.waiting.take 4).map WaitEntry.byte
  [ BitVec.ofNat 8 a.limit,
    packed [(a.holders.t0.toNat, 0), (a.holders.t1.toNat, 1), (a.holders.t2.toNat, 2), (a.holders.t3.toNat, 3)],
    BitVec.ofNat 8 a.waiting.length ]
  ++ list ++ List.replicate (4 - list.length) 0
  ++ [ BitVec.ofNat 8 v.mode.code, BitVec.ofNat 8 v.blower.code, BitVec.ofNat 8 v.loss, BitVec.ofNat 8 v.sag,
    BitVec.ofNat 8 v.run, BitVec.ofNat 8 v.lastPressure,
    packed [(v.ready.toNat, 0), (v.settle.isSome.toNat, 1), (v.economy.isSome.toNat, 2)] ]
  ++ bytesOf 2 (v.settle.getD 0) ++ bytesOf 2 (timerMs v.economy)

/-- The 10 bytes of READ MONITOR (R178, R190). -/
def monitorBody (m : Monitor) : List Byte :=
  [BitVec.ofNat 8 m.measure.code, transportByte m.transport, BitVec.ofNat 8 m.filter.code]
  ++ bytesOf 2 m.samples
  ++ [packed [(m.last.isSome.toNat, 0), (m.maximum.isSome.toNat, 1), (m.running.isSome.toNat, 2)]]
  ++ bytesOf 2 (m.last.getD 0) ++ bytesOf 2 (m.maximum.getD 0)

/-- Eight bytes of a port's counters (R190). -/
def PortCounters.bytes (c : PortCounters) : List Byte :=
  bytesOf 2 c.received ++ bytesOf 2 c.checkErrors ++ bytesOf 2 c.refusals ++ bytesOf 2 c.dropped

/-- Eight bytes of a transport's counters (R190). -/
def TransportCounters.bytes (c : TransportCounters) : List Byte :=
  bytesOf 2 c.rights ++ bytesOf 2 c.radiusRejections ++ bytesOf 2 c.tachLosses ++ bytesOf 2 c.faults

/-- The 48 bytes of READ COUNTERS (R181, R190). -/
def countersBody (s : State) : List Byte :=
  (s.port .a).counters.bytes ++ (s.port .b).counters.bytes
    ++ (transportIds.map (fun t => (s.tr t).counters.bytes)).flatten

/-! ### Profile and servo records (R191) -/

/-- Class code of an entry, 0 EMPTY (R191). -/
def classCode (x : Option Profile) : Nat :=
  match x.map Profile.cls with
  | none => 0
  | some .startStop => 1
  | some .rewind => 2

/-- The 14 bytes of a profile record; zeros after the class for EMPTY (R191). -/
def profileBytes (n : Fin 16) (x : Option Profile) : List Byte :=
  [BitVec.ofNat 8 n.val, BitVec.ofNat 8 (classCode x)] ++
    match x with
    | none => List.replicate 12 0
    | some p => bytesOf 3 p.vTop ++ bytesOf 2 p.aAcc ++ bytesOf 2 p.aDec ++ bytesOf 2 p.tR
        ++ [BitVec.ofNat 8 p.priority] ++ bytesOf 2 (p.creep.getD 0)

/-- The 44 bytes of a servo record; the unload wind time in units of 100 ms (R191). The reserved byte 19 is sent as 0,
where the spec gives no value (DESIGN CHOICE, log 41). -/
def ServoRecord.bytes (x : ServoRecord) : List Byte :=
  [BitVec.ofNat 8 x.gFF, BitVec.ofNat 8 x.kp, BitVec.ofNat 8 x.kpRec] ++ bytesOf 2 x.slew
  ++ [BitVec.ofNat 8 x.satLimit, BitVec.ofNat 8 x.setpoint, BitVec.ofNat 8 x.guardLow, BitVec.ofNat 8 x.guardHigh,
    BitVec.ofNat 8 x.recoveryLow, BitVec.ofNat 8 x.recoveryHigh, BitVec.ofNat 8 x.recoverySettle]
  ++ bytesOf 2 x.recoveryLimit ++ bytesOf 3 x.kRad ++ bytesOf 2 x.window ++ [0]
  ++ bytesOf 2 x.initialFile ++ bytesOf 2 x.initialMachine ++ [BitVec.ofNat 8 x.q]
  ++ bytesOf 3 x.eotAllowance ++ [BitVec.ofNat 8 x.tachTimeout] ++ bytesOf 2 x.searchSpeed
  ++ bytesOf 3 x.searchLimit ++ bytesOf 3 x.approach ++ bytesOf 2 x.drawDemand ++ bytesOf 2 x.drawLimit
  ++ bytesOf 2 x.windDemand ++ [BitVec.ofNat 8 (x.windTime / 100)]

/-- Unit-map entry byte: a transport, or 0xFF for ABSENT (R185). -/
def unitEntry (x : Option TransportId) : Byte :=
  match x with
  | none => 0xFF
  | some t => transportByte t

/-- The 16 bytes of a unit map (R166). -/
def unitMapBytes (m : Vector (Option TransportId) 16) : List Byte := m.toList.map unitEntry

/-! ### Envelope (R182, R183) -/

/-- The bytes that the CRC covers, from the kind byte to the last body byte (R183). -/
def coveredBytes (kind unit tag code : Byte) (body : List Byte) : List Byte :=
  [kind, unit, tag, code, BitVec.ofNat 8 body.length] ++ body

/-- A whole frame: sync byte, covered bytes, CRC-16 high byte first (R182). -/
def envelope (kind unit tag code : Byte) (body : List Byte) : List Byte :=
  let c := coveredBytes kind unit tag code body
  0xA5 :: (c ++ crcBytes c)

/-- The bytes of an outgoing frame on TXD (R182, R186). -/
def OutFrame.bytes (f : OutFrame) : List Byte :=
  envelope (match f.kind with | .response => 0x03 | .attention => 0x04) f.unit f.tag f.code f.body

/-- The bytes TXD carries: those of the frame at the head of an UP port's transmit queue (R160). -/
def State.sending (s : State) (p : PortId) : List Byte :=
  match (s.port p).up, (s.port p).tx with
  | true, f :: _ => f.bytes
  | _, _ => []

end Sys2Proof.Machine
end

