-- ==== Sys2Proof/Machine/Tasks.lean ====
section
/-! DEFINITION. The hand-offs between blocks inside one event ("At once" means within the event that causes the change, 00_scope). A block's reaction changes the state and hands tasks on: `now` are done before anything else that still waits in the event, `later` at the end of the event. -/

namespace Sys2Proof.Machine

/-- What a pressure sample hands to a transport (R136). -/
structure Finding where
  belowLoss : Bool
  belowSag : Bool
  becameTrue : Bool
  becameFalse : Bool
  deriving DecidableEq, Repr

/-- A hand-off inside an event. -/
inductive Task where
  /-- The take test (R25). -/
  | takeTest (t : TransportId)
  /-- The idle report to the Port Controller (R40, R168). -/
  | idleReport (t : TransportId)
  /-- Blower state and economy timer follow the transports (R133, R134). -/
  | vacuumReview
  /-- A motion enters WAIT VACUUM (R43). -/
  | startFromRest (t : TransportId)
  /-- A motion enters WAIT GRANT (R44, R121). -/
  | enterWaitGrant (t : TransportId)
  /-- The arbiter serves its waiting list (R123). -/
  | serve
  /-- A grant is delivered (R125). -/
  | deliver (t : TransportId)
  /-- A ramp step (R45). -/
  | rampStep (t : TransportId)
  /-- Part 1 of a ramp step (R47). -/
  | limitTests (t : TransportId)
  /-- Part 2 of a ramp step (R48 to R50). -/
  | velocityUpdate (t : TransportId)
  /-- Part 3 of a ramp step (R51). -/
  | restTest (t : TransportId)
  /-- The capstan has come to rest (R51, R60). -/
  | rest (t : TransportId)
  /-- A cause arrives at the Hold Controller (R85). -/
  | arrive (t : TransportId) (r : Rank)
  /-- A cause enters service (R88). -/
  | enterService (t : TransportId) (r : Rank)
  /-- Steps 1 and 2 of R95. -/
  | holdAtRest (t : TransportId)
  /-- Step 3 of R95. -/
  | outrank (t : TransportId)
  /-- A recovery ends (R98). -/
  | recoveryEnd (t : TransportId)
  /-- Slot 1 is popped (R99, R100). -/
  | popSlot1 (t : TransportId)
  /-- The tests of resumption (R99). -/
  | resume (t : TransportId)
  /-- A cause is handed to Fault Stop (R107). -/
  | fault (t : TransportId) (c : FaultCause)
  /-- The VACUUM step of LOAD finds READY true (R144, R145). -/
  | vacuumStepTest (t : TransportId)
  /-- SEARCH begins (R147). -/
  | searchStart (t : TransportId)
  /-- A qualified marker crossing is acted on (R8, R9). -/
  | crossing (t : TransportId) (m : Marker)
  /-- The search counter is tested against the BOT search limit (R148, R153). -/
  | searchLimitTest (t : TransportId)
  /-- The reel demands of a servo sample (R65 to R70). -/
  | driveOutputs (t : TransportId)
  /-- The band tests and the loop-guard timer test of a servo sample (R74, R75). -/
  | bandTests (t : TransportId)
  /-- The findings of a pressure sample reach a transport (R136). -/
  | pressure (t : TransportId) (f : Finding)
  /-- READY becoming true is reported to a transport (R137). -/
  | readyTrue (t : TransportId)
  /-- The response of a frame within its arrival event (R160, R162). -/
  | answer (h : Head) (st : Status) (body : List Byte)
  deriving DecidableEq, Repr

/-- What a block does with one hand-off. -/
structure Reaction where
  state : State
  now : List Task := []
  later : List Task := []
  deriving DecidableEq, Repr

/-- A reaction that changes nothing. -/
def Reaction.idle (s : State) : Reaction := { state := s }

/-- A reaction with more tasks put behind its own. -/
def Reaction.andThen (r : Reaction) (now later : List Task) : Reaction :=
  { state := r.state, now := r.now ++ now, later := r.later ++ later }

end Sys2Proof.Machine
end

