-- ==== Sys2Proof/Machine/Arbiter.lean ====
section
/-! DEFINITION. The Start Grant Arbiter (chapter 7): requests, releases, withdrawals and the serving of the waiting list. -/

namespace Sys2Proof.Machine

/-- Number of holders. -/
def Arbiter.holderCount (a : Arbiter) : Nat :=
  a.holders.t0.toNat + a.holders.t1.toNat + a.holders.t2.toNat + a.holders.t3.toNat

/-- Room for a grant: no limit, or fewer holders than the limit (R121). -/
def Arbiter.room (a : Arbiter) : Bool := a.limit == 0 || decide (a.holderCount < a.limit)

/-- Whether a transport stands in the waiting list. -/
def Arbiter.lists (a : Arbiter) (t : TransportId) : Bool := a.waiting.any (fun e => e.transport == t)

/-- The list with an entry placed after every entry of the same or more urgent priority and before every
entry of less urgent priority (R122). -/
def insertEntry (e : WaitEntry) : List WaitEntry → List WaitEntry
  | [] => [e]
  | x :: rest => if x.priority ≤ e.priority then x :: insertEntry e rest else e :: x :: rest

/-- A transport joins the holders set. -/
def Arbiter.hold (a : Arbiter) (t : TransportId) : Arbiter := { a with holders := a.holders.set t true }

/-- A transport leaves the holders set. -/
def Arbiter.unhold (a : Arbiter) (t : TransportId) : Arbiter := { a with holders := a.holders.set t false }

/-- A transport joins the waiting list (R122). -/
def Arbiter.join (a : Arbiter) (t : TransportId) (priority : Nat) : Arbiter :=
  { a with
    waiting := insertEntry { transport := t, priority := priority, joined := a.nextJoin } a.waiting
    nextJoin := a.nextJoin + 1 }

/-- A transport's entry leaves the waiting list; the others keep their order (R127). -/
def Arbiter.leave (a : Arbiter) (t : TransportId) : Arbiter :=
  { a with waiting := a.waiting.filter (fun e => e.transport != t) }

/-- The state with transport `t`'s own grant state replaced (R42). -/
def State.setGrant (s : State) (t : TransportId) (g : GrantState) : State :=
  let tr := s.tr t
  s.setTr t { tr with engine := { tr.engine with grant := g } }

/-- A request (R121): with room the transport becomes a holder and the grant is delivered; without room it joins
the list. A request of a holder or of a listed transport leaves the arbiter as it stands. The transport's own grant
state follows (R120). -/
def requestGrant (t : TransportId) (priority : Nat) (s : State) : Reaction :=
  let a := s.arbiter
  if a.holders.get t || a.lists t then Reaction.idle s
  else if a.room then
    { state := ({ s with arbiter := a.hold t } : State).setGrant t .held, now := [.deliver t] }
  else Reaction.idle (({ s with arbiter := a.join t priority } : State).setGrant t .requested)

/-- A grant held is released and the list is then served; a request is withdrawn and nothing is served
(R126, R127, R110). Without either, nothing changes. The list is served before the event that gave the grant back goes
on (DESIGN CHOICE, log 49). -/
def giveUpGrant (t : TransportId) (s : State) : Reaction :=
  match (s.tr t).engine.grant with
  | .none => Reaction.idle s
  | .held => { state := ({ s with arbiter := s.arbiter.unhold t } : State).setGrant t .none, now := [.serve] }
  | .requested => Reaction.idle (({ s with arbiter := s.arbiter.leave t } : State).setGrant t .none)

/-- The arbiter serves its list: while there is room, the head is granted and its grant delivered before the
next room test (R123, R124). -/
def serveList (s : State) : Reaction :=
  let a := s.arbiter
  match a.waiting with
  | [] => Reaction.idle s
  | e :: rest =>
    if a.room then
      { state := ({ s with arbiter := ({ a with waiting := rest } : Arbiter).hold e.transport } : State).setGrant
          e.transport .held
        now := [.deliver e.transport, .serve] }
    else Reaction.idle s

end Sys2Proof.Machine
end

