-- ==== Sys2Proof/Machine/Monitor.lean ====
section
/-! DEFINITION. The Motion Monitor's answers to the reports of the transports (R179, R180). -/

namespace Sys2Proof.Machine

/-- A direction passes the filter (R179). -/
def Filter.passes (f : Filter) (d : Direction) : Bool :=
  match f, d with
  | .both, _ => true
  | .forward, .forward => true
  | .reverse, .reverse => true
  | .forward, .reverse => false
  | .reverse, .forward => false

/-- The monitor watches this transport with this measure. -/
def Monitor.watches (m : Monitor) (t : TransportId) (x : Measure) : Bool := m.transport == t && m.measure == x

/-- One more sample. -/
def Monitor.count (m : Monitor) : Monitor := { m with samples := satSucc counterTop m.samples }

/-- A take reported under R27: starts a measurement, or is counted (R179, R180). -/
def monitorTake (t : TransportId) (d : Direction) (s : State) : State :=
  let m := s.monitor
  if m.watches t .startLatency && m.filter.passes d then { s with monitor := { m with running := some s.clock } }
  else if m.watches t .motionCount && m.filter.passes d then { s with monitor := m.count }
  else s

/-- A chaining reported under R39: counted as a motion, and no start of a measurement (R179, R180). -/
def monitorChain (t : TransportId) (d : Direction) (s : State) : State :=
  let m := s.monitor
  if m.watches t .motionCount && m.filter.passes d then { s with monitor := m.count } else s

/-- A CRUISE entry reported under R48 completes a running measurement: whole milliseconds, rounded down,
saturating (R179). -/
def monitorCruise (t : TransportId) (s : State) : State :=
  let m := s.monitor
  match m.watches t .startLatency, m.running with
  | true, some start =>
    let latency := min counterTop ((s.clock - start) / 1000)
    let top := match m.maximum with | none => latency | some x => max x latency
    { s with monitor := { m.count with last := some latency, maximum := some top, running := none } }
  | _, _ => s

/-- The ending of the current order, or a fault stop, at the watched transport makes the measurement idle
(R179). -/
def monitorEnd (t : TransportId) (s : State) : State :=
  let m := s.monitor
  if m.watches t .startLatency then { s with monitor := { m with running := none } } else s

end Sys2Proof.Machine
end

