-- ==== Sys2Proof/Machine/Endings.lean ====
section
/-! DEFINITION. Endings of orders and their responses (R29 to R32), flushes (R37), the answers to RELEASE and the idle report (R40, R168). -/

namespace Sys2Proof.Machine

/-- Places an ending response for the port of origin; an order from the panel is answered to no one (R15, R31).
The unit is the order's own frame's unit within its arrival event, otherwise the lowest unit that names the
transport (R160). -/
def placeEnding (t : TransportId) (origin : Origin) (tag : Byte) (arrival : Option Byte) (st : Status)
    (stopError : Option Int) (cause : Option FaultCause) (step : Option LoadStep) (s : State) : State :=
  match origin with
  | .panel => s
  | .port p =>
    place p
      { kind := .response, unit := arrival.getD (lowestUnit (s.port p).unitMap t), tag := tag, code := st.code
        body := endingBody t (s.tr t).position stopError cause step } s

/-- The stop error of an order: R, present for a distance-limited MOVE (R31). -/
def Motion.stopError (m : Motion) : Option Int := if m.kind == .move then m.r else none

/-- Places the ending response of an order that was taken (R31). -/
def placeMotionEnding (t : TransportId) (m : Motion) (st : Status) (cause : Option FaultCause) (s : State) : State :=
  placeEnding t m.origin m.tag m.arrivalUnit st m.stopError cause none s

/-- Places the ending response of a record that ends while in the queue: no stop error (R31, R37). -/
def placeRecordEnding (t : TransportId) (st : Status) (cause : Option FaultCause) (s : State) (x : OrderRecord) :
    State :=
  placeEnding t x.origin x.tag x.arrivalUnit st none cause none s

/-- The state with transport `t`'s queue replaced. -/
def State.setQueue (s : State) (t : TransportId) (q : List OrderRecord) : State := s.setTr t { s.tr t with queue := q }

/-- Flushes the queue, head first, each record ending with one status (R37). -/
def flush (t : TransportId) (st : Status) (cause : Option FaultCause) (s : State) : State :=
  ((s.tr t).queue.foldl (placeRecordEnding t st cause) s).setQueue t []

/-- Load Control after the end of a queued order: a REWIND or UNLOAD sequence ends with it (R153, R157). -/
def LoadControl.afterOrder (l : LoadControl) : LoadControl :=
  match l.sequence with
  | .rewind | .unload => idleLoad
  | .none | .load => l

/-- The transport with its motion context emptied and the engine's working top speed gone (R32, R42). -/
def Transport.emptyMotion (tr : Transport) : Transport :=
  { tr with motion := none, engine := { tr.engine with workTop := none } }

/-- The current order ends with this status: its response is placed, the monitor is told, the motion context and
the order's sequence are gone (R32). The phase and slot 1 are the caller's. -/
def finishOrder (t : TransportId) (m : Motion) (st : Status) (s : State) : State :=
  let s := monitorEnd t (placeMotionEnding t m st none s)
  let tr := (s.tr t).emptyMotion
  s.setTr t { tr with load := tr.load.afterOrder }

/-- The state with transport `t`'s phase replaced. -/
def State.setPhase (s : State) (t : TransportId) (p : Phase) : State := s.setTr t { s.tr t with phase := p }

/-- The tasks of an ending that leaves the phase STOPPED: the take test, then at the end of the event the idle
report and the blower (R32, R134). -/
def afterEnding (t : TransportId) (s : State) : Reaction :=
  { state := s, now := [.takeTest t], later := [.idleReport t, .vacuumReview] }

/-- The current order ends and the transport stands STOPPED (R32). -/
def endOrder (t : TransportId) (m : Motion) (st : Status) (s : State) : Reaction :=
  afterEnding t ((finishOrder t m st s).setPhase t .stopped)

/-- The status of an order ended by STOP at a DECEL rest or in a waiting phase (R30). -/
def Motion.stopStatus (m : Motion) : Status :=
  if m.kind == .move then
    match m.r with
    | some r => if 0 < r then .doneEarly else .done
    | none => .done
  else .doneEarly

/-- The status of an order that ends at rest with this end reason (R30). STOP in HOLD DECEL gives DONE EARLY
whatever R is. -/
def Motion.restStatus (m : Motion) (phase : Phase) (r : EndReason) : Status :=
  match r with
  | .distance => .done
  | .stop => if phase == .holdDecel then .doneEarly else m.stopStatus
  | .eot => .eotLimit
  | .bot => .atBot
  | .tach => .tachInterrupted
  | .halt => .aborted

/-- The answer to a RELEASE placed in a later event than its own: it names its transport (R160, R186). Its unit follows the
rule of R160 for ending responses, which R160 does not state for it (DESIGN CHOICE, log 47). -/
def answerRelease (t : TransportId) (r : PendingRelease) (st : Status) (s : State) : State :=
  place r.port
    { kind := .response, unit := lowestUnit (s.port r.port).unitMap t, tag := r.tag, code := st.code
      body := [transportByte t] } s

/-- The state with transport `t`'s release-pending flag replaced (R40). -/
def State.setRelease (s : State) (t : TransportId) (r : Option PendingRelease) : State :=
  s.setTr t { s.tr t with release := r }

/-- A pending release takes effect: the owner becomes NONE, the flag is cleared and the RELEASE is answered DONE
(R110, R168). -/
def completeRelease (t : TransportId) (s : State) : State :=
  match (s.tr t).release with
  | none => s
  | some r => answerRelease t r .done ((s.setOwner t none).setRelease t none)

/-- A pending release is cancelled and answered SUPERSEDED (R22, R167, R168). -/
def supersedeRelease (t : TransportId) (s : State) : State :=
  match (s.tr t).release with
  | none => s
  | some r => answerRelease t r .superseded (s.setRelease t none)

/-- The idle report: a pending release of a transport that is idle takes effect (R40, R168). -/
def idleReport (t : TransportId) (s : State) : Reaction :=
  Reaction.idle (if (s.tr t).idle then completeRelease t s else s)

end Sys2Proof.Machine
end

