-- ==== Sys2Proof/Machine/Queue.lean ====
section
/-! DEFINITION. Taking the head of the queue (R25 to R27, R151) and chaining (R38, R39). -/

namespace Sys2Proof.Machine

/-- The profile number a record resolves to: UNLOAD 15, REWIND its number or 15, MOVE its number or the selected
profile as it stands (R21, R25). -/
def OrderRecord.resolve (x : OrderRecord) (selected : Fin 16) : Fin 16 :=
  match x.kind with
  | .unload => 15
  | .rewind => x.profile.getD 15
  | .move | .load => x.profile.getD selected

/-- The table entry serves the kind of order: REWIND and UNLOAD need the REWIND class (R21, R25). -/
def entryServes (k : OrderKind) (e : Option Profile) : Option Profile :=
  match e with
  | none => none
  | some p => if k == .move || p.cls == .rewind then some p else none

/-- The tape limits that a MOVE at rest meets (R26). -/
def limitAtRest (d : Direction) (pos : Position) (allowance : Nat) : Option Status :=
  match d with
  | .forward =>
    match pos.pastEot, pos.eotPoint with
    | true, some e => if (allowance : Int) ≤ pos.count - e then some .eotLimit else none
    | _, _ => none
  | .reverse => if pos.referenced && decide (pos.count ≤ 0) then some .atBot else none

/-- The first sub-step of a REWIND or UNLOAD (R151). -/
def firstSubStep (pos : Position) (approach : Nat) : SeqStep :=
  if pos.referenced && decide (pos.count ≤ (approach : Int)) then .reverseCreep else .reverse

/-- Load Control at the take of an order (R151, R154). -/
def LoadControl.atTake (l : LoadControl) (k : OrderKind) (pos : Position) (approach : Nat) : LoadControl :=
  match k with
  | .rewind => { idleLoad with sequence := .rewind, step := some (firstSubStep pos approach) }
  | .unload => { idleLoad with sequence := .unload, step := some (firstSubStep pos approach) }
  | .move | .load => l

/-- The direction of a taken record: a MOVE's own, REVERSE for REWIND and UNLOAD (R27, R151). -/
def OrderRecord.takeDirection (x : OrderRecord) : Direction :=
  match x.kind with
  | .move => x.direction.getD .forward
  | .rewind | .unload | .load => .reverse

/-- The motion context of a taken record (R27). -/
def OrderRecord.motion (x : OrderRecord) (n : Fin 16) (p : Profile) : Motion :=
  { kind := x.kind, tag := x.tag, origin := x.origin, direction := x.takeDirection, profileNo := n, copy := p
    r := x.distance.map (fun d => (d : Int)), endReason := none, arrivalUnit := x.arrivalUnit }

/-- The status of a record that ends at its take, or none (R25, R26). -/
def takeVerdict (x : OrderRecord) (e : Option Profile) (pos : Position) (allowance : Nat) : Option Status :=
  match entryServes x.kind e with
  | none => some .badProfile
  | some _ => if x.kind == .move then limitAtRest x.takeDirection pos allowance else none

/-- A taken order is set up in the motion context and enters WAIT VACUUM; the take is reported to the vacuum
supply and to the monitor (R27). -/
def setUpMotion (t : TransportId) (x : OrderRecord) (n : Fin 16) (p : Profile) (s : State) : Reaction :=
  let tr := s.tr t
  let s := s.setTr t
    { tr with motion := some (x.motion n p), phase := .waitVacuum
              load := tr.load.atTake x.kind tr.position (s.servoOf t).approach }
  { state := monitorTake t x.takeDirection s, now := [.vacuumReview, .startFromRest t] }

/-- The take of a record that has left the queue (R25 to R27). An order that ends at its take carries its distance
as the stop error, and the take test is made again. -/
def takeRecord (t : TransportId) (x : OrderRecord) (s : State) : Reaction :=
  let tr := s.tr t
  let n := x.resolve tr.selected
  let entry := s.tables.profiles.get n
  match takeVerdict x entry tr.position (s.servoOf t).eotAllowance, entry with
  | some st, _ =>
    { state := placeEnding t x.origin x.tag x.arrivalUnit st (x.distance.map (fun d => (d : Int))) none none s
      now := [.takeTest t], later := [.idleReport t] }
  | none, some p => setUpMotion t x n p s
  | none, none => Reaction.idle s

/-- The take test (R25). -/
def takeTest (t : TransportId) (s : State) : Reaction :=
  let tr := s.tr t
  match tr.queue with
  | [] => Reaction.idle s
  | x :: rest => if tr.canTake then takeRecord t x (s.setQueue t rest) else Reaction.idle s

/-- The head that may be chained onto the current order, with its distance (R38). -/
def chainable (tr : Transport) (m : Motion) : Option (OrderRecord × Nat) :=
  match tr.queue with
  | [] => none
  | x :: _ =>
    match x.distance with
    | none => none
    | some d =>
      if x.kind == .move && x.takeDirection == m.direction && x.resolve tr.selected == m.profileNo &&
          m.endReason.isNone && tr.hold.nothing && !tr.paused then some (x, d)
      else none

/-- R limited to its range (R24). -/
def clampR (r : Int) : Int := clamp remainingMin remainingMax r

/-- The head takes over the motion context: the unspent distance is added to its own, the profile copy and the
phase are kept (R39, R53). -/
def chain (t : TransportId) (m : Motion) (x : OrderRecord) (d : Nat) (s : State) : State :=
  let s := placeMotionEnding t m .done none s
  let tr := s.tr t
  let next : Motion :=
    { m with
      kind := x.kind, tag := x.tag, origin := x.origin, direction := x.takeDirection
      r := some (clampR ((d : Int) + m.r.getD 0)), endReason := none, arrivalUnit := x.arrivalUnit }
  monitorChain t next.direction (s.setTr t { tr with queue := tr.queue.tail, motion := some next })

end Sys2Proof.Machine
end

