-- ==== Sys2Proof/Machine/Ramp.lean ====
section
/-! DEFINITION. The Capstan Ramp Engine up to its rest test (chapter 3): starts from rest, grants, the ramp step, decelerations. What follows a rest is in Machine/Rest.lean. -/

namespace Sys2Proof.Machine

/-- The stop distance d_stop(|v|) (R46). -/
def stopDistance (p : Profile) (v : Nat) : Nat := v * v * p.tR / (2 * p.aDec * 1000000) + v * p.tR / 1000000

/-- The creep speed of a copy; a copy without one (no REWIND class) creeps at its top speed. -/
def Profile.creepSpeed (p : Profile) : Nat := p.creep.getD p.vTop

/-- The working top speed of a start from rest: V_top of the copy, or for the sub-steps of REWIND and UNLOAD what
R152 gives (R44, R62, R147, R152). -/
def startSpeed (m : Motion) (step : Option SeqStep) (pos : Position) (approach : Nat) : Nat :=
  match m.kind with
  | .move | .load => m.copy.vTop
  | .rewind | .unload =>
    match step with
    | some .reverse =>
      if pos.referenced && decide (pos.count ≤ (approach : Int)) then m.copy.creepSpeed else m.copy.vTop
    | some .reverseCreep | some .clearing | some .reverseStop | some .forwardCreep => m.copy.creepSpeed
    | some .vacuum | some .draw | some .search | some .wind | none => m.copy.vTop

/-- The working top speed at a start from rest: Load Control sets that of a sequence motion (R62, R147, R152). That of a
MOVE is set when its grant is given (R44) and stands as it is until then (DESIGN CHOICE, log 27). -/
def Transport.topAtStart (tr : Transport) (m : Motion) (approach : Nat) : Option Nat :=
  match m.kind with
  | .move => tr.engine.workTop
  | .load | .rewind | .unload => some (startSpeed m tr.load.step tr.position approach)

/-- A motion enters WAIT VACUUM, with the working top speed of a sequence motion set (R62), and, when READY is true, goes
on to WAIT GRANT at once (R43). -/
def startFromRest (t : TransportId) (s : State) : Reaction :=
  let tr := s.tr t
  match tr.motion with
  | none => Reaction.idle s
  | some m =>
    { state := s.setTr t
        { tr with
          phase := .waitVacuum
          engine := { tr.engine with workTop := tr.topAtStart m (s.servoOf t).approach } }
      now := if s.vacuum.ready then [.enterWaitGrant t] else [] }

/-- A motion enters WAIT GRANT and requests a grant with the priority of its copy (R44, R121). -/
def enterWaitGrant (t : TransportId) (s : State) : Reaction :=
  match (s.tr t).motion with
  | none => Reaction.idle s
  | some m => requestGrant t m.copy.priority (s.setPhase t .waitGrant)

/-- A grant, HELD since the arbiter gave it, is delivered: ACCEL, the working top speed set, and the first ramp step
within the event (R44, R45, R125). A sequence motion gets the speed that its sub-step then has (log 27). -/
def deliver (t : TransportId) (s : State) : Reaction :=
  let tr := s.tr t
  match tr.motion with
  | none => Reaction.idle s
  | some m =>
    let top := startSpeed m tr.load.step tr.position (s.servoOf t).approach
    { state := s.setTr t
        { tr with phase := .accel, engine := { tr.engine with workTop := some top, stepTimer := true } }
      now := [.rampStep t] }

/-- READY becoming false reaches a motion in WAIT GRANT: its request is withdrawn and it returns to WAIT VACUUM
(R44, R138). -/
def loseReady (t : TransportId) (s : State) : State :=
  let tr := s.tr t
  if tr.hasPhase && tr.phase == .waitGrant then (giveUpGrant t s).state.setPhase t .waitVacuum else s

/-- A deceleration begins: the phase changes at once, and a grant held is released (R52); the list is served at that
point of the event (DESIGN CHOICE, log 49). -/
def beginDecel (t : TransportId) (ph : Phase) (s : State) : Reaction := giveUpGrant t (s.setPhase t ph)

/-- The state with the current order's end reason set, unless R29 keeps an earlier one. -/
def setEndReason (t : TransportId) (r : EndReason) (s : State) : State :=
  match (s.tr t).current with
  | none => s
  | some m => s.setTr t ((s.tr t).setCurrent (m.endWith r))

/-- The state with the current order's end reason replaced by HALT (R29). -/
def setHaltReason (t : TransportId) (s : State) : State :=
  match (s.tr t).current with
  | none => s
  | some m => s.setTr t ((s.tr t).setCurrent { m with endReason := some .halt })

/-- The state with transport `t`'s search outcome replaced (R148). -/
def setOutcome (t : TransportId) (o : SearchOutcome) (s : State) : State :=
  let tr := s.tr t
  s.setTr t { tr with load := { tr.load with outcome := o } }

/-- The EOT limit of R47 and R54 is reached at velocity magnitude `v`. -/
def eotLimitReached (m : Motion) (pos : Position) (allowance v : Nat) : Bool :=
  match m.direction, pos.pastEot, pos.eotPoint with
  | .forward, true, some e => decide ((allowance : Int) - (stopDistance m.copy v : Int) ≤ pos.count - e)
  | _, _, _ => false

/-- The distance test of R47 passes at velocity magnitude `v`. -/
def distanceReached (m : Motion) (v : Nat) : Bool :=
  match m.kind, m.r with
  | .move, some r => decide (r ≤ (stopDistance m.copy v : Int))
  | _, _ => false

/-- An EOT stop (R55): DECEL at once, end reason EOT; for the BOT search the outcome becomes EOT when it is NONE
(R148). -/
def eotStop (t : TransportId) (m : Motion) (s : State) : Reaction :=
  if m.kind == .load then
    beginDecel t .decel (if (s.tr t).load.outcome == .none then setOutcome t .eot s else s)
  else beginDecel t .decel (setEndReason t .eot s)

/-- Part 1 of a ramp step: the EOT limit, then the distance test with the chaining test (R47). Where it gives back a
grant, the transports served make their first ramp steps, and place what frames these bring, before parts 2 and 3 of this
step, its rest and the take that follows (DESIGN CHOICE, log 49: the spec gives no order). -/
def limitTests (t : TransportId) (s : State) : Reaction :=
  let tr := s.tr t
  match tr.motion with
  | none => Reaction.idle s
  | some m =>
    if (tr.phase == .accel || tr.phase == .cruise) && tr.hold.cause.isNone then
      if eotLimitReached m tr.position (s.servoOf t).eotAllowance tr.engine.v.natAbs then eotStop t m s
      else if distanceReached m tr.engine.v.natAbs then
        match chainable tr m with
        | some (x, d) => Reaction.idle (chain t m x d s)
        | none => beginDecel t .decel (setEndReason t .distance s)
      else Reaction.idle s
    else Reaction.idle s

/-- A speed with the sign of a direction. -/
def signed (d : Direction) (v : Nat) : Int :=
  match d with
  | .forward => (v : Int)
  | .reverse => -(v : Int)

/-- The new speed of a ramp step and whether the step enters CRUISE (R48 to R50). -/
def nextSpeed (phase : Phase) (p : Profile) (top v : Nat) : Nat × Bool :=
  match phase with
  | .accel =>
    if v < top then (min (v + p.aAcc) top, decide (top ≤ v + p.aAcc)) else (max (v - p.aDec) top, true)
  | .cruise => (if top < v then max (v - p.aDec) top else v, false)
  | .decel | .holdDecel => (v - p.aDec, false)
  | .stopped | .waitVacuum | .waitGrant | .held => (v, false)

/-- Tach-loss timer of a servo record, in microseconds (R57). -/
def ServoRecord.tachTime (x : ServoRecord) : Nat := ms x.tachTimeout

/-- Part 2 of a ramp step: the velocity update (R48 to R50). The tach-loss timer starts at the step at which |v|
becomes nonzero (R57). Entering CRUISE releases the grant and is reported to the monitor. -/
def velocityUpdate (t : TransportId) (s : State) : Reaction :=
  let tr := s.tr t
  match tr.motion with
  | none => Reaction.idle s
  | some m =>
    let e := tr.engine
    let (v, cruise) := nextSpeed tr.phase m.copy (e.workTop.getD m.copy.vTop) e.v.natAbs
    let timer :=
      if e.v == 0 && v != 0 && e.tach == .clear then some (s.servoOf t).tachTime else e.tachTimer
    let s := s.setTr t { tr with engine := { e with v := signed m.direction v, tachTimer := timer } }
    if cruise then giveUpGrant t (monitorCruise t (s.setPhase t .cruise)) else Reaction.idle s

/-- Part 3 of a ramp step: when a deceleration has left v at 0 the step timer and the tach-loss timer stop and the
rest is acted on (R51). -/
def restTest (t : TransportId) (s : State) : Reaction :=
  let tr := s.tr t
  if tr.engine.v == 0 && (tr.phase == .decel || tr.phase == .holdDecel) then
    { state := s.setTr t { tr with engine := { tr.engine with stepTimer := false, tachTimer := none } }
      now := [.rest t] }
  else Reaction.idle s

/-- A ramp step, made while the ramp is active, in its three parts (R45); for a grant given back in part 1 see log 49. -/
def rampStep (t : TransportId) (s : State) : Reaction :=
  let tr := s.tr t
  if tr.hasPhase && tr.phase.moving && tr.engine.stepTimer then
    { state := s, now := [.limitTests t, .velocityUpdate t, .restTest t] }
  else Reaction.idle s

end Sys2Proof.Machine
end

