-- ==== Sys2Proof/Machine/Hold.lean ====
section
/-! DEFINITION. The Hold Controller (chapter 5): arriving causes, the suspension slots, recoveries and their ends. -/

namespace Sys2Proof.Machine

/-- The state with transport `t`'s Hold Controller replaced. -/
def State.setHold (s : State) (t : TransportId) (h : Hold) : State := s.setTr t { s.tr t with hold := h }

/-- A pending cause taken out of the pending set. -/
def Hold.dropPending (h : Hold) (r : Rank) : Hold := { h with pending := h.pending.put r false }

/-- The context push: the motion context moves into slot 1, or an empty context does when its order has ended, and
the phase becomes HELD (R87). -/
def pushContext (t : TransportId) (s : State) : State :=
  let tr := s.tr t
  let slot : Slot1 := match tr.motion with | some m => .saved m | none => .emptyContext
  let tr := tr.emptyMotion
  s.setTr t { tr with phase := .held, hold := { tr.hold with slot1 := slot } }

/-- A cause enters service and becomes the active recovery; a LOOP GUARD starts the recovery timer; a VACUUM SAG
that finds READY true ends at once (R88). -/
def enterService (t : TransportId) (r : Rank) (s : State) : Reaction :=
  let h := (s.tr t).hold
  let timer : Timer := if r == .loopGuard then some (ms (s.servoOf t).recoveryLimit) else none
  { state := s.setHold t { h with inService := h.inService.put r true, active := some r, settle := 0, timer := timer }
    now := if r == .sag && s.vacuum.ready then [.recoveryEnd t] else [] }

/-- The recovery push: the active recovery moves into slot 2 with its rank and settle count, and its timer stops
(R87, R89). -/
def pushRecovery (t : TransportId) (a : Rank) (s : State) : State :=
  let h := (s.tr t).hold
  s.setHold t { h with slot2 := some { rank := a, settle := h.settle }, timer := none }

/-- A cause joins the pending set. -/
def addPending (t : TransportId) (r : Rank) (s : State) : Reaction :=
  let h := (s.tr t).hold
  Reaction.idle (s.setHold t { h with pending := h.pending.put r true })

/-- A cause arriving in HELD (R97, R87). -/
def arriveHeld (t : TransportId) (r : Rank) (s : State) : Reaction :=
  let h := (s.tr t).hold
  match h.active with
  | none => addPending t r s
  | some a =>
    if r.outranks a then
      if h.slot2.isSome then { state := s, now := [.fault t .suspendOverflow] }
      else { state := pushRecovery t a s, now := [.enterService t r] }
    else addPending t r s

/-- A cause arriving at the Hold Controller, by phase (R85, R91 to R94, R97). A cause that stands already changes
nothing, and VACUUM SAG does not arise in a waiting phase or in DECEL. -/
def arriveCause (t : TransportId) (r : Rank) (s : State) : Reaction :=
  let tr := s.tr t
  if !tr.hasPhase || tr.hold.stands r then Reaction.idle s
  else
    match tr.phase with
    | .stopped => Reaction.idle s
    | .waitVacuum | .waitGrant =>
      if r == .sag then Reaction.idle s
      else { state := pushContext t (giveUpGrant t s).state, now := [.enterService t r] }
    | .accel | .cruise => beginDecel t .holdDecel (s.setHold t { tr.hold with cause := some r })
    | .decel => if r == .sag then Reaction.idle s else addPending t r s
    | .holdDecel => addPending t r s
    | .held => arriveHeld t r s

/-- Steps 1 and 2 of R95 with the context push: the hold cause, or else the most urgent pending cause, enters
service. With neither, and at a transport that has no motion phase, nothing is pushed. -/
def holdAtRest (t : TransportId) (s : State) : Reaction :=
  let tr := s.tr t
  if !tr.hasPhase then Reaction.idle s
  else
    match tr.hold.cause, tr.hold.pending.mostUrgent with
    | some c, _ =>
      let s := pushContext t s
      { state := s.setHold t { (s.tr t).hold with cause := none }, now := [.enterService t c, .outrank t] }
    | none, some p =>
      let s := pushContext t s
      { state := s.setHold t ((s.tr t).hold.dropPending p), now := [.enterService t p, .outrank t] }
    | none, none => Reaction.idle s

/-- Step 3 of R95: a pending cause more urgent than the active recovery pushes it to slot 2. -/
def outrank (t : TransportId) (s : State) : Reaction :=
  let h := (s.tr t).hold
  match h.active, h.pending.mostUrgent with
  | some a, some p =>
    if p.outranks a && h.slot2.isNone then
      { state := pushRecovery t a (s.setHold t (h.dropPending p)), now := [.enterService t p] }
    else Reaction.idle s
  | _, _ => Reaction.idle s

/-- The pending cause that takes the place of an ended recovery (R98, choice 1). -/
def Hold.successor (h : Hold) : Option Rank :=
  match h.pending.mostUrgent, h.slot2 with
  | none, _ => none
  | some p, none => some p
  | some p, some saved => if p.outranks saved.rank then some p else none

/-- The active recovery ends: its cause leaves service, and a pending cause, slot 2 or slot 1 comes next (R98). -/
def recoveryEnd (t : TransportId) (s : State) : Reaction :=
  let h := (s.tr t).hold
  match h.active with
  | none => Reaction.idle s
  | some a =>
    let h := { h with inService := h.inService.put a false, active := none, settle := 0, timer := none }
    match h.successor, h.slot2 with
    | some p, _ => { state := s.setHold t (h.dropPending p), now := [.enterService t p] }
    | none, some saved => { state := s.setHold t { h with slot2 := none }, now := [.enterService t saved.rank] }
    | none, none => { state := s.setHold t h, now := [.popSlot1 t] }

/-- Slot 1 is popped: a saved order becomes the motion context again and is tested (R99); an empty context ends
the hold (R100). -/
def popSlot1 (t : TransportId) (s : State) : Reaction :=
  let tr := s.tr t
  match tr.hold.slot1 with
  | .free => Reaction.idle s
  | .saved m =>
    { state := s.setTr t { tr with motion := some m, hold := { tr.hold with slot1 := .free } }, now := [.resume t] }
  | .emptyContext =>
    afterEnding t (s.setTr t { tr with phase := .stopped, hold := { tr.hold with slot1 := .free } })

/-- What an ending DECEL rest does with the pending set: level causes are dropped, and a pending PAUSE becomes the
paused flag (R93). -/
def Transport.dropAtEnding (tr : Transport) : Transport :=
  { tr with paused := tr.paused || tr.hold.pending.pause, hold := { tr.hold with pending := noRanks } }

/-- The state with the pending set dealt with as at an ending rest (R93). -/
def dropAtEnding (t : TransportId) (s : State) : State := s.setTr t (s.tr t).dropAtEnding

/-- A pending level cause leaves the pending set when its condition has ended (R86). -/
def endCondition (t : TransportId) (r : Rank) (s : State) : State := s.setHold t ((s.tr t).hold.dropPending r)

end Sys2Proof.Machine
end

