-- ==== Sys2Proof/Machine/Load.lean ====
section
/-! DEFINITION. Load Control (chapter 9): the LOAD sequence, the sub-steps of REWIND and UNLOAD, the WIND step, and the entry to UNLOADED with the values that every chapter gives for it. -/

namespace Sys2Proof.Machine

/-! ### Entry to UNLOADED -/

/-- A reel's servo after an entry to UNLOADED: demand and run 0, window restarted, estimate kept (R71, R81). -/
def ReelServo.stopped (x : ReelServo) : ReelServo :=
  { x with demand := 0, satRun := 0, windowCount := 0, reelCount := 0 }

/-- A column with its tape-seen flag cleared (R5). -/
def Column.unseen (c : Column) : Column := { c with tapeSeen := false }

/-- The sense state with the position record cleared, the marker runs idle and the tape-seen flags clear (R5,
R11). -/
def Sense.cleared (x : Sense) : Sense :=
  { x with
    position := clearedPosition, botRun := idleRun, eotRun := idleRun
    columns := { file := x.columns.file.unseen, machine := x.columns.machine.unseen } }

/-- The transport at its entry to UNLOADED: the values each chapter gives for it (R1, R5, R11, R17, R35, R41, R63,
R71, R81, R83, R106, R116, R157). The Hold Controller stands cleared: a cause still pending at the rest of a halted
search is dropped as at an ending rest (R93, R103). -/
def Transport.unloaded (tr : Transport) : Transport :=
  { tr with
    condition := .unloaded, phase := .stopped, paused := false, brakesEngaged := true, valveOpen := false
    sense := { tr.sense.cleared with lastDirection := none }
    servo := { tr.servo with
      reels := { file := tr.servo.reels.file.stopped, machine := tr.servo.reels.machine.stopped }
      mode := .zero, loopGuard := none }
    hold := idleHold, load := idleLoad }

/-- Transport `t` enters UNLOADED. -/
def enterUnloaded (t : TransportId) (s : State) : State := s.setTr t (s.tr t).unloaded

/-! ### LOAD -/

/-- Places the ending response of a LOAD for the port of its LOAD record; no stop error (R149). -/
def placeLoadEnding (t : TransportId) (st : Status) (cause : Option FaultCause) (step : Option LoadStep)
    (s : State) : State :=
  match (s.tr t).load.record with
  | none => s
  | some l => placeEnding t l.origin l.tag none st none cause step s

/-- A LOAD begins: LOADING in its VACUUM step with the 10 s wait; the blower follows, and READY is looked at
(R144). The radius windows run on with the reel counts of UNLOADED (R78), and no estimate is made from them (R3, R81;
`Transport.beforeDraw`, log 43). -/
def startLoad (t : TransportId) (origin : Origin) (tag : Byte) (s : State) : Reaction :=
  let tr := s.tr t
  { state := s.setTr t
      { tr with
        condition := .loading
        load := { idleLoad with sequence := .load, record := some { origin := origin, tag := tag }
                                step := some .vacuum, timer := some vacuumWait } }
    now := [.vacuumReview, .vacuumStepTest t] }

/-- DRAW start: valve, brakes, position record, tape-seen flags, radius estimates and windows, servo mode and the
draw limit (R146). -/
def drawStart (t : TransportId) (s : State) : State :=
  let tr := s.tr t
  let record := s.servoOf t
  s.setTr t
    { tr with
      brakesEngaged := false, valveOpen := true
      sense := tr.sense.cleared
      servo := { tr.servo with
        reels := { file := idleReel record.initialFile, machine := idleReel record.initialMachine }, mode := .draw }
      load := { tr.load with step := some .draw, timer := some (ms record.drawLimit) } }

/-- A transport in the VACUUM step of LOAD with READY true begins DRAW (R144, R145). -/
def vacuumStepTest (t : TransportId) (s : State) : Reaction :=
  let tr := s.tr t
  Reaction.idle
    (if tr.condition == .loading && tr.load.step == some .vacuum && s.vacuum.ready then drawStart t s else s)

/-- The position record with the referenced flag cleared (R11). -/
def Position.unreferenced (x : Position) : Position := { x with referenced := false }

/-- The endings of a LOAD that leave the transport unreferenced: NO BOT and BAD PROFILE (R147, R149). -/
def Status.leavesUnreferenced (st : Status) : Bool := st == .noBot || st == .badProfile

/-- Transport `t` at the ending of a LOAD that leaves it LOADED: unreferenced where R147 and R149 say so. A forward BOT
crossing can have referenced it before, as early as DRAW (R2, R8). -/
def unreferenceAtEnding (t : TransportId) (st : Status) (s : State) : State :=
  let tr := s.tr t
  if st.leavesUnreferenced then s.setTr t (tr.setPosition tr.position.unreferenced) else s

/-- A LOAD ends with the transport LOADED (R149). The phase becomes STOPPED, unless an empty context stands in
slot 1. Where the ending leaves the transport unreferenced, the flag is cleared before the response is placed, so that
the response shows it clear (DESIGN CHOICE, log 45). -/
def endLoadLoaded (t : TransportId) (st : Status) (s : State) : Reaction :=
  let s := placeLoadEnding t st none none (unreferenceAtEnding t st s)
  let tr := (s.tr t).emptyMotion
  afterEnding t
    (s.setTr t
      { tr with
        condition := .loaded, load := idleLoad
        phase := if tr.hold.slot1 == .emptyContext then .held else .stopped })

/-- A LOAD ends with the transport UNLOADED (R149, R150). -/
def endLoadUnloaded (t : TransportId) (st : Status) (step : Option LoadStep) (s : State) : Reaction :=
  let s := placeLoadEnding t st none step s
  let s := s.setTr t (s.tr t).emptyMotion
  { state := enterUnloaded t s, later := [.idleReport t, .vacuumReview] }

/-- The copy of profile 0 that the BOT search runs on (R62). -/
def Profile.forSearch (p : Profile) (speed : Nat) : Profile := { p with vTop := speed }

/-- The motion context of the BOT search (R147). -/
def searchMotion (l : LoadRecord) (p : Profile) (speed : Nat) : Motion :=
  { kind := .load, tag := l.tag, origin := l.origin, direction := .forward, profileNo := 0
    copy := p.forSearch speed, r := none, endReason := none, arrivalUnit := none }

/-- SEARCH begins at the servo sample that ends DRAW, at a LOADING transport (R147). -/
def searchStart (t : TransportId) (s : State) : Reaction :=
  let tr := s.tr t
  match tr.condition == .loading, s.tables.profiles.get 0, tr.load.record with
  | false, _, _ => Reaction.idle s
  | true, some p, some l =>
    { state := s.setTr t
        { tr with
          motion := some (searchMotion l p (s.servoOf t).searchSpeed)
          servo := { tr.servo with mode := .track }
          load := { tr.load with step := some .search, timer := none, searchCount := 0, outcome := .none } }
      now := [.startFromRest t] }
  | true, _, _ => endLoadLoaded t .badProfile s

/-- The status of a LOAD or of a forward creep by its search outcome (R149, R153). -/
def SearchOutcome.status (o : SearchOutcome) : Status :=
  match o with
  | .botFound => .done
  | .limit => .noBot
  | .eot => .eotLimit
  | .none => .done

/-! ### Sub-steps of REWIND and UNLOAD -/

/-- FORWARD CREEP becomes the sub-step: direction FORWARD, the search counter 0 and the working top speed the creep
speed, in a wait and in slot 1 too (R62, R152). -/
def Transport.forwardCreep (tr : Transport) (m : Motion) : Transport :=
  let tr := tr.setCurrent { m with direction := .forward }
  { tr with
    load := { tr.load with step := some .forwardCreep, searchCount := 0 }
    engine := { tr.engine with workTop := some m.copy.creepSpeed } }

/-- At a rest of a REWIND or UNLOAD with no end reason the sub-step is brought up to date (R152). -/
def Transport.nextSubStep (tr : Transport) (m : Motion) : Transport :=
  match tr.load.step with
  | some .reverseStop => tr.forwardCreep m
  | some .clearing => if tr.load.markerCleared then tr.forwardCreep m else tr
  | _ => tr

/-- WIND begins: UNLOADING, the valve closed, the servo in WIND mode, the Hold Controller's cause and pending set
dropped, the wind timer started (R154). -/
def windStart (t : TransportId) (s : State) : Reaction :=
  let tr := s.tr t
  { state := s.setTr t
      { tr with
        condition := .unloading, phase := .stopped, valveOpen := false
        engine := { tr.engine with workTop := none }
        hold := { tr.hold with cause := none, pending := noRanks }
        servo := { tr.servo with mode := .wind }
        load := { tr.load with step := some .wind, timer := some (ms (s.servoOf t).windTime) } }
    later := [.vacuumReview] }

/-- A REWIND ends AT BOT, or an UNLOAD begins its WIND step, with the capstan at rest and nothing held (R153,
R154). -/
def endAtBot (t : TransportId) (m : Motion) (s : State) : Reaction :=
  if m.kind == .unload then windStart t s else endOrder t m .atBot s

/-- The capstan is asked for a deceleration to rest without an end reason, from ACCEL or CRUISE (R62). -/
def decelWithoutReason (t : TransportId) (s : State) : Reaction := beginDecel t .decel s

/-- The effect of a decided search outcome on a LOAD search, by phase (R148). -/
def searchDecided (t : TransportId) (s : State) : Reaction :=
  let tr := s.tr t
  match tr.phase with
  | .accel | .cruise => decelWithoutReason t s
  | .waitVacuum | .waitGrant =>
    let r := giveUpGrant t s
    endLoadLoaded t tr.load.outcome.status r.state
  | .decel | .holdDecel | .held | .stopped => Reaction.idle s

/-- The BOT search limit decides a forward creep, by phase (R153). In a waiting phase the order ends at once, as
R148 has it for the search (log 17). -/
def creepLimited (t : TransportId) (m : Motion) (s : State) : Reaction :=
  match (s.tr t).phase with
  | .accel | .cruise => decelWithoutReason t s
  | .waitVacuum | .waitGrant => endOrder t m .noBot (giveUpGrant t s).state
  | .decel | .holdDecel | .held | .stopped => Reaction.idle s

/-- The search counter has reached the BOT search limit with no outcome yet (R148, R153). -/
def searchLimitReached (t : TransportId) (s : State) : Reaction :=
  let tr := s.tr t
  match tr.current with
  | none => Reaction.idle s
  | some m =>
    if tr.load.outcome != .none then Reaction.idle s
    else if tr.searching then searchDecided t (setOutcome t .limit s)
    else if tr.condition == .loaded && tr.load.step == some .forwardCreep && m.endReason != some .bot then
      creepLimited t m (setOutcome t .limit s)
    else Reaction.idle s

/-- The search counter is tested against the BOT search limit at an applied count (R148, R153). -/
def searchLimitTest (t : TransportId) (s : State) : Reaction :=
  if ((s.servoOf t).searchLimit : Int) ≤ (s.tr t).load.searchCount then searchLimitReached t s else Reaction.idle s

/-! ### Crossings handed to Load Control -/

/-- A forward BOT crossing in FORWARD CREEP (R153). In a waiting phase a REWIND ends AT BOT at once, and an UNLOAD
goes on to WIND (log 16). A crossing after the outcome LIMIT sets the end reason too, and the order then ends by it
(DESIGN CHOICE, log 46). -/
def creepBotFound (t : TransportId) (m : Motion) (s : State) : Reaction :=
  let phase := (s.tr t).phase
  let s := setEndReason t .bot s
  match phase with
  | .accel | .cruise => beginDecel t .decel s
  | .waitVacuum | .waitGrant => endAtBot t m (giveUpGrant t s).state
  | .decel | .holdDecel | .held | .stopped => Reaction.idle s

/-- A qualified forward BOT crossing as Load Control takes it (R8, R148, R153). -/
def botForwardToLoad (t : TransportId) (s : State) : Reaction :=
  let tr := s.tr t
  match tr.current with
  | none => Reaction.idle s
  | some m =>
    if tr.searching then searchDecided t (setOutcome t .botFound s)
    else if tr.condition == .loaded && tr.load.step == some .forwardCreep then creepBotFound t m s
    else Reaction.idle s

/-- A qualified reverse BOT crossing of a reverse MOVE, by phase (R56). -/
def botReverseMove (t : TransportId) (m : Motion) (s : State) : Reaction :=
  match (s.tr t).phase with
  | .accel | .cruise => beginDecel t .decel (setEndReason t .bot s)
  | .decel | .stopped => Reaction.idle s
  | .holdDecel | .held => Reaction.idle (setEndReason t .bot s)
  | .waitVacuum | .waitGrant => endOrder t m .atBot (giveUpGrant t s).state

/-- The sub-step becomes CLEARING with the marker-cleared flag clear (R152). -/
def beginClearing (t : TransportId) (s : State) : State :=
  let tr := s.tr t
  s.setTr t { tr with load := { tr.load with step := some .clearing, markerCleared := false } }

/-- A qualified reverse BOT crossing as the engine and Load Control take it (R56, R152). -/
def botReverse (t : TransportId) (s : State) : Reaction :=
  let tr := s.tr t
  match tr.current with
  | none => Reaction.idle s
  | some m =>
    match m.kind, m.direction with
    | .move, .reverse => botReverseMove t m s
    | .rewind, _ | .unload, _ =>
      if tr.load.step == some .reverse || tr.load.step == some .reverseCreep then Reaction.idle (beginClearing t s)
      else Reaction.idle s
    | .move, .forward | .load, _ => Reaction.idle s

/-- BOTS becomes inactive in CLEARING (R152). -/
def markerLeft (t : TransportId) (s : State) : Reaction :=
  let tr := s.tr t
  match tr.current, tr.load.step with
  | some m, some .clearing =>
    match tr.phase with
    | .accel | .cruise =>
      decelWithoutReason t (s.setTr t { tr with load := { tr.load with step := some .reverseStop } })
    | .decel | .holdDecel => Reaction.idle (s.setTr t { tr with load := { tr.load with markerCleared := true } })
    | .waitVacuum | .waitGrant | .held => Reaction.idle (s.setTr t (tr.forwardCreep m))
    | .stopped => Reaction.idle s
  | _, _ => Reaction.idle s

end Sys2Proof.Machine
end

