-- ==== Sys2Proof/Machine/Rest.lean ====
section
/-! DEFINITION. What follows a rest of the capstan (R51, R60, R93, R95, R96, R148, R153, R154) and what follows the pop of a saved order (R99). -/

namespace Sys2Proof.Machine

/-- The order ends at a rest. At a DECEL rest the pending set is dealt with and the transport stands STOPPED (R93);
at a HOLD DECEL rest with a cause to serve the phase becomes HELD over an empty context (R96). -/
def endAtRest (t : TransportId) (m : Motion) (st : Status) (s : State) : Reaction :=
  let tr := s.tr t
  if tr.phase == .holdDecel && tr.hold.hasCause then
    { state := finishOrder t m st s, now := [.holdAtRest t] }
  else
    let s := dropAtEnding t (finishOrder t m st s)
    afterEnding t (s.setPhase t .stopped)

/-- The BOT search of a LOAD ends at a rest with the transport LOADED (R148, R149). A HOLD DECEL rest with a cause
to serve leaves an empty context in slot 1. -/
def endSearchAtRest (t : TransportId) (st : Status) (s : State) : Reaction :=
  let tr := s.tr t
  if tr.phase == .holdDecel && tr.hold.hasCause then
    (endLoadLoaded t st s).andThen [.holdAtRest t] []
  else endLoadLoaded t st (dropAtEnding t s)

/-- A motion at rest that has not ended: the Hold Controller serves its causes, or with none the motion restarts as
`restart` says (R95). -/
def holdOrRestart (t : TransportId) (restart : Task) (s : State) : Reaction :=
  { state := s, now := if (s.tr t).hold.hasCause then [.holdAtRest t] else [restart] }

/-- A rest of the LOAD search with the tach state CLEAR (R148, R150). -/
def searchRest (t : TransportId) (m : Motion) (s : State) : Reaction :=
  let tr := s.tr t
  if m.endReason == some .halt then endLoadUnloaded t .aborted none s
  else if tr.load.outcome == .none then holdOrRestart t (.startFromRest t) s
  else if tr.phase == .holdDecel && tr.hold.hasCause then { state := s, now := [.holdAtRest t] }
  else endSearchAtRest t tr.load.outcome.status s

/-- A rest of the LOAD search with the tach state COUNT SEEN: HALT first, then the outcome that stood before the
detection, otherwise TACH INTERRUPTED (R148). -/
def searchCountSeen (t : TransportId) (m : Motion) (s : State) : Reaction :=
  let o := (s.tr t).load.tachOutcome
  if m.endReason == some .halt then endLoadUnloaded t .aborted none s
  else endSearchAtRest t (if o == .none then .tachInterrupted else o.status) s

/-- A queued order with its end reason set ends at the rest; the rest of an UNLOAD at BOT begins WIND instead (R51,
R154). A pending PAUSE becomes the paused flag at a DECEL rest (R93, log 18). -/
def orderRest (t : TransportId) (m : Motion) (r : EndReason) (s : State) : Reaction :=
  if m.kind == .unload && r == .bot then
    windStart t (if (s.tr t).phase == .decel then dropAtEnding t s else s)
  else endAtRest t m (m.restStatus (s.tr t).phase r) s

/-- A rest of a REWIND or UNLOAD with no end reason (R95, R152, R153). -/
def sequenceRest (t : TransportId) (m : Motion) (s : State) : Reaction :=
  let tr := s.tr t
  if tr.load.outcome == .limit && !(tr.phase == .holdDecel && tr.hold.hasCause) then endAtRest t m .noBot s
  else holdOrRestart t (.startFromRest t) (s.setTr t (tr.nextSubStep m))

/-- A rest with the tach state CLEAR (R51). An end reason goes before the outcome LIMIT of a forward creep (DESIGN CHOICE,
log 46). A MOVE without an end reason restarts with the tests of a resumption
(R95, step 4). -/
def clearRest (t : TransportId) (m : Motion) (s : State) : Reaction :=
  match m.kind, m.endReason with
  | .load, _ => searchRest t m s
  | .move, some r | .rewind, some r | .unload, some r => orderRest t m r s
  | .move, none => if (s.tr t).phase == .holdDecel then holdOrRestart t (.resume t) s else Reaction.idle s
  | .rewind, none | .unload, none => sequenceRest t m s

/-- A rest with the tach state COUNT SEEN: the order ends within the step and does not resume. This holds of an UNLOAD
with end reason BOT too, which stays LOADED at the position reached, as R60 states; for its status see log 16. -/
def countSeenRest (t : TransportId) (m : Motion) (s : State) : Reaction :=
  match m.kind with
  | .load => searchCountSeen t m s
  | .move | .rewind | .unload => endAtRest t m (m.restStatus (s.tr t).phase (m.endReason.getD .tach)) s

/-- The state with transport `t`'s tach state CLEAR (R60). -/
def clearTach (t : TransportId) (s : State) : State :=
  let tr := s.tr t
  s.setTr t { tr with engine := { tr.engine with tach := .clear } }

/-- The capstan has come to rest at a ramp step (R51, R60). -/
def rest (t : TransportId) (s : State) : Reaction :=
  let tr := s.tr t
  match tr.motion with
  | none => Reaction.idle s
  | some m =>
    match tr.engine.tach with
    | .detected => { state := s, now := [.fault t .tachLoss] }
    | .countSeen => countSeenRest t m (clearTach t s)
    | .clear => clearRest t m s

/-- The tests of a resumed MOVE, in order (R99): R at 0 or below, a saved BOT, the tape limits of R26. -/
def resumeVerdict (m : Motion) (pos : Position) (allowance : Nat) : Option Status :=
  match m.r with
  | some r =>
    if r ≤ 0 then some .done
    else if m.endReason == some .bot then some .atBot else limitAtRest m.direction pos allowance
  | none => if m.endReason == some .bot then some .atBot else limitAtRest m.direction pos allowance

/-- A popped order is tested and starts from rest, or ends (R99, R148, R153, R154). Of a REWIND or UNLOAD the end reason
BOT goes before the outcome LIMIT (DESIGN CHOICE, log 46). -/
def resume (t : TransportId) (s : State) : Reaction :=
  let tr := s.tr t
  match tr.motion with
  | none => Reaction.idle s
  | some m =>
    match m.kind with
    | .move =>
      match resumeVerdict m tr.position (s.servoOf t).eotAllowance with
      | some st => endOrder t m st s
      | none => { state := s, now := [.startFromRest t] }
    | .rewind | .unload =>
      if m.endReason == some .bot then endAtBot t m s
      else if tr.load.outcome == .limit then endOrder t m .noBot s
      else { state := s, now := [.startFromRest t] }
    | .load =>
      if tr.load.outcome == .none then { state := s, now := [.startFromRest t] }
      else endLoadLoaded t tr.load.outcome.status s

end Sys2Proof.Machine
end

