-- ==== Sys2Proof/Machine/FaultStop.lean ====
section
/-! DEFINITION. Fault Stop and Snapshot (chapter 6): the snapshot, the fault stop in its sequence, and further faults. -/

namespace Sys2Proof.Machine

/-- The current order as the snapshot records it: the LOAD while LOADING (R111). -/
def Transport.snapshotOrder (tr : Transport) : Option SnapshotOrder :=
  match tr.condition, tr.load.record with
  | .loading, some l => some { kind := .load, tag := l.tag, origin := l.origin }
  | _, _ => tr.current.map (fun m => { kind := m.kind, tag := m.tag, origin := m.origin })

/-- The fault snapshot written from the state as it stands when the cause is handed (R111). -/
def Transport.takeSnapshot (tr : Transport) (c : FaultCause) : Snapshot :=
  { cause := c, condition := tr.condition, phase := tr.phaseSeen, position := tr.position, v := tr.engine.v
    order := tr.snapshotOrder, r := tr.current.bind Motion.stopError, queueDepth := tr.queue.length
    inService := tr.hold.inService, pending := tr.hold.pending, slots := tr.hold.slotsUsed
    depths := tr.sense.depths
    demands := { file := tr.servo.reels.file.demand, machine := tr.servo.reels.machine.demand }
    radii := { file := tr.servo.reels.file.radius, machine := tr.servo.reels.machine.radius }
    further := 0 }

/-- A reel's servo in ZERO mode: demand and saturation run 0, estimate and window kept (R71, R83). -/
def ReelServo.zeroed (x : ReelServo) : ReelServo := { x with demand := 0, satRun := 0 }

/-- The servo in ZERO mode (R71). -/
def Servo.zeroed (x : Servo) : Servo :=
  { x with reels := { file := x.reels.file.zeroed, machine := x.reels.machine.zeroed }, mode := .zero }

/-- A column with its run counts at 0 (R6, R108). -/
def Column.unrun (c : Column) : Column := { c with zeroRun := 0, upperRun := 0, lowerRun := 0 }

/-- Ends the current order ABORTED with the fault cause: the LOAD while LOADING, otherwise the order in the motion
context or in slot 1 (R109). -/
def abortCurrent (t : TransportId) (c : FaultCause) (s : State) : State :=
  let tr := s.tr t
  if tr.condition == .loading then placeLoadEnding t .aborted (some c) none s
  else
    match tr.current with
    | none => s
    | some m => placeMotionEnding t m .aborted (some c) s

/-- The transport as the fault stop leaves it: drives stopped, brakes engaged, valve as it was, everything it was
asked to do gone, FAULTED with its cause and snapshot (R108, R109). The grant state is settled apart. -/
def Transport.faultStopped (tr : Transport) (c : FaultCause) (snap : Snapshot) : Transport :=
  { tr with
    condition := .faulted, phase := .stopped, faultCause := some c, snapshot := some snap
    engine := { idleEngine with grant := tr.engine.grant }
    servo := { tr.servo.zeroed with loopGuard := none }
    brakesEngaged := true
    sense := { tr.sense with
      columns := { file := tr.sense.columns.file.unrun, machine := tr.sense.columns.machine.unrun } }
    motion := none, queue := [], paused := false, hold := idleHold, load := idleLoad
    counters := { tr.counters with faults := satSucc counterTop tr.counters.faults } }

/-- A fault stop (R108 to R110). On each port the frames stand as R110 orders them: the current order's ending, the
flushed records, the FAULT STOP attention for the owner as it stood, the DONE of a pending release. The arbiter
then serves its list when a grant was given back. A frame that a transport so granted places in the same event stands
behind these: the spec gives no order between them (DESIGN CHOICE, log 44). -/
def faultStop (t : TransportId) (c : FaultCause) (s : State) : Reaction :=
  let snap := (s.tr t).takeSnapshot c
  let owner := s.owner t
  let s := abortCurrent t c s
  let s := flush t .aborted (some c) s
  let s := s.setTr t ((s.tr t).faultStopped c snap)
  let s := attendAll (attentionPorts owner s) t .faultStop [BitVec.ofNat 8 c.code] s
  let s := completeRelease t s
  (giveUpGrant t (monitorEnd t s)).andThen [] [.vacuumReview]

/-- A further fault: the snapshot's further-fault count rises by 1, to at most 255, and nothing else changes
(R113). -/
def furtherFault (t : TransportId) (s : State) : State :=
  let tr := s.tr t
  s.setTr t
    { tr with snapshot := tr.snapshot.map (fun x => { x with further := satSucc smallCountTop x.further }) }

/-- A cause handed to Fault Stop (R107). -/
def handFault (t : TransportId) (c : FaultCause) (s : State) : Reaction :=
  if (s.tr t).condition == .faulted then Reaction.idle (furtherFault t s) else faultStop t c s

end Sys2Proof.Machine
end

