-- ==== Sys2Proof/Machine/Sense.lean ====
section
/-! DEFINITION. The Transport Sense Interface (chapter 1): decoding and applying capstan counts, marker runs and qualified crossings, the column checks, the radius windows that counts close (R78 to R80). -/

namespace Sys2Proof.Machine

/-! ### Capstan counts -/

/-- The count that a change of the two phases gives (R1): a change of CTA that makes it differ from CTB, or a change
of CTB that makes it equal to CTA, brings CTA ahead. Both together, or neither, give none (log 22). -/
def countDirection (l : Lines) (cta ctb : Bool) : Option Direction :=
  match l.cta != cta, l.ctb != ctb with
  | true, false => some (if cta != ctb then .forward else .reverse)
  | false, true => some (if cta == ctb then .forward else .reverse)
  | true, true | false, false => none

/-- What a count adds to the position (R10). -/
def unitStep (d : Direction) : Int :=
  match d with
  | .forward => 1
  | .reverse => -1

/-- A position count limited to its range (R8, R10). -/
def clampPosition (c : Int) : Int := clamp positionMin positionMax c

/-- The position record after one applied count (R10). -/
def Position.moved (x : Position) (d : Direction) : Position := { x with count := clampPosition (x.count + unitStep d) }

/-- A marker run that starts at a count (R7). -/
def MarkerRun.start (d : Direction) (edge : Int) : MarkerRun :=
  { count := 1, direction := d, edge := edge, qualified := false }

/-- A marker run advanced by one applied count, with the position as it stood before the count (R7). -/
def MarkerRun.advance (x : MarkerRun) (active : Bool) (d : Direction) (before : Int) : MarkerRun :=
  if !active then { x with count := 0 }
  else if x.count == 0 || x.direction != d then MarkerRun.start d before
  else { x with count := x.count + 1 }

/-- An active run reaches Q with its flag clear (R7). -/
def MarkerRun.qualifies (x : MarkerRun) (active : Bool) (q : Nat) : Bool :=
  active && decide (q ≤ x.count) && !x.qualified

/-- A run after its test against Q (R7). -/
def MarkerRun.judged (x : MarkerRun) (active : Bool) (q : Nat) : MarkerRun :=
  if x.qualifies active q then { x with qualified := true } else x

/-- A run ended by its input becoming inactive (R7). -/
def MarkerRun.ended (x : MarkerRun) : MarkerRun := { x with count := 0, qualified := false }

/-! ### Radius windows -/

/-- The radius measured over a window: K_rad / n rounded half up (R79). -/
def measuredRadius (kRad n : Nat) : Nat := (2 * kRad + n) / (2 * n)

/-- A window of this reel count is accepted: n is not 0 and the measurement is plausible (R79). -/
def windowAccepted (kRad n : Nat) : Bool :=
  n != 0 && decide (plausibleMin ≤ measuredRadius kRad n) && decide (measuredRadius kRad n ≤ plausibleMax)

/-- The estimate moved a quarter of the way toward a measurement and clamped (R80). -/
def movedRadius (r : Int) (measured : Nat) : Int := clamp radiusMin radiusMax (r + trunc ((measured : Int) - r) 4)

/-- A window closes: the estimate is updated unless the window is rejected, and the window restarts (R79, R80). Before
DRAW start the estimate is `kept` (R3, R81; log 43). -/
def ReelServo.closeWindow (x : ReelServo) (kept : Bool) (kRad : Nat) : ReelServo :=
  { x with
    radius := if !kept && windowAccepted kRad x.reelCount then movedRadius x.radius (measuredRadius kRad x.reelCount) else x.radius
    windowCount := 0, reelCount := 0 }

/-- A reel's window counts one applied capstan count; a direction change restarts it first (R78). -/
def ReelServo.counted (x : ReelServo) (change : Bool) : ReelServo :=
  if change then { x with windowCount := 1, reelCount := 0 }
  else { x with windowCount := satSucc windowCountTop x.windowCount }

/-- The window stands at W or above (R79). -/
def ReelServo.windowFull (x : ReelServo) (window : Nat) : Bool := decide (window ≤ x.windowCount)

/-- A reel's window after an applied count: closed when it reaches W (R78, R79), the estimate kept before DRAW start (R3,
R81; log 43). -/
def ReelServo.afterCount (x : ReelServo) (kept change : Bool) (record : ServoRecord) : ReelServo :=
  let x := x.counted change
  if x.windowFull record.window then x.closeWindow kept record.kRad else x

/-- Whether an applied count closes the window and it is rejected (R79), before DRAW start too (log 43). -/
def ReelServo.rejects (x : ReelServo) (change : Bool) (record : ServoRecord) : Bool :=
  let x := x.counted change
  x.windowFull record.window && !windowAccepted record.kRad x.reelCount

/-- A reel's window counts one reel pulse (R3, R78). -/
def ReelServo.pulsed (x : ReelServo) : ReelServo := { x with reelCount := satSucc counterTop x.reelCount }

/-- The radius-rejection counter with one more rejection, if there is one (R79). -/
def TransportCounters.rejected (c : TransportCounters) (b : Bool) : TransportCounters :=
  if b then { c with radiusRejections := satSucc counterTop c.radiusRejections } else c

/-- The state with the window of one reel closed (R79). -/
def closeWindow (t : TransportId) (x : Reel) (s : State) : State :=
  let tr := s.tr t
  let kRad := (s.servoOf t).kRad
  let reel := tr.servo.reels.get x
  s.setTr t
    { tr with
      servo := { tr.servo with reels := tr.servo.reels.set x (reel.closeWindow tr.beforeDraw kRad) }
      counters := tr.counters.rejected (!windowAccepted kRad reel.reelCount) }

/-! ### Where an applied count goes (R2) -/

/-- The order's R after a count: less 1 in the order's direction, more 1 against it (R24). -/
def Motion.counted (m : Motion) (d : Direction) : Motion :=
  { m with r := m.r.map (fun r => clampR (if d == m.direction then r - 1 else r + 1)) }

/-- The transport with its current order's R counted (R24). -/
def Transport.countR (tr : Transport) (d : Direction) : Transport :=
  match tr.current with
  | none => tr
  | some m => tr.setCurrent (m.counted d)

/-- The engine after a count: a running tach-loss timer restarts (R57), and a tach-loss detection has seen a
count (R59). -/
def Engine.counted (e : Engine) (tachTime : Nat) : Engine :=
  { e with
    tachTimer := e.tachTimer.map (fun _ => tachTime)
    tach := if e.tach == .detected then .countSeen else e.tach }

/-- The step counts capstan counts in the search counter: SEARCH or a creep step (R143). -/
def SeqStep.searches (x : SeqStep) : Bool :=
  match x with
  | .search | .reverseCreep | .forwardCreep => true
  | .vacuum | .draw | .reverse | .clearing | .reverseStop | .wind => false

/-- Load Control after a count: its search counter (R143). -/
def LoadControl.counted (l : LoadControl) (d : Direction) : LoadControl :=
  if (l.step.map SeqStep.searches).getD false then
    { l with searchCount := clamp (-searchCountTop) searchCountTop (l.searchCount + unitStep d) }
  else l

/-- The rewind approach test: in REVERSE with the position referenced, a reverse count that leaves the position at
the approach distance or below makes the sub-step REVERSE CREEP and the working top speed the creep speed, in
every phase (R151, log 26). -/
def Transport.approachTest (tr : Transport) (d : Direction) (approach : Nat) : Transport :=
  match tr.current with
  | none => tr
  | some m =>
    if d == Direction.reverse && tr.load.step == some .reverse && tr.position.referenced &&
        decide (tr.position.count ≤ (approach : Int)) then
      { tr with
        load := { tr.load with step := some .reverseCreep }
        engine := { tr.engine with workTop := some m.copy.creepSpeed } }
    else tr

/-- The sense state after a count but for the crossings: edge stamps from the position before it, the position
moved, the runs advanced and judged (R2, R7). -/
def Sense.counted (x : Sense) (l : Lines) (d : Direction) (q : Nat) : Sense :=
  { x with
    lastDirection := some d
    position := x.position.moved d
    botRun := (x.botRun.advance l.bots d x.position.count).judged l.bots q
    eotRun := (x.eotRun.advance l.eots d x.position.count).judged l.eots q }

/-- Whether a marker's crossing qualifies at this count (R7). -/
def Sense.qualifiesAt (x : Sense) (l : Lines) (d : Direction) (q : Nat) (m : Marker) : Bool :=
  ((x.run m).advance (l.marker m) d x.position.count).qualifies (l.marker m) q

/-- The count is a direction change (R1). -/
def Sense.changes (x : Sense) (d : Direction) : Bool :=
  match x.lastDirection with
  | none => false
  | some e => e != d

/-- Both reels' windows after a count (R78, R79). -/
def Servo.counted (x : Servo) (kept change : Bool) (record : ServoRecord) : Servo :=
  { x with
    reels := { file := x.reels.file.afterCount kept change record
               machine := x.reels.machine.afterCount kept change record } }

/-- The transport after an applied count, but for the crossings and the search limit (R2). -/
def Transport.counted (tr : Transport) (d : Direction) (record : ServoRecord) : Transport :=
  let change := tr.sense.changes d
  let tr : Transport :=
    { tr with
      sense := tr.sense.counted tr.lines d record.q
      engine := tr.engine.counted record.tachTime
      servo := tr.servo.counted tr.beforeDraw change record
      counters := (tr.counters.rejected (tr.servo.reels.file.rejects change record)).rejected
        (tr.servo.reels.machine.rejects change record)
      load := tr.load.counted d }
  (tr.countR d).approachTest d record.approach

/-- The crossings that a count qualifies, in the order they are acted on: free when both markers qualify (log 8). -/
def crossingOrder (bot eot : Bool) (choice : Nat) : List Marker :=
  match bot, eot with
  | true, true => if choice = 0 then [.bot, .eot] else [.eot, .bot]
  | true, false => [.bot]
  | false, true => [.eot]
  | false, false => []

/-- An applied capstan count (R2): the crossings it qualifies are acted on last, then the search limit is tested. A
grant that a crossing gives back is served before what comes after it (log 49). -/
def applyCount (t : TransportId) (d : Direction) (s : State) : Reaction :=
  let tr := s.tr t
  let record := s.servoOf t
  let bot := tr.sense.qualifiesAt tr.lines d record.q .bot
  let eot := tr.sense.qualifiesAt tr.lines d record.q .eot
  let order := crossingOrder bot eot (s.choice 2)
  let s := s.setTr t (tr.counted d record)
  { state := if bot && eot then s.chose else s
    now := order.map (Task.crossing t) ++ [.searchLimitTest t] }

/-- The state with the levels of the capstan phases of a transport replaced. -/
def setPhases (t : TransportId) (cta ctb : Bool) (s : State) : State :=
  let tr := s.tr t
  s.setTr t { tr with lines := { tr.lines with cta := cta, ctb := ctb } }

/-! ### Qualified crossings (R8, R9) -/

/-- A position moved back by an edge stamp, clamped (R8). -/
def shifted (edge c : Int) : Int := clampPosition (c - edge)

/-- A crossing record moved back by an edge stamp (R8). -/
def Crossing.shift (edge : Int) (x : Crossing) : Crossing := { x with position := shifted edge x.position }

/-- The position record after a forward BOT crossing with this edge stamp (R8). -/
def Position.referencedAt (x : Position) (edge : Int) : Position :=
  { referenced := true, count := shifted edge x.count, pastEot := x.pastEot, eotPoint := x.eotPoint.map (shifted edge)
    lastBot := some { position := 0, direction := .forward }, lastEot := x.lastEot.map (Crossing.shift edge) }

/-- The position record after a reverse BOT crossing (R8). -/
def Position.botReversed (x : Position) (edge : Int) : Position :=
  { x with lastBot := some { position := edge, direction := .reverse } }

/-- The position record after a forward EOT crossing (R9). -/
def Position.eotPassed (x : Position) (edge : Int) : Position :=
  { x with pastEot := true, eotPoint := some edge, lastEot := some { position := edge, direction := .forward } }

/-- The position record after a reverse EOT crossing (R9). -/
def Position.eotReturned (x : Position) (edge : Int) : Position :=
  { x with pastEot := false, eotPoint := none, lastEot := some { position := edge, direction := .reverse } }

/-- A qualified crossing is acted on, by marker and by the run's direction (R8, R9). -/
def crossing (t : TransportId) (m : Marker) (s : State) : Reaction :=
  let tr := s.tr t
  let run := tr.sense.run m
  match m, run.direction with
  | .bot, .forward => botForwardToLoad t (s.setTr t (tr.setPosition (tr.position.referencedAt run.edge)))
  | .bot, .reverse => botReverse t (s.setTr t (tr.setPosition (tr.position.botReversed run.edge)))
  | .eot, .forward =>
    Reaction.idle
      (attendAll (attentionPorts (s.owner t) s) t .eotCrossed (bytesOf 4 run.edge)
        (s.setTr t (tr.setPosition (tr.position.eotPassed run.edge))))
  | .eot, .reverse => Reaction.idle (s.setTr t (tr.setPosition (tr.position.eotReturned run.edge)))

/-! ### Column checks of a servo sample (R4 to R6) -/

/-- The depth of one column in a reading. -/
def readDepth (x : LoopReading) (r : Reel) : Nat :=
  match r with
  | .file => x.flp.toNat
  | .machine => x.mlp.toNat

/-- The upper and the lower end switch of one column in a reading. -/
def readEnds (x : LoopReading) (r : Reel) : Bool × Bool :=
  match r with
  | .file => (x.fue, x.fle)
  | .machine => (x.mue, x.mle)

/-- A run count from 0 to 2 after a sample: one more when `hit`, otherwise 0 (R5, R6). -/
def nextRun (hit : Bool) (n : Nat) : Nat := if hit then satSucc 2 n else 0

/-- A column after a sample that read it at this depth with these end switches. The flag set by this sample counts
for its end switches (log 10). -/
def Column.sampled (c : Column) (tr : Transport) (depth : Nat) (ends : Bool × Bool) : Column :=
  let seen := c.tapeSeen || ((tr.condition == .loaded || tr.drawBegun) && depth != 0)
  let checked := tr.columnChecked { c with tapeSeen := seen }
  { tapeSeen := seen, zeroRun := nextRun (checked && depth == 0) c.zeroRun
    upperRun := nextRun (checked && ends.1) c.upperRun, lowerRun := nextRun (checked && ends.2) c.lowerRun }

/-- The cause that the columns of a sample give: TAPE BREAK before COLUMN END (R6). -/
def columnCause (a b : Column) : Option FaultCause :=
  if a.zeroRun == 2 || b.zeroRun == 2 then some .tapeBreak
  else if a.upperRun == 2 || a.lowerRun == 2 || b.upperRun == 2 || b.lowerRun == 2 then some .columnEnd
  else none

/-- The transport with the depths and the column checks of a sample (R4 to R6). -/
def Transport.sampled (tr : Transport) (x : LoopReading) : Transport :=
  { tr with
    sense := { tr.sense with
      depths := { file := readDepth x .file, machine := readDepth x .machine }
      columns := { file := tr.sense.columns.file.sampled tr (readDepth x .file) (readEnds x .file)
                   machine := tr.sense.columns.machine.sampled tr (readDepth x .machine) (readEnds x .machine) } } }

end Sys2Proof.Machine
end

