-- ==== Sys2Proof/Machine/Servo.lean ====
section
/-! DEFINITION. The Reel Servo at a servo sample (chapter 4): mode, targets, clamp and saturation run, slew and output, band tests, loop-guard timer, and what the band standing does in the other blocks. -/

namespace Sys2Proof.Machine

/-- The servo mode of a sample (R65). Engaged brakes give ZERO. -/
def Transport.servoMode (tr : Transport) : ServoMode :=
  if tr.brakesEngaged then .zero
  else
    match tr.condition, tr.load.step with
    | .unloaded, _ | .faulted, _ => .zero
    | .loading, some .draw => .draw
    | .loading, some .search => .track
    | .loading, _ => .zero
    | .loaded, _ => .track
    | .unloading, some .wind => .wind
    | .unloading, _ => .zero

/-- The feed-forward part of a target (R66). -/
def feedForward (v : Int) (gFF : Nat) (radius : Int) : Int := trunc (v * gFF) (16 * radius)

/-- The loop correction of a target (R67). -/
def loopCorrection (x : Reel) (gain setpoint depth : Nat) : Int :=
  match x with
  | .file => trunc ((gain : Int) * ((setpoint : Int) - depth)) 4
  | .machine => trunc ((gain : Int) * ((depth : Int) - setpoint)) 4

/-- The loop gain: Kp_rec while LOOP GUARD is the active recovery, otherwise Kp (R67). -/
def loopGain (record : ServoRecord) (active : Option Rank) : Nat := if active == some .loopGuard then record.kpRec else record.kp

/-- The target of a reel before the clamp (R66, R67, R72, R73). -/
def reelTarget (mode : ServoMode) (x : Reel) (record : ServoRecord) (tr : Transport) : Int :=
  match mode, x with
  | .zero, _ => 0
  | .draw, .file => record.drawDemand
  | .draw, .machine => -(record.drawDemand : Int)
  | .wind, .file => -(record.windDemand : Int)
  | .wind, .machine => 0
  | .track, x =>
    feedForward tr.engine.v record.gFF (tr.servo.reels.get x).radius
      + loopCorrection x (loopGain record tr.hold.active) record.setpoint (tr.sense.depths.get x)

/-- A demand limited to the demand range (R68). -/
def clampDemand (d : Int) : Int := clamp (-demandTop) demandTop d

/-- The saturation run after a sample: one more in TRACK when the target has been clamped, otherwise 0 (R68). -/
def nextSatRun (mode : ServoMode) (target : Int) (n : Nat) : Nat :=
  if mode == .track && clampDemand target != target then satSucc smallCountTop n else 0

/-- The output of a reel under the slew limit (R70). -/
def slewed (last target : Int) (slew : Nat) : Int := last + clamp (-(slew : Int)) slew (clampDemand target - last)

/-- A reel's servo after the three steps of a sample (R65). -/
def ReelServo.driven (x : ReelServo) (mode : ServoMode) (target : Int) (slew : Nat) : ReelServo :=
  if mode == .zero then x.zeroed
  else { x with demand := slewed x.demand target slew, satRun := nextSatRun mode target x.satRun }

/-- A clamped sample leaves the run at SAT_LIMIT or above (R69). -/
def ReelServo.saturates (x : ReelServo) (mode : ServoMode) (target : Int) (limit : Nat) : Bool :=
  mode == .track && clampDemand target != target && decide (limit ≤ nextSatRun mode target x.satRun)

/-- The servo of a transport after the demands of a sample (R65 to R70). -/
def Transport.servoDriven (tr : Transport) (record : ServoRecord) : Servo :=
  let mode := tr.servoMode
  { tr.servo with
    mode := mode
    reels := { file := tr.servo.reels.file.driven mode (reelTarget mode .file record tr) record.slew
               machine := tr.servo.reels.machine.driven mode (reelTarget mode .machine record tr) record.slew } }

/-- Either reel saturates at this sample (R69). -/
def Transport.servoSaturates (tr : Transport) (record : ServoRecord) : Bool :=
  let mode := tr.servoMode
  tr.servo.reels.file.saturates mode (reelTarget mode .file record tr) record.satLimit ||
    tr.servo.reels.machine.saturates mode (reelTarget mode .machine record tr) record.satLimit

/-- The demands of a sample are placed on the lines (R65 to R70). -/
def driveOutputs (t : TransportId) (s : State) : Reaction :=
  let tr := s.tr t
  Reaction.idle (s.setTr t { tr with servo := tr.servoDriven (s.servoOf t) })

/-- The loop-guard timer after a sample (R75). -/
def nextLoopGuard (tr : Transport) (band : Band) (limit : Nat) : Timer :=
  if tr.condition == .loaded && tr.phase == .stopped && band == .outsideGuard then
    match tr.servo.loopGuard with
    | none => some (ms limit)
    | some x => some x
  else none

/-- What a band standing does in the Hold Controller's own record: a pending LOOP GUARD ends with its condition
(R86), and an active LOOP GUARD recovery counts its settle samples (R89). -/
def Hold.sampled (h : Hold) (band : Band) : Hold :=
  let h := if band == .outsideGuard then h else h.dropPending .loopGuard
  if h.active == some .loopGuard then
    { h with settle := if band == .inRecovery then satSucc smallCountTop h.settle else 0 }
  else h

/-- The active LOOP GUARD recovery has its settle samples (R89). -/
def Hold.settled (h : Hold) (band : Band) (goal : Nat) : Bool :=
  h.active == some .loopGuard && band == .inRecovery && decide (goal ≤ h.settle)

/-- The tasks that the band standing of a sample gives (R25, R74, R85, R89, R146). -/
def bandTasks (t : TransportId) (old : Band) (tr : Transport) (record : ServoRecord) : List Task :=
  let band := tr.servo.band
  (if tr.hasPhase && band == .outsideGuard then [.arrive t .loopGuard] else [])
    ++ (if tr.hasPhase && tr.hold.settled band record.recoverySettle then [.recoveryEnd t] else [])
    ++ (if old == .outsideGuard && band != .outsideGuard then [.takeTest t] else [])
    ++ (if tr.condition == .loading && tr.load.step == some .draw && band == .inRecovery then [.searchStart t] else [])

/-- The transport after the band tests and the loop-guard timer test of a sample (R74, R75, R86, R89). -/
def Transport.bandTested (tr : Transport) (record : ServoRecord) : Transport :=
  let band := bandOf record tr.sense.depths
  { tr with
    servo := { tr.servo with band := band, loopGuard := nextLoopGuard tr band record.recoveryLimit }
    hold := if tr.hasPhase then tr.hold.sampled band else tr.hold }

/-- The band tests and the loop-guard timer test of a sample, and the hand-offs of the band standing (R74, R75). -/
def bandTests (t : TransportId) (s : State) : Reaction :=
  let tr := s.tr t
  let new := tr.bandTested (s.servoOf t)
  { state := s.setTr t new, now := bandTasks t tr.servo.band new (s.servoOf t) }

/-- The tasks of a servo sample, by the cause of its columns and by whether a reel saturates. The column cause is
handed before the outputs of the sample are formed (log 40); beside a DRIVE SATURATION the order of the two causes
is free (R69, log 7). -/
def sampleTasks (t : TransportId) (column : Option FaultCause) (saturates : Bool) (choice : Nat) : List Task :=
  match column, saturates with
  | some c, true =>
    if choice = 0 then [.fault t c, .driveOutputs t, .fault t .driveSaturation, .bandTests t]
    else [.driveOutputs t, .fault t .driveSaturation, .fault t c, .bandTests t]
  | some c, false => [.fault t c, .driveOutputs t, .bandTests t]
  | none, true => [.driveOutputs t, .fault t .driveSaturation, .bandTests t]
  | none, false => [.driveOutputs t, .bandTests t]

/-- A servo sample (R4 to R6, R65). -/
def servoSample (t : TransportId) (x : LoopReading) (s : State) : Reaction :=
  let tr := (s.tr t).sampled x
  let column := columnCause tr.sense.columns.file tr.sense.columns.machine
  let saturates := tr.servoSaturates (s.servoOf t)
  let s' := s.setTr t tr
  { state := if column.isSome && saturates then s'.chose else s'
    now := sampleTasks t column saturates (s.choice 2) }

end Sys2Proof.Machine
end

