-- ==== Sys2Proof/Machine/VacuumSupply.lean ====
section
/-! DEFINITION. The Vacuum Supply Controller (chapter 8): the blower state and the economy timer, pressure samples, READY, and the findings handed to the transports. -/

namespace Sys2Proof.Machine

/-- READY becoming false is reported to every transport; those in WAIT GRANT return to WAIT VACUUM (R138). -/
def reportReadyFalse (s : State) : State := transportIds.foldl (fun s t => loseReady t s) s

/-- The blower state that the mode and the transports call for (R133). -/
def blowerFor (mode : VacuumMode) (allUnloaded quiet : Bool) (present : Blower) : Blower :=
  if allUnloaded then .off
  else
    match mode with
    | .normal => .normal
    | .economy => .economy
    | .auto => if quiet && present == .economy then .economy else .normal

/-- The blower state is set: at a change the settle timer stops, and a change away from NORMAL with READY true loses
READY (R133, R138). -/
def setBlower (b : Blower) (s : State) : State :=
  if s.vacuum.blower = b then s
  else
    let s' : State := { s with vacuum := { s.vacuum with blower := b, settle := none, ready := false } }
    if s.vacuum.ready then reportReadyFalse s' else s'

/-- The economy timer under its three conditions: it keeps running, starts, or stops (R134). -/
def economyTimerFor (mode : VacuumMode) (b : Blower) (quiet : Bool) (timer : Timer) : Timer :=
  if mode == .auto && b == .normal && quiet then
    match timer with
    | none => some economyTime
    | some x => some x
  else none

/-- The blower state and the economy timer follow the mode and the transports (R133, R134). -/
def reviewVacuum (s : State) : State :=
  let s := setBlower (blowerFor s.vacuum.mode s.allUnloaded s.quiet s.vacuum.blower) s
  { s with vacuum := { s.vacuum with
      economy := economyTimerFor s.vacuum.mode s.vacuum.blower s.quiet s.vacuum.economy } }

/-- The review of the blower state and the economy timer as a hand-off. -/
def vacuumReview (s : State) : Reaction := Reaction.idle (reviewVacuum s)

/-- The settle timer after a pressure sample (R137). -/
def nextSettle (v : Vacuum) (p : Nat) : Option Nat :=
  if v.blower != .normal || decide (p < v.run) then none
  else
    match v.settle with
    | none => some 0
    | some n => some (min settleGoal (n + pressurePeriod))

/-- READY after a pressure sample (R137, R138). -/
def nextReady (v : Vacuum) (p : Nat) (settle : Option Nat) : Bool :=
  if p < v.sag then false else v.ready || settle == some settleGoal

/-- The controller's own state after a pressure sample (R136, step 1). -/
def Vacuum.sampled (v : Vacuum) (p : Nat) : Vacuum :=
  let settle := nextSettle v p
  { v with lastPressure := p, settle := settle, ready := nextReady v p settle }

/-- What a sample hands to the transports (R136). -/
def findingOf (old new : Vacuum) : Finding :=
  { belowLoss := decide (new.lastPressure < old.loss), belowSag := decide (new.lastPressure < old.sag)
    becameTrue := !old.ready && new.ready, becameFalse := old.ready && !new.ready }

/-- VACUUM LOSS reaches this transport: LOADED, UNLOADING, or LOADING in its DRAW or SEARCH step (R140). -/
def Transport.lossReaches (tr : Transport) : Bool :=
  tr.condition == .loaded || tr.condition == .unloading || tr.drawBegun

/-- The findings of a pressure sample at one transport (R136, R138 to R140). -/
def pressure (t : TransportId) (f : Finding) (s : State) : Reaction :=
  let tr := s.tr t
  if f.belowLoss && tr.lossReaches then { state := s, now := [.fault t .vacuumLoss] }
  else
    let s := if tr.hasPhase && !f.belowSag then endCondition t .sag s else s
    { state := if f.becameFalse then loseReady t s else s
      now := (if tr.hasPhase && f.belowSag then [.arrive t .sag] else [])
        ++ (if f.becameTrue then [.readyTrue t] else []) }

/-- READY becoming true at one transport: a motion in WAIT VACUUM goes on, an active VACUUM SAG recovery ends, a
VACUUM step ends (R137). -/
def readyTrue (t : TransportId) (s : State) : Reaction :=
  let tr := s.tr t
  { state := s
    now := (if tr.hasPhase && tr.phase == .waitVacuum then [.enterWaitGrant t] else [])
      ++ (if tr.hold.active == some .sag then [.recoveryEnd t] else []) ++ [.vacuumStepTest t] }

/-- The transports that a pressure sample hands something to. -/
def State.handedTransports (s : State) : List TransportId :=
  transportIds.filter (fun t => (s.tr t).condition != .unloaded)

/-- A pressure sample; the order of the hand-offs among the transports is free (R136, log 6). -/
def pressureSample (p : Nat) (s : State) : Reaction :=
  let v := s.vacuum.sampled p
  let f := findingOf s.vacuum v
  { state := { s with vacuum := v, freeCount := s.freeCount + 4 }
    now := (freeOrder 4 s.freeCount s.handedTransports).map (fun t => Task.pressure t f) }

/-- READY becomes true at the end of the settle time (R137). -/
def settleComplete (s : State) : Reaction :=
  if s.vacuum.blower == .normal && !s.vacuum.ready then
    { state := { s with vacuum := { s.vacuum with settle := some settleGoal, ready := true }, freeCount := s.freeCount + 4 }
      now := (freeOrder 4 s.freeCount s.handedTransports).map Task.readyTrue }
  else Reaction.idle s

/-- The economy timer expires: the blower lowers (R134). -/
def economyExpiry (s : State) : State :=
  let s := setBlower .economy s
  { s with vacuum := { s.vacuum with economy := none } }

end Sys2Proof.Machine
end

