-- ==== Sys2Proof/Machine/Agenda.lean ====
section
/-! DEFINITION. The agenda of one event: hand-offs are done one after another until none is left ("At once", 00_scope). -/

namespace Sys2Proof.Machine

/-- What a hand-off does. -/
def handle (k : Task) (s : State) : Reaction :=
  match k with
  | .takeTest t => takeTest t s
  | .idleReport t => idleReport t s
  | .vacuumReview => vacuumReview s
  | .startFromRest t => startFromRest t s
  | .enterWaitGrant t => enterWaitGrant t s
  | .serve => serveList s
  | .deliver t => deliver t s
  | .rampStep t => rampStep t s
  | .limitTests t => limitTests t s
  | .velocityUpdate t => velocityUpdate t s
  | .restTest t => restTest t s
  | .rest t => rest t s
  | .arrive t r => arriveCause t r s
  | .enterService t r => enterService t r s
  | .holdAtRest t => holdAtRest t s
  | .outrank t => outrank t s
  | .recoveryEnd t => recoveryEnd t s
  | .popSlot1 t => popSlot1 t s
  | .resume t => resume t s
  | .fault t c => handFault t c s
  | .vacuumStepTest t => vacuumStepTest t s
  | .searchStart t => searchStart t s
  | .crossing t m => crossing t m s
  | .searchLimitTest t => searchLimitTest t s
  | .driveOutputs t => driveOutputs t s
  | .bandTests t => bandTests t s
  | .pressure t f => pressure t f s
  | .readyTrue t => readyTrue t s
  | .answer h st body => Reaction.idle (respond h st body s)

/-- The most hand-offs that the model follows within one event (log 19). -/
def agendaBound : Nat := 4096

/-- Does the hand-offs of one event: those that a hand-off asks for at once come next, those it leaves for the end of
the event come after all that wait. -/
def runTasks : Nat → List Task → State → Host.Outcome State Fault Refusal
  | _, [], s => .next s
  | 0, _ :: _, _ => .fault .cascadeUnfinished
  | fuel + 1, k :: rest, s =>
    let r := handle k s
    runTasks fuel (r.now ++ rest ++ r.later) r.state

/-- An event that began with this reaction, brought to its end. -/
def finish (r : Reaction) : Host.Outcome State Fault Refusal := runTasks agendaBound (r.now ++ r.later) r.state

/-- An event with a state change and no hand-off. -/
def settled (s : State) : Host.Outcome State Fault Refusal := .next s

end Sys2Proof.Machine
end

