-- ==== Sys2Proof/WellFormed.lean ====
section
/-! DEFINITION. The checks that a command meets when it can arrive at all: a frame body has at most 60 bytes (R182), and an UNKNOWN_CODE_FRAME carries a code that names nothing of its kind (R163, R185). Every other operand has its range in its type. -/

namespace Sys2Proof

/-- The greatest body length of a frame (R182). -/
def maxBody : Nat := 60

/-- The codes that name an order (R185). -/
def orderCodes : List Byte :=
  [0x01, 0x02, 0x03, 0x10, 0x11, 0x12, 0x13, 0x14, 0x15, 0x16, 0x17, 0x18, 0x19, 0x1A, 0x1B]

/-- The codes that name a management request (R185). -/
def managementCodes : List Byte :=
  [0x40, 0x41, 0x42, 0x43, 0x44, 0x45, 0x46, 0x47, 0x48, 0x49, 0x4A, 0x4B, 0x4C, 0x4D]

/-- Whether a code names something in frames of this kind (R185). -/
def knownCode (kind : InboundKind) (code : Byte) : Bool :=
  match kind with
  | .order => orderCodes.contains code
  | .management => managementCodes.contains code

/-- The body a frame command carries, where its layout has one. -/
def Instr.body? (i : Instr) : Option (List Byte) :=
  match i with
  | .move _ b | .rewind _ b | .selectProfile _ b | .loadProfile _ b | .readProfile _ b
  | .lockBank _ b | .loadServo _ b | .setUnitMap _ b | .setVacuum _ b | .setGrantLimit _ b
  | .setMonitor _ b | .readCounters _ b => some b
  | .hardReset | .capstanCount .. | .reelCount .. | .servoSample .. | .rampStep _
  | .pressureSample _ | .markerInputChange .. | .coverChange .. | .reelPresentChange ..
  | .transportPresentChange .. | .onlineSwitchChange .. | .panelLoadPress _ | .panelRewindPress _
  | .panelUnloadPress _ | .carrierUp _ | .carrierDown _ | .transmissionEnd _
  | .frameCheckFailure .. | .unknownCodeFrame .. | .unload _ | .load _ | .stop _ | .halt _
  | .pause _ | .continueOrder _ | .reserve _ | .release _ | .forceRelease _ | .clearFault _
  | .sense _ | .readSnapshot _ | .readServo _ | .readUnitMap _ | .senseString _ | .readMonitor _
  | .partReset _ | .partResetHoldExpiry | .tachLossDetection _ | .loopGuardTimerExpiry _
  | .recoveryTimerExpiry _ | .economyTimerExpiry | .vacuumStepExpiry _ | .drawLimitExpiry _
  | .unloadWindExpiry _ | .readyBecomesTrue | .markerCrossingQualified .. | .tapeBreak ..
  | .columnEnd .. | .driveSaturation .. | .recoverySettled _ | .radiusWindowClose ..
  | .searchLimitReached _ => none

/-- R182: the body length of a frame is 0 to 60. -/
def Instr.bodyFits (i : Instr) : Bool :=
  match i.body? with
  | some b => b.length ≤ maxBody
  | none => true

/-- R163, R165, R185: an unknown code is one that names nothing in frames of its kind. -/
def Instr.codeUnknown (i : Instr) : Bool :=
  match i with
  | .unknownCodeFrame _ kind code => !knownCode kind code
  | _ => true

/-- A command that can arrive. -/
def Instr.wellFormed (i : Instr) : Bool := i.bodyFits && i.codeUnknown

end Sys2Proof
end

