-- ==== Sys2Proof/Machine/Arrival.lean ====
section
/-! DEFINITION. The arrival of a frame (R158, R159, R162 to R165, R170): what is discarded, and the checks in their order up to the one that the order's own chapter makes. -/

namespace Sys2Proof.Machine

/-- The outcome of a command. -/
abbrev Result := Host.Outcome State Fault Refusal

/-- An outcome with its next state changed. -/
def mapNext (f : State → State) (r : Result) : Result :=
  match r with
  | .next s => .next (f s)
  | .fault x => .fault x
  | .refused x => .refused x

/-- The arrival of a frame with a good CRC and a kind the part takes. On a DOWN port no frame is taken (R158); while a
PART RESET hold stands it is discarded uncounted (R170); with receive-ready low or a body above 60 bytes it is
discarded as a check error (R159, R162). Any other frame is counted and served. -/
def arrival (p : PortId) (body : List Byte) (serve : State → Result) (s : State) : Result :=
  if !(s.port p).up || s.resetHold.isSome then .next s
  else if !s.receiveReady p || decide (maxBody < body.length) then .next (countCheckError p s)
  else serve (countReceived p s)

/-- A refusal as the whole service of a frame. -/
def refused (h : Head) (st : Status) (s : State) : Result := .next (refuse h st [] s)

/-- DONE as the whole service of a frame. -/
def done (h : Head) (body : List Byte) (s : State) : Result := .next (respond h .done body s)

/-- The transport that a unit of a port names: an entry of its unit map that is not ABSENT, with the
transport-present line active (R163, check 2). -/
def State.addressed (s : State) (h : Head) : Option TransportId :=
  if hu : h.unit.toNat < 16 then
    match (s.port h.port).unitMap.get ⟨h.unit.toNat, hu⟩ with
    | some t => if (s.tr t).lines.present then some t else none
    | none => none
  else none

/-- The classes of the ownership check (R164). -/
inductive OrderClass where
  | reserving | ownerOrUnowned | openOrder | reservation
  deriving DecidableEq, Repr

/-- The ownership check passes (R164). Reservation orders have their own rules. -/
def OrderClass.passes (c : OrderClass) (owner : Option PortId) (p : PortId) : Bool :=
  match c with
  | .reserving | .ownerOrUnowned => owner.isNone || owner == some p
  | .openOrder | .reservation => true

/-- An unowned transport becomes the sender's at the acceptance of a reserving order (R164). -/
def reserveFor (h : Head) (t : TransportId) (s : State) : State :=
  match s.owner t with
  | none => s.setOwner t (some h.port)
  | some _ => s

/-- Checks 2 and 3 of a frame that names a unit: unit, then ownership (R163, R164). -/
def unitFrame (h : Head) (c : OrderClass) (serve : TransportId → State → Result) (s : State) : Result :=
  match s.addressed h with
  | none => refused h .unitAbsent s
  | some t => if c.passes (s.owner t) h.port then serve t s else .next (refuseNotOwner h t [] s)

/-- An order frame with its checks 2 to 4: unit, ownership, OFFLINE (R163). -/
def orderFrame (h : Head) (body : List Byte) (c : OrderClass) (servedOffline : Bool)
    (serve : TransportId → State → Result) (s : State) : Result :=
  arrival h.port body
    (unitFrame h c (fun t s => if (s.tr t).sense.offline && !servedOffline then refused h .offline s else serve t s)) s

/-- A management frame that names a unit: no OFFLINE check (R165). -/
def servoFrame (h : Head) (body : List Byte) (c : OrderClass) (serve : TransportId → State → Result) (s : State) :
    Result := arrival h.port body (unitFrame h c serve) s

/-- A part-wide management frame: refused BAD FIELD when its unit is not 255 (R165). -/
def partFrame (h : Head) (body : List Byte) (serve : State → Result) (s : State) : Result :=
  arrival h.port body (fun s => if h.unit = 255 then serve s else refused h .badField s) s

/-- The effect of an accepted immediate order, and then its DONE: the endings of the event come first, and what is
left for the end of the event comes after it (R101, R117, R150, R168, log 15). A STOP, HALT, PAUSE or FORCE RELEASE
that gives back a held grant has the arbiter serve its list in the event, and a frame that a transport so granted places
at its first ramp step stands before the DONE too, which the spec says for SET GRANT LIMIT alone (R128; DESIGN CHOICE,
log 48). -/
def answerDone (h : Head) (r : Reaction) : Result := finish (r.andThen [.answer h .done []] [])

end Sys2Proof.Machine
end

