-- ==== Sys2Proof/Machine/Halting.lean ====
section
/-! DEFINITION. What STOP, HALT, PAUSE, CONTINUE and CLEAR FAULT do at a transport (R33 to R36, R101 to R103, R115 to R117, R150, R155). -/

namespace Sys2Proof.Machine

/-- STOP in WAIT VACUUM or WAIT GRANT: the order ends at once, its request withdrawn (R30, R33). -/
def stopWaiting (t : TransportId) (s : State) : Reaction :=
  match (s.tr t).motion with
  | none => Reaction.idle s
  | some m => endOrder t m m.stopStatus (giveUpGrant t s).state

/-- STOP in HELD: a saved order ends DONE EARLY and an empty context stays in slot 1 (R102). -/
def stopHeld (t : TransportId) (s : State) : Reaction :=
  match (s.tr t).hold.slot1 with
  | .saved m =>
    let s := finishOrder t m .doneEarly s
    Reaction.idle (s.setHold t { (s.tr t).hold with slot1 := .emptyContext })
  | .free | .emptyContext => Reaction.idle s

/-- The effect of STOP (R33, R102). In a DECEL between the sub-steps of a REWIND or UNLOAD, where no end reason stands,
it has none, as R33 and R52 say of every DECEL; R153 read alone would end the order at that rest (log 42). -/
def stopEffect (t : TransportId) (s : State) : Reaction :=
  let tr := s.tr t
  match tr.condition, tr.phase with
  | .loaded, .waitVacuum | .loaded, .waitGrant => stopWaiting t s
  | .loaded, .accel | .loaded, .cruise => beginDecel t .decel (setEndReason t .stop s)
  | .loaded, .holdDecel => Reaction.idle (setEndReason t .stop s)
  | .loaded, .held => stopHeld t s
  | .loaded, .stopped | .loaded, .decel => Reaction.idle s
  | .unloaded, _ | .loading, _ | .unloading, _ | .faulted, _ => Reaction.idle s

/-- The Hold Controller and the paused flag cleared by HALT (R34, R103). -/
def clearHolds (t : TransportId) (s : State) : State :=
  s.setTr t { s.tr t with hold := idleHold, paused := false }

/-- The current order of a transport that is not moving ends ABORTED, its request withdrawn (R34). -/
def haltOrder (t : TransportId) (s : State) : State :=
  let s := (giveUpGrant t s).state
  match (s.tr t).current with
  | none => s
  | some m => finishOrder t m .aborted s

/-- HALT at a LOADED transport (R34, R103): in motion the order takes HALT as its end reason and decelerates; otherwise
it ends at once and the transport stands STOPPED. -/
def haltLoaded (t : TransportId) (s : State) : Reaction :=
  if (s.tr t).phase.moving then
    beginDecel t .decel (clearHolds t (flush t .aborted none (setHaltReason t s)))
  else afterEnding t ((clearHolds t (flush t .aborted none (haltOrder t s))).setPhase t .stopped)

/-- The search of a LOAD decelerates to rest after a HALT (R150). -/
def Transport.searchHalted (tr : Transport) : Bool :=
  tr.phase == .decel && tr.motion.bind Motion.endReason == some .halt

/-- HALT at a LOADING transport; a second HALT before the rest of a halted search has no effect (R150). -/
def haltLoading (t : TransportId) (s : State) : Reaction :=
  let tr := s.tr t
  if tr.searching && tr.phase.moving then
    if tr.searchHalted then Reaction.idle s else beginDecel t .decel (clearHolds t (setHaltReason t s))
  else endLoadUnloaded t .aborted none (clearHolds t (giveUpGrant t s).state)

/-- The UNLOAD under way ends with this status, and the queue is flushed behind it (R155). -/
def endUnload (t : TransportId) (st flushed : Status) (s : State) : State :=
  let s := match (s.tr t).current with
    | none => s
    | some m => finishOrder t m st s
  flush t flushed none s

/-- The unload is complete: the transport enters UNLOADED (R155). -/
def completeUnload (t : TransportId) (st flushed : Status) (s : State) : Reaction :=
  { state := enterUnloaded t (endUnload t st flushed s), later := [.idleReport t, .vacuumReview] }

/-- The effect of HALT (R34, R150, R155). -/
def haltEffect (t : TransportId) (s : State) : Reaction :=
  match (s.tr t).condition with
  | .loaded => haltLoaded t s
  | .loading => haltLoading t s
  | .unloading => completeUnload t .aborted .aborted s
  | .unloaded | .faulted => Reaction.idle s

/-- The refusal of PAUSE by the transport condition (R35). -/
def Condition.pauseRefusal (c : Condition) : Option Status :=
  match c with
  | .loaded => none
  | .faulted => some .faulted
  | .unloaded => some .notLoaded
  | .loading | .unloading => some .busy

/-- The effect of PAUSE at a LOADED transport (R35). -/
def pauseEffect (t : TransportId) (s : State) : Reaction :=
  let tr := s.tr t
  if tr.phase == .stopped then Reaction.idle (s.setTr t { tr with paused := true })
  else { state := s, now := [.arrive t .pause] }

/-- The Hold Controller with PAUSE removed wherever it stands but as the active recovery (R101). -/
def Hold.withoutPause (h : Hold) : Hold :=
  let saved : Bool := match h.slot2 with | some x => x.rank == .pause | none => false
  { h with
    cause := if h.cause == some .pause then none else h.cause
    pending := h.pending.put .pause false
    slot2 := if saved then none else h.slot2
    inService := if saved then h.inService.put .pause false else h.inService }

/-- The effect of CONTINUE (R36, R101). -/
def continueEffect (t : TransportId) (s : State) : Reaction :=
  let tr := s.tr t
  { state := s.setTr t { tr with paused := false, hold := tr.hold.withoutPause }
    now := (if tr.hold.active == some .pause then [.recoveryEnd t] else [])
      ++ (if tr.paused then [.takeTest t] else []) }

/-- The cause leads CLEAR FAULT to UNLOADED (R115). -/
def FaultCause.clearsToUnloaded (c : FaultCause) : Bool :=
  match c with
  | .vacuumLoss | .columnEnd | .tapeBreak | .coverOpen => true
  | .tachLoss | .driveSaturation | .suspendOverflow | .recoveryTimeout => false

/-- The transport that CLEAR FAULT leaves LOADED (R117). -/
def Transport.clearedLoaded (tr : Transport) : Transport :=
  { tr.setPosition tr.position.unreferenced with
    condition := .loaded, phase := .stopped, faultCause := none, brakesEngaged := false }

/-- The transport that CLEAR FAULT leaves UNLOADED (R116). -/
def Transport.clearedUnloaded (tr : Transport) : Transport := { tr.unloaded with faultCause := none }

/-- The effect of CLEAR FAULT (R115 to R117, R12). -/
def clearFaultEffect (t : TransportId) (s : State) : Reaction :=
  let tr := s.tr t
  match tr.condition, tr.faultCause with
  | .faulted, some c =>
    if c.clearsToUnloaded then { state := s.setTr t tr.clearedUnloaded, later := [.vacuumReview] }
    else
      { state := s.setTr t tr.clearedLoaded
        now := if tr.sense.coverOpen then [.fault t .coverOpen] else [.takeTest t]
        later := [.vacuumReview] }
  | _, _ => Reaction.idle s

end Sys2Proof.Machine
end

