-- ==== Sys2Proof/Machine/Expiries.lean ====
section
/-! DEFINITION. The timer expiries. The command says that the timer has expired; it needs the timer to be running, and with the timer stopped nothing happens (log 2). -/

namespace Sys2Proof.Machine

/-- The transport at a tach-loss detection but for its phase: tach state DETECTED, timer stopped, counter raised, the
search outcome noted (R58, log 21). -/
def Transport.tachDetected (tr : Transport) : Transport :=
  { tr with
    engine := { tr.engine with tach := .detected, tachTimer := none }
    load := { tr.load with tachOutcome := tr.load.outcome }
    counters := { tr.counters with tachLosses := satSucc counterTop tr.counters.tachLosses } }

/-- A tach-loss detection (R58). -/
def tachDetection (t : TransportId) (s : State) : Reaction :=
  let phase := (s.tr t).phase
  let s := setEndReason t .tach (s.setTr t (s.tr t).tachDetected)
  if phase == .accel || phase == .cruise then beginDecel t .decel s else Reaction.idle s

/-- TACH_LOSS_DETECTION (R58). -/
def execTachLossDetection (t : TransportId) (s : State) : Result :=
  let tr := s.tr t
  if tr.engine.tachTimer.isSome && tr.engine.v != 0 then finish (tachDetection t s) else .next s

/-- LOOP_GUARD_TIMER_EXPIRY (R76). -/
def execLoopGuardTimerExpiry (t : TransportId) (s : State) : Result :=
  let tr := s.tr t
  if tr.servo.loopGuard.isSome then
    finish (handFault t .recoveryTimeout (s.setTr t { tr with servo := { tr.servo with loopGuard := none } }))
  else .next s

/-- RECOVERY_TIMER_EXPIRY (R89). -/
def execRecoveryTimerExpiry (t : TransportId) (s : State) : Result :=
  let h := (s.tr t).hold
  if h.timer.isSome then finish (handFault t .recoveryTimeout (s.setHold t { h with timer := none })) else .next s

/-- ECONOMY_TIMER_EXPIRY (R134). -/
def execEconomyTimerExpiry (s : State) : Result :=
  if s.vacuum.economy.isSome then .next (economyExpiry s) else .next s

/-- VACUUM_STEP_EXPIRY (R145). -/
def execVacuumStepExpiry (t : TransportId) (s : State) : Result :=
  let tr := s.tr t
  if tr.condition == .loading && tr.load.step == some .vacuum && tr.load.timer.isSome then
    finish (endLoadUnloaded t .loadFailed (some .vacuum) s)
  else .next s

/-- DRAW_LIMIT_EXPIRY (R146). -/
def execDrawLimitExpiry (t : TransportId) (s : State) : Result :=
  let tr := s.tr t
  if tr.condition == .loading && tr.load.step == some .draw && tr.load.timer.isSome then
    finish (endLoadUnloaded t .loadFailed (some .draw) s)
  else .next s

/-- UNLOAD_WIND_EXPIRY (R155). -/
def execUnloadWindExpiry (t : TransportId) (s : State) : Result :=
  let tr := s.tr t
  if tr.condition == .unloading && tr.load.timer.isSome then finish (completeUnload t .done .notLoaded s) else .next s

end Sys2Proof.Machine
end

