-- ==== Sys2Proof/Machine/FieldEvents.lean ====
section
/-! DEFINITION. The commands of the field side: counts, samples, ramp steps and input changes (chapters 1, 3, 4 and 8). -/

namespace Sys2Proof.Machine

/-- CAPSTAN_COUNT (R1, R2). A count in UNLOADED is discarded. -/
def execCapstanCount (t : TransportId) (cta ctb : Bool) (s : State) : Result :=
  let d := countDirection (s.tr t).lines cta ctb
  let s := setPhases t cta ctb s
  match d with
  | none => .next s
  | some d => if (s.tr t).condition == .unloaded then .next s else finish (applyCount t d s)

/-- REEL_COUNT (R3, R78). -/
def execReelCount (t : TransportId) (x : Reel) (s : State) : Result :=
  let tr := s.tr t
  .next (s.setTr t { tr with servo := { tr.servo with reels := tr.servo.reels.set x (tr.servo.reels.get x).pulsed } })

/-- SERVO_SAMPLE (R4 to R6, R65). -/
def execServoSample (t : TransportId) (reading : LoopReading) (s : State) : Result := finish (servoSample t reading s)

/-- RAMP_STEP (R45). -/
def execRampStep (t : TransportId) (s : State) : Result := finish (rampStep t s)

/-- PRESSURE_SAMPLE (R136). -/
def execPressureSample (mpr : Byte) (s : State) : Result := finish (pressureSample mpr.toNat s)

/-- The lines with the level of a marker input replaced. -/
def Lines.setMarker (l : Lines) (m : Marker) (b : Bool) : Lines :=
  match m with
  | .bot => { l with bots := b }
  | .eot => { l with eots := b }

/-- A marker input becomes inactive: its run ends, and in CLEARING the BOT marker has left the sensor (R7, R152). -/
def markerInactive (t : TransportId) (m : Marker) (s : State) : Reaction :=
  let tr := s.tr t
  let s := s.setTr t
    { tr with lines := tr.lines.setMarker m false, sense := tr.sense.setRun m (tr.sense.run m).ended }
  match m with
  | .bot => markerLeft t s
  | .eot => Reaction.idle s

/-- MARKER_INPUT_CHANGE (R7, R152). A level that stands already is no change (log 34). -/
def execMarkerInputChange (t : TransportId) (m : Marker) (active : Bool) (s : State) : Result :=
  let tr := s.tr t
  if tr.lines.marker m = active then .next s
  else if active then .next (s.setTr t { tr with lines := tr.lines.setMarker m true })
  else finish (markerInactive t m s)

/-- The held cover state is read from CVR; an OPEN cover at a transport that is not UNLOADED is handed to Fault Stop
(R12). -/
def coverRead (t : TransportId) (s : State) : Reaction :=
  let tr := s.tr t
  let s := s.setTr t { tr with sense := { tr.sense with coverOpen := tr.lines.coverOpen } }
  if tr.lines.coverOpen && tr.condition != .unloaded then handFault t .coverOpen s else Reaction.idle s

/-- COVER_CHANGE (R12). While the transport is ABSENT the change is ignored (R13). -/
def execCoverChange (t : TransportId) (isOpen : Bool) (s : State) : Result :=
  let tr := s.tr t
  if tr.lines.coverOpen = isOpen then .next s
  else
    let s := s.setTr t { tr with lines := { tr.lines with coverOpen := isOpen } }
    if tr.lines.present then finish (coverRead t s) else .next s

/-- REEL_PRESENT_CHANGE (R13). -/
def execReelPresentChange (t : TransportId) (x : Reel) (present : Bool) (s : State) : Result :=
  let tr := s.tr t
  .next (s.setTr t
    { tr with
      lines := match x with
        | .file => { tr.lines with fileReel := present }
        | .machine => { tr.lines with machineReel := present } })

/-- The OFFLINE flag is read from OLS; a change of the flag places ONLINE CHANGE (R14). -/
def onlineRead (t : TransportId) (s : State) : State :=
  let tr := s.tr t
  if tr.sense.offline = tr.lines.offlineSwitch then s
  else
    let s := s.setTr t { tr with sense := { tr.sense with offline := tr.lines.offlineSwitch } }
    attendAll (attentionPorts (s.owner t) s) t .onlineChange [if tr.lines.offlineSwitch then 1 else 0] s

/-- TRANSPORT_PRESENT_CHANGE (R13): becoming present reads CVR and then OLS as if each had changed (DESIGN CHOICE, log 37).
Where an OPEN cover makes the fault stop give back a grant, the list is served after both readings, so that ONLINE CHANGE
stands before a frame of the transport that the grant goes to (DESIGN CHOICE, log 50). -/
def execTransportPresentChange (t : TransportId) (present : Bool) (s : State) : Result :=
  let tr := s.tr t
  if tr.lines.present = present then .next s
  else
    let s := s.setTr t { tr with lines := { tr.lines with present := present } }
    if present then
      let r := coverRead t s
      finish { r with state := onlineRead t r.state }
    else .next s

/-- ONLINE_SWITCH_CHANGE (R14). While the transport is ABSENT the change is ignored (R13). -/
def execOnlineSwitchChange (t : TransportId) (offline : Bool) (s : State) : Result :=
  let tr := s.tr t
  if tr.lines.offlineSwitch = offline then .next s
  else
    let s := s.setTr t { tr with lines := { tr.lines with offlineSwitch := offline } }
    .next (if tr.lines.present then onlineRead t s else s)

end Sys2Proof.Machine
end

