-- ==== Sys2Proof/Machine/Panel.lean ====
section
/-! DEFINITION. The commands of the operator panel (R15, R156). -/

namespace Sys2Proof.Machine

/-- A press is heard: the transport is OFFLINE and present (R13, R15). -/
def Transport.panelHeard (tr : Transport) : Bool := tr.sense.offline && tr.lines.present

/-- Cover CLOSED and both reels present (R15, R144). -/
def Transport.loadReady (tr : Transport) : Bool :=
  !tr.sense.coverOpen && tr.lines.fileReel && tr.lines.machineReel

/-- PANEL_LOAD_PRESS (R15, R156). -/
def execPanelLoadPress (t : TransportId) (s : State) : Result :=
  let tr := s.tr t
  if tr.panelHeard && tr.condition == .unloaded && tr.loadReady && (s.tables.profiles.get 0).isSome then
    finish (startLoad t .panel 0 s)
  else .next s

/-- The panel REWIND and UNLOAD buttons act: LOADED, STOPPED, queue empty, paused flag clear (R15). -/
def Transport.panelIdle (tr : Transport) : Bool :=
  tr.panelHeard && tr.condition == .loaded && tr.phase == .stopped && tr.queue.isEmpty && !tr.paused

/-- An order record from the panel (R15, R19). -/
def panelRecord (k : OrderKind) : OrderRecord :=
  { kind := k, origin := .panel, tag := 0, direction := none, profile := none, distance := none, arrivalUnit := none }

/-- A panel order record joins the queue, and the take test is made (R15, R25). -/
def panelOrder (t : TransportId) (k : OrderKind) (s : State) : Result :=
  let tr := s.tr t
  if tr.panelIdle then finish { state := s.setQueue t (tr.queue ++ [panelRecord k]), now := [.takeTest t] } else .next s

/-- PANEL_REWIND_PRESS (R15). -/
def execPanelRewindPress (t : TransportId) (s : State) : Result := panelOrder t .rewind s

/-- PANEL_UNLOAD_PRESS (R15). -/
def execPanelUnloadPress (t : TransportId) (s : State) : Result := panelOrder t .unload s

end Sys2Proof.Machine
end

