-- ==== Sys2Proof/Machine/QueuedOrders.lean ====
section
/-! DEFINITION. The queued orders MOVE, REWIND and UNLOAD: their checks (R20, R21) and their joining (R22). -/

namespace Sys2Proof.Machine

/-- The refusal of a queued order by the transport condition (R20). -/
def Condition.queuedRefusal (c : Condition) : Option Status :=
  match c with
  | .loaded => none
  | .loading => some .busy
  | .unloaded | .unloading => some .notLoaded
  | .faulted => some .faulted

/-- A profile number as a frame carries it: above 15 is no number. -/
def profileNumber (x : Byte) : Option (Fin 16) := if h : x.toNat < 16 then some ⟨x.toNat, h⟩ else none

/-- The direction byte of a MOVE (R187). -/
def directionField (x : Byte) : Option Direction :=
  if x = 0 then some .forward else if x = 1 then some .reverse else none

/-- The length that a MOVE body needs with the presence bits it carries (R184, R187, log 12). -/
def moveLength (body : List Byte) : Nat := if bitAt body 1 1 then 6 else if bitAt body 1 0 then 3 else 2

/-- The profile field of a MOVE: the outer option is a bad field, the inner one an absent number (R21, R187). -/
def moveProfile (body : List Byte) : Option (Option (Fin 16)) :=
  if bitAt body 1 0 then (profileNumber (byteAt body 2)).map some else some none

/-- The distance field of a MOVE; a distance of 0 is a bad field (R21, R187). -/
def moveDistance (body : List Byte) : Option (Option Nat) :=
  if bitAt body 1 1 then (if fieldAt body 3 3 = 0 then none else some (some (fieldAt body 3 3))) else some none

/-- The order record of a MOVE body, or none for BAD FIELD (R21, R187). -/
def moveRecord (h : Head) (body : List Byte) : Option OrderRecord :=
  if body.length < moveLength body then none
  else
    match directionField (byteAt body 0), moveProfile body, moveDistance body with
    | some d, some n, some r =>
      some { kind := .move, origin := .port h.port, tag := h.tag, direction := some d, profile := n, distance := r
             arrivalUnit := some h.unit }
    | _, _, _ => none

/-- The order record of a REWIND with this profile number. -/
def rewindWith (h : Head) (n : Option (Fin 16)) : OrderRecord :=
  { kind := .rewind, origin := .port h.port, tag := h.tag, direction := none, profile := n, distance := none
    arrivalUnit := some h.unit }

/-- The order record of a REWIND body, or none for BAD FIELD (R21, R185). -/
def rewindRecord (h : Head) (body : List Byte) : Option OrderRecord :=
  match body with
  | [] => some (rewindWith h none)
  | x :: _ => (profileNumber x).map (fun n => rewindWith h (some n))

/-- The order record of an UNLOAD. -/
def unloadRecord (h : Head) : OrderRecord :=
  { kind := .unload, origin := .port h.port, tag := h.tag, direction := none, profile := none, distance := none
    arrivalUnit := some h.unit }

/-- The refusal of a record by its profile and by the capacity of the queue (R21, checks 2 and 3). -/
def joinRefusal (tables : Tables) (tr : Transport) (x : OrderRecord) : Option Status :=
  match entryServes x.kind (tables.profiles.get (x.resolve tr.selected)) with
  | none => some .badProfile
  | some _ => if queueCapacity ≤ tr.queue.length then some .queueFull else none

/-- The record no longer stands in its own arrival event (R160, log 20). -/
def OrderRecord.settled (x : OrderRecord) : OrderRecord := { x with arrivalUnit := none }

/-- The motion no longer stands in its own arrival event. -/
def Motion.settled (m : Motion) : Motion := { m with arrivalUnit := none }

/-- Slot 1 at the end of an arrival event. -/
def Slot1.settled (x : Slot1) : Slot1 :=
  match x with
  | .saved m => .saved m.settled
  | .free => .free
  | .emptyContext => .emptyContext

/-- The transport at the end of an arrival event. -/
def Transport.settled (tr : Transport) : Transport :=
  { tr with
    queue := tr.queue.map OrderRecord.settled, motion := tr.motion.map Motion.settled
    hold := { tr.hold with slot1 := tr.hold.slot1.settled } }

/-- The end of an arrival event at transport `t` (R160, log 20). -/
def endArrival (t : TransportId) (s : State) : State := s.setTr t (s.tr t).settled

/-- A sender's pending release of the transport is cancelled by its joining order (R22, R168). -/
def cancelRelease (h : Head) (t : TransportId) (s : State) : State :=
  match (s.tr t).release with
  | some r => if r.port = h.port then supersedeRelease t s else s
  | none => s

/-- The order joins the tail, its sender owns the transport, a pending release is cancelled and the take test is made
(R22, R164). -/
def joinOrder (h : Head) (t : TransportId) (x : OrderRecord) (s : State) : Result :=
  let s := cancelRelease h t (reserveFor h t s)
  let s := s.setQueue t ((s.tr t).queue ++ [x])
  mapNext (endArrival t) (finish { state := s, now := [.takeTest t] })

/-- The fifth check of a queued order, and its joining (R20 to R22). -/
def serveQueued (h : Head) (x : Option OrderRecord) (t : TransportId) (s : State) : Result :=
  match (s.tr t).condition.queuedRefusal, x with
  | some st, _ => refused h st s
  | none, none => refused h .badField s
  | none, some x =>
    match joinRefusal s.tables (s.tr t) x with
    | some st => refused h st s
    | none => joinOrder h t x s

/-- MOVE (R20 to R22, R187). -/
def execMove (h : Head) (body : List Byte) (s : State) : Result :=
  orderFrame h body .reserving false (serveQueued h (moveRecord h body)) s

/-- REWIND (R20 to R22, R185). -/
def execRewind (h : Head) (body : List Byte) (s : State) : Result :=
  orderFrame h body .reserving false (serveQueued h (rewindRecord h body)) s

/-- UNLOAD (R20 to R22). -/
def execUnload (h : Head) (s : State) : Result :=
  orderFrame h [] .reserving false (serveQueued h (some (unloadRecord h))) s

end Sys2Proof.Machine
end

