-- ==== Sys2Proof/Machine/ImmediateOrders.lean ====
section
/-! DEFINITION. The immediate orders LOAD, STOP, HALT, PAUSE, CONTINUE, SELECT PROFILE, CLEAR FAULT, SENSE and READ SNAPSHOT. -/

namespace Sys2Proof.Machine

/-- The refusal of a LOAD (R144). -/
def loadRefusal (tables : Tables) (tr : Transport) : Option Status :=
  match tr.condition with
  | .loading | .loaded | .unloading => some .busy
  | .faulted => some .faulted
  | .unloaded =>
    if !tr.loadReady then some .notReady
    else if (tables.profiles.get 0).isNone then some .badProfile
    else none

/-- LOAD past the checks of the Port Controller (R144). -/
def serveLoad (h : Head) (t : TransportId) (s : State) : Result :=
  match loadRefusal s.tables (s.tr t) with
  | some st => refused h st s
  | none => finish (startLoad t (.port h.port) h.tag (reserveFor h t s))

/-- LOAD (R144). -/
def execLoad (h : Head) (s : State) : Result := orderFrame h [] .reserving false (serveLoad h) s

/-- STOP (R33, R102). -/
def execStop (h : Head) (s : State) : Result :=
  orderFrame h [] .ownerOrUnowned true (fun t s => answerDone h (stopEffect t s)) s

/-- HALT (R34, R103, R150, R155). -/
def execHalt (h : Head) (s : State) : Result :=
  orderFrame h [] .ownerOrUnowned true (fun t s => answerDone h (haltEffect t s)) s

/-- PAUSE past the checks of the Port Controller (R35). -/
def servePause (h : Head) (t : TransportId) (s : State) : Result :=
  match (s.tr t).condition.pauseRefusal with
  | some st => refused h st s
  | none => answerDone h (pauseEffect t (reserveFor h t s))

/-- PAUSE (R35). -/
def execPause (h : Head) (s : State) : Result := orderFrame h [] .reserving false (servePause h) s

/-- CONTINUE past the checks of the Port Controller (R36). -/
def serveContinue (h : Head) (t : TransportId) (s : State) : Result :=
  if (s.tr t).condition == .faulted then refused h .faulted s
  else answerDone h (continueEffect t (reserveFor h t s))

/-- CONTINUE (R36, R101). -/
def execContinueOrder (h : Head) (s : State) : Result := orderFrame h [] .reserving false (serveContinue h) s

/-- The transport with its selected profile replaced (R28). -/
def selectProfile (t : TransportId) (n : Fin 16) (s : State) : State := s.setTr t { s.tr t with selected := n }

/-- SELECT PROFILE past the checks of the Port Controller (R28). A FAULTED transport refuses first (log 11). -/
def serveSelect (h : Head) (body : List Byte) (t : TransportId) (s : State) : Result :=
  if (s.tr t).condition == .faulted then refused h .faulted s
  else
    match body with
    | [] => refused h .badField s
    | x :: _ =>
      match profileNumber x with
      | none => refused h .badField s
      | some n => done h [] (selectProfile t n (reserveFor h t s))

/-- SELECT_PROFILE (R28). -/
def execSelectProfile (h : Head) (body : List Byte) (s : State) : Result :=
  orderFrame h body .reserving false (serveSelect h body) s

/-- CLEAR_FAULT (R115 to R117). -/
def execClearFault (h : Head) (s : State) : Result :=
  orderFrame h [] .reserving false (fun t s => answerDone h (clearFaultEffect t (reserveFor h t s))) s

/-- SENSE (R177, R189). -/
def execSense (h : Head) (s : State) : Result :=
  orderFrame h [] .openOrder true (fun t s => done h (senseBody (s.tr t) (s.owner t)) s) s

/-- The body of a READ SNAPSHOT response: the snapshot, or nothing when absent (R112, R185). -/
def snapshotBody (x : Option Snapshot) : List Byte :=
  match x with
  | none => []
  | some x => x.bytes

/-- READ_SNAPSHOT (R112). -/
def execReadSnapshot (h : Head) (s : State) : Result :=
  orderFrame h [] .openOrder true (fun t s => done h (snapshotBody (s.tr t).snapshot) s) s

end Sys2Proof.Machine
end

