-- ==== Sys2Proof/Machine/InternalEvents.lean ====
section
/-! DEFINITION. The events that counts and samples bring about inside the part, as commands of their own. Such a command says that its count has reached the limit that its rule names; the model sets a run count there and acts. Where the rule's other conditions do not hold nothing happens (logs 2 and 36). -/

namespace Sys2Proof.Machine

/-- READY_BECOMES_TRUE (R137). -/
def execReadyBecomesTrue (s : State) : Result := finish (settleComplete s)

/-- A marker run at its qualification (R7). -/
def MarkerRun.qualifiedAt (x : MarkerRun) (q : Nat) : MarkerRun := { x with count := max x.count q, qualified := true }

/-- MARKER_CROSSING_QUALIFIED: an active run with its flag clear reaches Q (R7 to R9). -/
def execMarkerCrossingQualified (t : TransportId) (m : Marker) (s : State) : Result :=
  let tr := s.tr t
  let run := tr.sense.run m
  if tr.condition != .unloaded && run.count != 0 && !run.qualified then
    finish
      { state := s.setTr t { tr with sense := tr.sense.setRun m (run.qualifiedAt (s.servoOf t).q) }
        now := [.crossing t m] }
  else .next s

/-- TAPE_BREAK: a checked column's zero-run count reaches 2 (R5). -/
def execTapeBreak (t : TransportId) (x : Reel) (s : State) : Result :=
  let tr := s.tr t
  let c := tr.sense.columns.get x
  if tr.columnChecked c then
    let s := s.setTr t
      { tr with sense := { tr.sense with columns := tr.sense.columns.set x { c with zeroRun := 2 } } }
    finish (handFault t .tapeBreak s)
  else .next s

/-- A column with one end switch's active-run count at 2. -/
def Column.endRun (c : Column) (e : ColumnEnd) : Column :=
  match e with
  | .upper => { c with upperRun := 2 }
  | .lower => { c with lowerRun := 2 }

/-- COLUMN_END: a checked end switch's active-run count reaches 2 (R6). -/
def execColumnEnd (t : TransportId) (x : Reel) (e : ColumnEnd) (s : State) : Result :=
  let tr := s.tr t
  let c := tr.sense.columns.get x
  if tr.columnChecked c then
    let s := s.setTr t { tr with sense := { tr.sense with columns := tr.sense.columns.set x (c.endRun e) } }
    finish (handFault t .columnEnd s)
  else .next s

/-- DRIVE_SATURATION: a reel's saturation run count reaches SAT_LIMIT in TRACK mode (R69). -/
def execDriveSaturation (t : TransportId) (x : Reel) (s : State) : Result :=
  let tr := s.tr t
  let reel := tr.servo.reels.get x
  if tr.servo.mode == .track then
    let reel := { reel with satRun := min smallCountTop (max reel.satRun (s.servoOf t).satLimit) }
    let s := s.setTr t { tr with servo := { tr.servo with reels := tr.servo.reels.set x reel } }
    finish (handFault t .driveSaturation s)
  else .next s

/-- RECOVERY_SETTLED: the settle count of an active LOOP GUARD recovery reaches its goal (R89). -/
def execRecoverySettled (t : TransportId) (s : State) : Result :=
  if (s.tr t).hold.active == some .loopGuard then finish (recoveryEnd t s) else .next s

/-- RADIUS_WINDOW_CLOSE: a reel's window reaches W (R79, R80). In UNLOADED no window closes (R78). -/
def execRadiusWindowClose (t : TransportId) (x : Reel) (s : State) : Result :=
  if (s.tr t).condition == .unloaded then .next s else .next (closeWindow t x s)

/-- SEARCH_LIMIT_REACHED: the search counter reaches the BOT search limit (R148, R153). -/
def execSearchLimitReached (t : TransportId) (s : State) : Result := finish (searchLimitReached t s)

end Sys2Proof.Machine
end

