-- ==== Sys2Proof/Machine/Link.lean ====
section
/-! DEFINITION. The commands of the links: carrier, transmission end, frames that fail their check, unknown codes (chapter 10). -/

namespace Sys2Proof.Machine

/-- The held RESERVATION LOST attentions of a port are placed, T0 first, and none is then held (R158, R169). -/
def placeHeld (p : PortId) (s : State) : State :=
  let held := (s.port p).heldLost
  let s := (transportIds.filter (fun t => held.get t)).foldl (fun s t => attend p t .reservationLost [] s) s
  s.setPort p { s.port p with heldLost := Quad.all false }

/-- CARRIER_UP (R158). A carrier that stands already is no change (log 34). -/
def execCarrierUp (p : PortId) (s : State) : Result :=
  if (s.port p).up then .next s else .next (placeHeld p (s.setPort p { s.port p with up := true, rx := none, tx := [] }))

/-- CARRIER_DOWN: the transmit queue is emptied (R158), and a frame that is still arriving is abandoned (R183). -/
def execCarrierDown (p : PortId) (s : State) : Result :=
  if (s.port p).up then .next (s.setPort p { s.port p with up := false, rx := none, tx := [] }) else .next s

/-- TRANSMISSION_END: the head of an UP port's transmit queue leaves it (R160). -/
def execTransmissionEnd (p : PortId) (s : State) : Result :=
  if (s.port p).up then .next (s.setPort p { s.port p with tx := (s.port p).tx.tail }) else .next s

/-- FRAME_CHECK_FAILURE: the frame is discarded and, outside a PART RESET hold, counted (R162, R170). -/
def execFrameCheckFailure (p : PortId) (_defect : FrameDefect) (s : State) : Result :=
  if !(s.port p).up || s.resetHold.isSome then .next s else .next (countCheckError p s)

/-- UNKNOWN_CODE_FRAME: refused UNKNOWN CODE before any other check (R163, R165). -/
def execUnknownCodeFrame (h : Head) (_kind : InboundKind) (_code : Byte) (s : State) : Result :=
  arrival h.port [] (refused h .unknownCode) s

end Sys2Proof.Machine
end

