-- ==== Sys2Proof/Machine/Management.lean ====
section
/-! DEFINITION. The management frames (chapters 7, 8, 10 and 11): tables, servo records, unit maps, vacuum, grant limit, monitor and counters. -/

namespace Sys2Proof.Machine

/-! ### Profile table (R172 to R174, R191) -/

/-- A number lies in a range. -/
def inRange (lo hi n : Nat) : Bool := decide (lo ≤ n) && decide (n ≤ hi)

/-- The fields that both classes of profile share, when all are in range (R172, R191). -/
def profileFields (cls : ProfileClass) (creep : Option Nat) (body : List Byte) : Option Profile :=
  let p : Profile :=
    { cls := cls, vTop := fieldAt body 2 3, aAcc := fieldAt body 5 2, aDec := fieldAt body 7 2, tR := fieldAt body 9 2
      priority := fieldAt body 11 1, creep := creep }
  if inRange 1000 250000 p.vTop && inRange 1 65535 p.aAcc && inRange 1 65535 p.aDec && inRange 100 1000 p.tR &&
      decide (p.priority ≤ 7) then some p
  else none

/-- The entry of a START-STOP record: 12 bytes, and a creep speed other than 0 is a bad field (R173, R191, log 32). -/
def startStopEntry (body : List Byte) : Option Profile :=
  if body.length < 12 || byteAt body 12 != 0 || byteAt body 13 != 0 then none else profileFields .startStop none body

/-- The entry of a REWIND record: 14 bytes, with a creep speed in range and no greater than V_top (R172, R173). -/
def rewindEntry (body : List Byte) : Option Profile :=
  if body.length < 14 then none
  else
    let creep := fieldAt body 12 2
    if inRange 1000 20000 creep && decide (creep ≤ fieldAt body 2 3) then profileFields .rewind (some creep) body
    else none

/-- The profile number and entry of a LOAD PROFILE body, or none for BAD FIELD (R173, R191). -/
def profileRecord (body : List Byte) : Option (Fin 16 × Option Profile) :=
  if body.length < 2 then none
  else
    match profileNumber (byteAt body 0) with
    | none => none
    | some n =>
      if byteAt body 1 = 0 then some (n, none)
      else if byteAt body 1 = 1 then (startStopEntry body).map (fun p => (n, some p))
      else if byteAt body 1 = 2 then (rewindEntry body).map (fun p => (n, some p))
      else none

/-- The bank of a profile is locked (R172, R174). -/
def Tables.locked (x : Tables) (n : Fin 16) : Bool := if n.val < 8 then x.lock0 else x.lock1

/-- The state with one profile table entry replaced (R173). -/
def setProfile (n : Fin 16) (e : Option Profile) (s : State) : State :=
  { s with tables := { s.tables with profiles := s.tables.profiles.set n.val e n.isLt } }

/-- LOAD PROFILE past the arrival checks (R173). -/
def serveLoadProfile (h : Head) (body : List Byte) (s : State) : Result :=
  match profileRecord body with
  | none => refused h .badField s
  | some (n, e) => if s.tables.locked n then refused h .locked s else done h [] (setProfile n e s)

/-- LOAD_PROFILE (R173). -/
def execLoadProfile (h : Head) (body : List Byte) (s : State) : Result := partFrame h body (serveLoadProfile h body) s

/-- READ PROFILE past the arrival checks (R173). -/
def serveReadProfile (h : Head) (body : List Byte) (s : State) : Result :=
  match body with
  | [] => refused h .badField s
  | x :: _ =>
    match profileNumber x with
    | none => refused h .badField s
    | some n => done h (profileBytes n (s.tables.profiles.get n)) s

/-- READ_PROFILE (R173). -/
def execReadProfile (h : Head) (body : List Byte) (s : State) : Result := partFrame h body (serveReadProfile h body) s

/-- LOCK BANK past the arrival checks (R174). -/
def serveLockBank (h : Head) (body : List Byte) (s : State) : Result :=
  match body with
  | [] => refused h .badField s
  | x :: _ =>
    if x = 0 then done h [] { s with tables := { s.tables with lock0 := true } }
    else if x = 1 then done h [] { s with tables := { s.tables with lock1 := true } }
    else refused h .badField s

/-- LOCK_BANK (R174). -/
def execLockBank (h : Head) (body : List Byte) (s : State) : Result := partFrame h body (serveLockBank h body) s

/-! ### Servo records (R175, R176, R191) -/

/-- The fields of a servo record body as they stand in its 44 bytes (R191). Byte 19 is not read. -/
def servoFields (b : List Byte) : ServoRecord :=
  { gFF := fieldAt b 0 1, kp := fieldAt b 1 1, kpRec := fieldAt b 2 1, slew := fieldAt b 3 2, satLimit := fieldAt b 5 1
    setpoint := fieldAt b 6 1, guardLow := fieldAt b 7 1, guardHigh := fieldAt b 8 1, recoveryLow := fieldAt b 9 1
    recoveryHigh := fieldAt b 10 1, recoverySettle := fieldAt b 11 1, recoveryLimit := fieldAt b 12 2
    kRad := fieldAt b 14 3, window := fieldAt b 17 2, initialFile := fieldAt b 20 2, initialMachine := fieldAt b 22 2
    q := fieldAt b 24 1, eotAllowance := fieldAt b 25 3, tachTimeout := fieldAt b 28 1, searchSpeed := fieldAt b 29 2
    searchLimit := fieldAt b 31 3, approach := fieldAt b 34 3, drawDemand := fieldAt b 37 2, drawLimit := fieldAt b 39 2
    windDemand := fieldAt b 41 2, windTime := fieldAt b 43 1 * 100 }

/-- The ranges of the fields for the reels (R175). -/
def ServoRecord.reelRanges (x : ServoRecord) : Bool :=
  inRange 0 255 x.gFF && inRange 0 255 x.kp && inRange 0 255 x.kpRec && inRange 1 2047 x.slew
    && inRange 1 255 x.satLimit && inRange 1 254 x.setpoint && inRange 1 255 x.guardLow && inRange 1 255 x.guardHigh
    && inRange 1 255 x.recoveryLow && inRange 1 255 x.recoveryHigh && inRange 1 255 x.recoverySettle
    && inRange 100 10000 x.recoveryLimit && inRange 1 1000000 x.kRad && inRange 1024 16384 x.window
    && inRange 175 525 x.initialFile && inRange 175 525 x.initialMachine

/-- The ranges of the fields for the position, the engine and the sequences (R175). -/
def ServoRecord.sequenceRanges (x : ServoRecord) : Bool :=
  inRange 8 255 x.q && inRange 1000 500000 x.eotAllowance && inRange 1 50 x.tachTimeout
    && inRange 1000 62500 x.searchSpeed && inRange 1000 16777215 x.searchLimit && inRange 0 1000000 x.approach
    && inRange 1 2047 x.drawDemand && inRange 1000 30000 x.drawLimit && inRange 1 2047 x.windDemand
    && inRange 500 10000 x.windTime

/-- The bands are nested (R175). -/
def ServoRecord.nested (x : ServoRecord) : Bool :=
  decide (x.guardLow < x.recoveryLow) && decide (x.recoveryLow ≤ x.setpoint) && decide (x.setpoint ≤ x.recoveryHigh)
    && decide (x.recoveryHigh < x.guardHigh)

/-- Every field in its range, and the bands nested (R175). -/
def ServoRecord.valid (x : ServoRecord) : Bool := x.reelRanges && x.sequenceRanges && x.nested

/-- The record of a LOAD SERVO body, or none for BAD FIELD (R176). -/
def servoRecord (body : List Byte) : Option ServoRecord :=
  if body.length < 44 then none else if (servoFields body).valid then some (servoFields body) else none

/-- The condition takes a new servo record: UNLOADED, FAULTED, or LOADED with phase STOPPED (R176). -/
def Transport.takesServo (tr : Transport) : Bool :=
  tr.condition == .unloaded || tr.condition == .faulted || (tr.condition == .loaded && tr.phase == .stopped)

/-- The state with one servo record replaced (R176). -/
def setServo (t : TransportId) (x : ServoRecord) (s : State) : State :=
  { s with tables := { s.tables with servo := s.tables.servo.set t x } }

/-- LOAD SERVO past the unit and ownership checks (R176). -/
def serveLoadServo (h : Head) (body : List Byte) (t : TransportId) (s : State) : Result :=
  if !(s.tr t).takesServo then refused h .busy s
  else
    match servoRecord body with
    | none => refused h .badField s
    | some x => done h [] (setServo t x (reserveFor h t s))

/-- LOAD_SERVO (R165, R176). -/
def execLoadServo (h : Head) (body : List Byte) (s : State) : Result :=
  servoFrame h body .reserving (serveLoadServo h body) s

/-- READ_SERVO (R165, R176). -/
def execReadServo (h : Head) (s : State) : Result :=
  servoFrame h [] .openOrder (fun t s => done h (s.servoOf t).bytes s) s

/-! ### Unit maps (R166) -/

/-- A unit-map entry byte: a transport or ABSENT; the outer option is a bad field (R185). -/
def mapEntry (x : Byte) : Option (Option TransportId) :=
  if x = 0 then some (some .t0) else if x = 1 then some (some .t1) else if x = 2 then some (some .t2)
  else if x = 3 then some (some .t3) else if x = 0xFF then some none else none

/-- The map of the first 16 bytes of a body, or none for BAD FIELD (R166). -/
def mapRecord (body : List Byte) : Option (Vector (Option TransportId) 16) :=
  if (body.take 16).length = 16 && (body.take 16).all (fun x => (mapEntry x).isSome) then
    some (Vector.ofFn (fun i : Fin 16 => (mapEntry (byteAt body i.val)).getD none))
  else none

/-- The state with a port's unit map replaced (R166). -/
def setMap (p : PortId) (m : Vector (Option TransportId) 16) (s : State) : State :=
  s.setPort p { s.port p with unitMap := m }

/-- SET UNIT MAP past the arrival checks (R166). -/
def serveSetUnitMap (h : Head) (body : List Byte) (s : State) : Result :=
  match mapRecord body with
  | none => refused h .badField s
  | some m => done h [] (setMap h.port m s)

/-- SET_UNIT_MAP (R166). -/
def execSetUnitMap (h : Head) (body : List Byte) (s : State) : Result := partFrame h body (serveSetUnitMap h body) s

/-- READ_UNIT_MAP (R166). -/
def execReadUnitMap (h : Head) (s : State) : Result :=
  partFrame h [] (fun s => done h (unitMapBytes (s.port h.port).unitMap) s) s

/-! ### Vacuum and grants (R128, R130, R135, R141) -/

/-- A mode byte (R185). -/
def modeField (x : Byte) : Option VacuumMode :=
  if x = 0 then some .normal else if x = 1 then some .economy else if x = 2 then some .auto else none

/-- The state with the mode and the thresholds of SET VACUUM, before the blower follows (R135, steps 1 and 2). -/
def setThresholds (mode : VacuumMode) (loss sag run : Nat) (s : State) : State :=
  { s with vacuum := { s.vacuum with mode := mode, loss := loss, sag := sag, run := run } }

/-- SET VACUUM past the arrival checks (R135). -/
def serveSetVacuum (h : Head) (body : List Byte) (s : State) : Result :=
  if body.length < 4 then refused h .badField s
  else
    let loss := fieldAt body 1 1
    let sag := fieldAt body 2 1
    let run := fieldAt body 3 1
    match modeField (byteAt body 0) with
    | none => refused h .badField s
    | some mode =>
      if loss < sag && sag < run then done h [] (reviewVacuum (setThresholds mode loss sag run s))
      else refused h .badField s

/-- SET_VACUUM (R135). -/
def execSetVacuum (h : Head) (body : List Byte) (s : State) : Result := partFrame h body (serveSetVacuum h body) s

/-- SET GRANT LIMIT past the arrival checks: the list is served before the DONE is placed (R128). -/
def serveSetGrantLimit (h : Head) (body : List Byte) (s : State) : Result :=
  match body with
  | [] => refused h .badField s
  | x :: _ =>
    if 4 < x.toNat then refused h .badField s
    else answerDone h { state := { s with arbiter := { s.arbiter with limit := x.toNat } }, now := [.serve] }

/-- SET_GRANT_LIMIT (R128). -/
def execSetGrantLimit (h : Head) (body : List Byte) (s : State) : Result :=
  partFrame h body (serveSetGrantLimit h body) s

/-- SENSE_STRING (R130, R141, R177). -/
def execSenseString (h : Head) (s : State) : Result := partFrame h [] (fun s => done h (senseStringBody s) s) s

/-! ### Motion Monitor (R178) -/

/-- A measure byte (R185). -/
def measureField (x : Byte) : Option Measure :=
  if x = 0 then some .off else if x = 1 then some .startLatency else if x = 2 then some .motionCount else none

/-- A transport number byte (R178). -/
def transportField (x : Byte) : Option TransportId :=
  if x = 0 then some .t0 else if x = 1 then some .t1 else if x = 2 then some .t2 else if x = 3 then some .t3 else none

/-- A direction filter byte (R185). -/
def filterField (x : Byte) : Option Filter :=
  if x = 0 then some .forward else if x = 1 then some .reverse else if x = 2 then some .both else none

/-- The monitor record that a SET MONITOR body sets, or none for BAD FIELD (R178). -/
def monitorRecord (body : List Byte) : Option Monitor :=
  if body.length < 3 then none
  else
    match measureField (byteAt body 0), transportField (byteAt body 1), filterField (byteAt body 2) with
    | some m, some t, some f => some { idleMonitor with measure := m, transport := t, filter := f }
    | _, _, _ => none

/-- SET MONITOR past the arrival checks (R178). -/
def serveSetMonitor (h : Head) (body : List Byte) (s : State) : Result :=
  match monitorRecord body with
  | none => refused h .badField s
  | some m => done h [] { s with monitor := m }

/-- SET_MONITOR (R178). -/
def execSetMonitor (h : Head) (body : List Byte) (s : State) : Result := partFrame h body (serveSetMonitor h body) s

/-- READ_MONITOR (R178). -/
def execReadMonitor (h : Head) (s : State) : Result := partFrame h [] (fun s => done h (monitorBody s.monitor) s) s

/-! ### Counters (R181) -/

/-- A transport with its counters at 0. -/
def Transport.uncounted (tr : Transport) : Transport := { tr with counters := zeroCounters }

/-- Every counter that READ COUNTERS reports set to 0 (R181). -/
def clearCounters (s : State) : State :=
  { s with
    ports := { a := s.ports.a.setCounters zeroPortCounters, b := s.ports.b.setCounters zeroPortCounters }
    transports := { t0 := s.transports.t0.uncounted, t1 := s.transports.t1.uncounted, t2 := s.transports.t2.uncounted
                    t3 := s.transports.t3.uncounted } }

/-- READ COUNTERS past the arrival checks: the values are taken into the response before they are cleared (R181). -/
def serveReadCounters (h : Head) (body : List Byte) (s : State) : Result :=
  match body with
  | [] => refused h .badField s
  | x :: _ =>
    if x = 0 then done h (countersBody s) s
    else if x = 1 then done h (countersBody s) (clearCounters s)
    else refused h .badField s

/-- READ_COUNTERS (R181). -/
def execReadCounters (h : Head) (body : List Byte) (s : State) : Result :=
  partFrame h body (serveReadCounters h body) s

end Sys2Proof.Machine
end

