-- ==== Sys2Proof/Machine/Reservation.lean ====
section
/-! DEFINITION. The reservation orders RESERVE, RELEASE and FORCE RELEASE (R167 to R169). -/

namespace Sys2Proof.Machine

/-- RESERVE past the unit check (R167). -/
def serveReserve (h : Head) (t : TransportId) (s : State) : Result :=
  match s.owner t with
  | none => done h [] (s.setOwner t (some h.port))
  | some p => if p = h.port then done h [] s else .next (refuseNotOwner h t [] s)

/-- RESERVE (R167). -/
def execReserve (h : Head) (s : State) : Result := orderFrame h [] .reservation true (serveReserve h) s

/-- RELEASE from the owner, an earlier pending one answered SUPERSEDED first (R167). -/
def releaseOwned (h : Head) (t : TransportId) (s : State) : Result :=
  let s := supersedeRelease t s
  let tr := s.tr t
  if tr.idle then done h [transportByte t] (s.setOwner t none)
  else if outstandingMax ≤ tr.outstanding then .next (refuse h .busy [transportByte t] s)
  else .next (s.setRelease t (some { port := h.port, tag := h.tag }))

/-- RELEASE past the unit check; every answer carries the transport byte (R167, R186). -/
def serveRelease (h : Head) (t : TransportId) (s : State) : Result :=
  match s.owner t with
  | none => done h [transportByte t] s
  | some p => if p = h.port then releaseOwned h t s else .next (refuseNotOwner h t [transportByte t] s)

/-- RELEASE (R167, R168). -/
def execRelease (h : Head) (s : State) : Result := orderFrame h [] .reservation true (serveRelease h) s

/-- RESERVATION LOST is held for a port (R169). -/
def holdLost (p : PortId) (t : TransportId) (s : State) : State :=
  s.setPort p { s.port p with heldLost := (s.port p).heldLost.set t true }

/-- An accepted FORCE RELEASE in its sequence: the effect of HALT, the pending release cancelled, the owner, the held
attention; its DONE follows (R169). -/
def forceEffect (h : Head) (old : PortId) (t : TransportId) (s : State) : Reaction :=
  let r := haltEffect t s
  { r with state := holdLost old t ((supersedeRelease t r.state).setOwner t (some h.port)) }

/-- FORCE RELEASE past the unit check (R169). -/
def serveForce (h : Head) (t : TransportId) (s : State) : Result :=
  match s.owner t with
  | none => done h [] (s.setOwner t (some h.port))
  | some p =>
    if p = h.port then done h [] s
    else if (s.port p).up then .next (refuseNotOwner h t [] s)
    else answerDone h (forceEffect h p t s)

/-- FORCE_RELEASE (R169). -/
def execForceRelease (h : Head) (s : State) : Result := orderFrame h [] .reservation true (serveForce h) s

end Sys2Proof.Machine
end

