-- ==== Sys2Proof/Machine/Resets.lean ====
section
/-! DEFINITION. HARD_RESET, PART_RESET and the expiry of its hold (R18, R170 and the values-after-reset rule of each chapter). -/

namespace Sys2Proof.Machine

/-- A transport after hard reset: its blocks at their hard-reset values, its inputs as they are (R18, log 4). -/
def Transport.hardReset (tr : Transport) : Transport := resetTransport tr.lines defaultServo none

/-- HARD_RESET: every block at its hard-reset values; input lines, carrier, clock and the model's own counters as they
stand (R18, R41, R63, R83, R106, R119, R131, R142, R157, R171, R172, R174, R175, R178, log 4). -/
def execHardReset (s : State) : Result :=
  .next
    { s with
      transports := { t0 := s.transports.t0.hardReset, t1 := s.transports.t1.hardReset
                      t2 := s.transports.t2.hardReset, t3 := s.transports.t3.hardReset }
      ports := { a := resetPort s.ports.a.up, b := resetPort s.ports.b.up }
      owners := Quad.all none
      arbiter := resetArbiter
      vacuum := resetVacuum
      tables := defaultTables
      monitor := idleMonitor
      resetHold := none }

/-- A transport after PART RESET: the kept servo record gives the radii, and the snapshot is kept (R83, R119, R170). -/
def Transport.partReset (tr : Transport) (record : ServoRecord) : Transport :=
  resetTransport tr.lines record tr.snapshot

/-- A port after PART RESET: queue empty, counters 0, nothing held; line state and unit map kept (R170), and so is what
has arrived of a frame (log 30). -/
def Port.partReset (x : Port) : Port :=
  { x with tx := [], counters := zeroPortCounters, heldLost := Quad.all false }

/-- The vacuum supply after PART RESET: mode, thresholds and last pressure kept (R142). -/
def Vacuum.partReset (v : Vacuum) : Vacuum :=
  { v with blower := .off, settle := none, ready := false, economy := none }

/-- PART RESET past the arrival checks (R170). -/
def servePartReset (h : Head) (s : State) : Result :=
  .next
    { s with
      transports := { t0 := s.transports.t0.partReset s.tables.servo.t0, t1 := s.transports.t1.partReset s.tables.servo.t1
                      t2 := s.transports.t2.partReset s.tables.servo.t2, t3 := s.transports.t3.partReset s.tables.servo.t3 }
      ports := { a := s.ports.a.partReset, b := s.ports.b.partReset }
      owners := Quad.all none
      arbiter := { resetArbiter with limit := s.arbiter.limit }
      vacuum := s.vacuum.partReset
      monitor := idleMonitor
      resetHold := some { port := h.port, tag := h.tag, timer := resetHoldTime } }

/-- PART_RESET (R170). -/
def execPartReset (h : Head) (s : State) : Result := partFrame h [] (servePartReset h) s

/-- PART_RESET_HOLD_EXPIRY: the hold ends and the DONE of the PART RESET is placed (R170). -/
def execPartResetHoldExpiry (s : State) : Result :=
  match s.resetHold with
  | none => .next s
  | some x => .next (respond { port := x.port, unit := 255, tag := x.tag } .done [] { s with resetHold := none })

end Sys2Proof.Machine
end

