-- ==== Sys2Proof/Machine/Dispatch.lean ====
section
/-! DEFINITION. The meaning of every command. -/

namespace Sys2Proof.Machine

/-- The effect of a command on everything but the queue. -/
def exec (i : Instr) (s : State) : Host.Outcome State Fault Refusal :=
  match i with
  | .hardReset => Sys2Proof.Machine.execHardReset s
  | .capstanCount t cta ctb => Sys2Proof.Machine.execCapstanCount t cta ctb s
  | .reelCount t reel => Sys2Proof.Machine.execReelCount t reel s
  | .servoSample t reading => Sys2Proof.Machine.execServoSample t reading s
  | .rampStep t => Sys2Proof.Machine.execRampStep t s
  | .pressureSample mpr => Sys2Proof.Machine.execPressureSample mpr s
  | .markerInputChange t marker active => Sys2Proof.Machine.execMarkerInputChange t marker active s
  | .coverChange t isOpen => Sys2Proof.Machine.execCoverChange t isOpen s
  | .reelPresentChange t reel present => Sys2Proof.Machine.execReelPresentChange t reel present s
  | .transportPresentChange t present => Sys2Proof.Machine.execTransportPresentChange t present s
  | .onlineSwitchChange t offline => Sys2Proof.Machine.execOnlineSwitchChange t offline s
  | .panelLoadPress t => Sys2Proof.Machine.execPanelLoadPress t s
  | .panelRewindPress t => Sys2Proof.Machine.execPanelRewindPress t s
  | .panelUnloadPress t => Sys2Proof.Machine.execPanelUnloadPress t s
  | .carrierUp p => Sys2Proof.Machine.execCarrierUp p s
  | .carrierDown p => Sys2Proof.Machine.execCarrierDown p s
  | .transmissionEnd p => Sys2Proof.Machine.execTransmissionEnd p s
  | .frameCheckFailure p defect => Sys2Proof.Machine.execFrameCheckFailure p defect s
  | .unknownCodeFrame h kind code => Sys2Proof.Machine.execUnknownCodeFrame h kind code s
  | .move h body => Sys2Proof.Machine.execMove h body s
  | .rewind h body => Sys2Proof.Machine.execRewind h body s
  | .unload h => Sys2Proof.Machine.execUnload h s
  | .load h => Sys2Proof.Machine.execLoad h s
  | .stop h => Sys2Proof.Machine.execStop h s
  | .halt h => Sys2Proof.Machine.execHalt h s
  | .pause h => Sys2Proof.Machine.execPause h s
  | .continueOrder h => Sys2Proof.Machine.execContinueOrder h s
  | .selectProfile h body => Sys2Proof.Machine.execSelectProfile h body s
  | .reserve h => Sys2Proof.Machine.execReserve h s
  | .release h => Sys2Proof.Machine.execRelease h s
  | .forceRelease h => Sys2Proof.Machine.execForceRelease h s
  | .clearFault h => Sys2Proof.Machine.execClearFault h s
  | .sense h => Sys2Proof.Machine.execSense h s
  | .readSnapshot h => Sys2Proof.Machine.execReadSnapshot h s
  | .loadProfile h body => Sys2Proof.Machine.execLoadProfile h body s
  | .readProfile h body => Sys2Proof.Machine.execReadProfile h body s
  | .lockBank h body => Sys2Proof.Machine.execLockBank h body s
  | .loadServo h body => Sys2Proof.Machine.execLoadServo h body s
  | .readServo h => Sys2Proof.Machine.execReadServo h s
  | .setUnitMap h body => Sys2Proof.Machine.execSetUnitMap h body s
  | .readUnitMap h => Sys2Proof.Machine.execReadUnitMap h s
  | .setVacuum h body => Sys2Proof.Machine.execSetVacuum h body s
  | .setGrantLimit h body => Sys2Proof.Machine.execSetGrantLimit h body s
  | .senseString h => Sys2Proof.Machine.execSenseString h s
  | .setMonitor h body => Sys2Proof.Machine.execSetMonitor h body s
  | .readMonitor h => Sys2Proof.Machine.execReadMonitor h s
  | .readCounters h body => Sys2Proof.Machine.execReadCounters h body s
  | .partReset h => Sys2Proof.Machine.execPartReset h s
  | .partResetHoldExpiry => Sys2Proof.Machine.execPartResetHoldExpiry s
  | .tachLossDetection t => Sys2Proof.Machine.execTachLossDetection t s
  | .loopGuardTimerExpiry t => Sys2Proof.Machine.execLoopGuardTimerExpiry t s
  | .recoveryTimerExpiry t => Sys2Proof.Machine.execRecoveryTimerExpiry t s
  | .economyTimerExpiry => Sys2Proof.Machine.execEconomyTimerExpiry s
  | .vacuumStepExpiry t => Sys2Proof.Machine.execVacuumStepExpiry t s
  | .drawLimitExpiry t => Sys2Proof.Machine.execDrawLimitExpiry t s
  | .unloadWindExpiry t => Sys2Proof.Machine.execUnloadWindExpiry t s
  | .readyBecomesTrue => Sys2Proof.Machine.execReadyBecomesTrue s
  | .markerCrossingQualified t marker => Sys2Proof.Machine.execMarkerCrossingQualified t marker s
  | .tapeBreak t column => Sys2Proof.Machine.execTapeBreak t column s
  | .columnEnd t column which => Sys2Proof.Machine.execColumnEnd t column which s
  | .driveSaturation t reel => Sys2Proof.Machine.execDriveSaturation t reel s
  | .recoverySettled t => Sys2Proof.Machine.execRecoverySettled t s
  | .radiusWindowClose t reel => Sys2Proof.Machine.execRadiusWindowClose t reel s
  | .searchLimitReached t => Sys2Proof.Machine.execSearchLimitReached t s

end Sys2Proof.Machine
end

