-- ==== Sys2Proof/Machine/Tick.lean ====
section
/-! DEFINITION. The passing of one microsecond, which is what a step does on an empty queue (log 1). -/

namespace Sys2Proof.Machine

/-- A timer after one microsecond: a running timer's remaining time falls, and stands at 0 until its expiry comes as a
command. -/
def Timer.tick (x : Timer) : Timer := x.map (fun n => n - 1)

/-- A transport's timers after one microsecond. -/
def Transport.tick (tr : Transport) : Transport :=
  { tr with
    engine := { tr.engine with tachTimer := Timer.tick tr.engine.tachTimer }
    servo := { tr.servo with loopGuard := Timer.tick tr.servo.loopGuard }
    hold := { tr.hold with timer := Timer.tick tr.hold.timer }
    load := { tr.load with timer := Timer.tick tr.load.timer } }

/-- The state one microsecond later: the clock and the running timers (log 1). -/
def State.tick (s : State) : State :=
  { s with
    transports := { t0 := s.transports.t0.tick, t1 := s.transports.t1.tick, t2 := s.transports.t2.tick
                    t3 := s.transports.t3.tick }
    vacuum := { s.vacuum with economy := Timer.tick s.vacuum.economy }
    resetHold := s.resetHold.map (fun x => { x with timer := x.timer - 1 })
    clock := s.clock + 1 }

end Sys2Proof.Machine
end

