-- ==== Sys2Proof/Decode.lean ====
section
/-! DEFINITION. From bits to commands. No row of spec/opcode_table.json gives bits, so `decodeTableWord` answers none. The bytes that a port receives do spell commands: this file holds the receiver of R162, R182 and R183 and an encoder for the frames that the part takes. -/

namespace Sys2Proof

open Sys2Proof.Machine

/-- The command that a word spells by the table's bits: none, for the table has no row with bits. -/
def decodeTableWord (_nbits _w : Nat) : Option Instr := none

/-! ### Codes (R185) -/

/-- The command of an order frame with a good check (R163, R185). A body that the code's layout does not have is
ignored (R184). -/
def orderCommand (h : Head) (code : Byte) (body : List Byte) : Instr :=
  match code.toNat with
  | 0x01 => .move h body
  | 0x02 => .rewind h body
  | 0x03 => .unload h
  | 0x10 => .load h
  | 0x11 => .stop h
  | 0x12 => .halt h
  | 0x13 => .pause h
  | 0x14 => .continueOrder h
  | 0x15 => .selectProfile h body
  | 0x16 => .reserve h
  | 0x17 => .release h
  | 0x18 => .forceRelease h
  | 0x19 => .clearFault h
  | 0x1A => .sense h
  | 0x1B => .readSnapshot h
  | _ => .unknownCodeFrame h .order code

/-- The command of a management frame with a good check (R165, R185). -/
def managementCommand (h : Head) (code : Byte) (body : List Byte) : Instr :=
  match code.toNat with
  | 0x40 => .loadProfile h body
  | 0x41 => .readProfile h body
  | 0x42 => .lockBank h body
  | 0x43 => .loadServo h body
  | 0x44 => .readServo h
  | 0x45 => .setUnitMap h body
  | 0x46 => .readUnitMap h
  | 0x47 => .setVacuum h body
  | 0x48 => .setGrantLimit h body
  | 0x49 => .senseString h
  | 0x4A => .setMonitor h body
  | 0x4B => .readMonitor h
  | 0x4C => .readCounters h body
  | 0x4D => .partReset h
  | _ => .unknownCodeFrame h .management code

/-! ### The receiver (R162, R182, R183) -/

/-- The command of a whole frame, from its kind byte to its last CRC byte. -/
def frameCommand (p : PortId) (taken : List Byte) : Instr :=
  let body := (taken.drop 5).take (byteAt taken 4).toNat
  let h : Head := { port := p, unit := byteAt taken 1, tag := byteAt taken 2 }
  if taken.drop (5 + (byteAt taken 4).toNat) != crcBytes (taken.take (5 + (byteAt taken 4).toNat)) then
    .frameCheckFailure p .badCrc
  else
    match (byteAt taken 0).toNat with
    | 1 => orderCommand h (byteAt taken 3) body
    | 2 => managementCommand h (byteAt taken 3) body
    | 3 => .frameCheckFailure p .outboundKind
    | 4 => .frameCheckFailure p .outboundKind
    | _ => .frameCheckFailure p .unknownKind

/-- What a port has taken of a frame: none while it hunts for the sync byte, otherwise the bytes after it. -/
abbrev Receiver := Option (List Byte)

/-- One received byte: the receiver after it, and the command that it completes (R183). -/
def receiveByte (p : PortId) (r : Receiver) (x : Byte) : Receiver × Option Instr :=
  match r with
  | none => (if x = 0xA5 then some [] else none, none)
  | some taken =>
    let taken := taken ++ [x]
    if taken.length = 5 ∧ 60 < x.toNat then (none, some (.frameCheckFailure p .longBody))
    else if 5 ≤ taken.length ∧ taken.length = 7 + (byteAt taken 4).toNat then (none, some (frameCommand p taken))
    else (some taken, none)

/-- Received bytes: the receiver after them, and the commands they complete, oldest first. -/
def receiveBytes (p : PortId) : Receiver → List Byte → Receiver × List Instr
  | r, [] => (r, [])
  | r, x :: rest =>
    let (r', c) := receiveByte p r x
    let (r'', cs) := receiveBytes p r' rest
    (r'', c.toList ++ cs)

/-- A byte on RXD of port `p`, the events before it taken: an UP port's receiver takes it (R158, R183), and a frame that
it completes joins the waiting commands. CARRIER_DOWN abandons what has arrived of a frame. -/
def Machine.State.receive (p : PortId) (s : State) (x : Byte) : State :=
  if (s.port p).up then
    let (r, c) := receiveByte p (s.port p).rx x
    { s.setPort p { s.port p with rx := r } with pending := s.pending ++ c.toList }
  else s

/-! ### The encoder -/

/-- Head, kind, code and body of a frame command (R185), none for a command that is no frame with a good check. -/
def Instr.frame? (i : Instr) : Option (Head × Byte × Byte × List Byte) :=
  match i with
  | .move h b => some (h, 1, 0x01, b)
  | .rewind h b => some (h, 1, 0x02, b)
  | .unload h => some (h, 1, 0x03, [])
  | .load h => some (h, 1, 0x10, [])
  | .stop h => some (h, 1, 0x11, [])
  | .halt h => some (h, 1, 0x12, [])
  | .pause h => some (h, 1, 0x13, [])
  | .continueOrder h => some (h, 1, 0x14, [])
  | .selectProfile h b => some (h, 1, 0x15, b)
  | .reserve h => some (h, 1, 0x16, [])
  | .release h => some (h, 1, 0x17, [])
  | .forceRelease h => some (h, 1, 0x18, [])
  | .clearFault h => some (h, 1, 0x19, [])
  | .sense h => some (h, 1, 0x1A, [])
  | .readSnapshot h => some (h, 1, 0x1B, [])
  | .loadProfile h b => some (h, 2, 0x40, b)
  | .readProfile h b => some (h, 2, 0x41, b)
  | .lockBank h b => some (h, 2, 0x42, b)
  | .loadServo h b => some (h, 2, 0x43, b)
  | .readServo h => some (h, 2, 0x44, [])
  | .setUnitMap h b => some (h, 2, 0x45, b)
  | .readUnitMap h => some (h, 2, 0x46, [])
  | .setVacuum h b => some (h, 2, 0x47, b)
  | .setGrantLimit h b => some (h, 2, 0x48, b)
  | .senseString h => some (h, 2, 0x49, [])
  | .setMonitor h b => some (h, 2, 0x4A, b)
  | .readMonitor h => some (h, 2, 0x4B, [])
  | .readCounters h b => some (h, 2, 0x4C, b)
  | .partReset h => some (h, 2, 0x4D, [])
  | .unknownCodeFrame h .order code => some (h, 1, code, [])
  | .unknownCodeFrame h .management code => some (h, 2, code, [])
  | .hardReset | .capstanCount .. | .reelCount .. | .servoSample .. | .rampStep _
  | .pressureSample _ | .markerInputChange .. | .coverChange .. | .reelPresentChange ..
  | .transportPresentChange .. | .onlineSwitchChange .. | .panelLoadPress _ | .panelRewindPress _
  | .panelUnloadPress _ | .carrierUp _ | .carrierDown _ | .transmissionEnd _ | .frameCheckFailure ..
  | .partResetHoldExpiry | .tachLossDetection _ | .loopGuardTimerExpiry _
  | .recoveryTimerExpiry _ | .economyTimerExpiry | .vacuumStepExpiry _ | .drawLimitExpiry _
  | .unloadWindExpiry _ | .readyBecomesTrue | .markerCrossingQualified .. | .tapeBreak ..
  | .columnEnd .. | .driveSaturation .. | .recoverySettled _ | .radiusWindowClose ..
  | .searchLimitReached _ => none

/-- The bytes of a frame command (R182). -/
def Instr.frameBytes (i : Instr) : List Byte :=
  match i.frame? with
  | none => []
  | some (h, kind, code, body) => envelope kind h.unit h.tag code body

/-- The port of a frame command. -/
def Instr.framePort? (i : Instr) : Option PortId := i.frame?.map (fun f => f.1.port)

end Sys2Proof
end

