-- ==== Sys2Proof/Safety.lean ====
section
/-! DEFINITION. What a safe state is: the ranges and standing conditions that the spec gives for every state of the part. Also the words in which statements about frames are made: when a frame is taken, and the state after its answer. -/

namespace Sys2Proof.Machine

/-! ### Ranges -/

/-- The ranges of one reel's servo state (R64, R70, R80). -/
structure ReelServo.InRange (x : ReelServo) : Prop where
  demandLow : -2047 ≤ x.demand
  demandHigh : x.demand ≤ 2047
  satRun : x.satRun ≤ 255
  radiusLow : 175 ≤ x.radius
  radiusHigh : x.radius ≤ 525
  windowCount : x.windowCount ≤ 16384
  reelCount : x.reelCount ≤ 65535

/-- A position count lies in its range (R10). -/
def PositionInRange (c : Int) : Prop := -131072 ≤ c ∧ c ≤ 16777215

/-- The ranges of a position record (R10). -/
structure Position.InRange (x : Position) : Prop where
  count : PositionInRange x.count
  eotPoint : ∀ e, x.eotPoint = some e → PositionInRange e
  lastBot : ∀ c, x.lastBot = some c → PositionInRange c.position
  lastEot : ∀ c, x.lastEot = some c → PositionInRange c.position

/-- The ranges of a transport's state (R7, R10, R19, R64). -/
structure Transport.InRange (tr : Transport) : Prop where
  file : tr.servo.reels.file.InRange
  machine : tr.servo.reels.machine.InRange
  position : tr.sense.position.InRange
  botEdge : PositionInRange tr.sense.botRun.edge
  eotEdge : PositionInRange tr.sense.eotRun.edge
  queue : tr.queue.length ≤ 6

/-- The initial radii of a servo record lie in their range (R175). -/
structure ServoRecord.RadiiInRange (x : ServoRecord) : Prop where
  fileLow : 175 ≤ x.initialFile
  fileHigh : x.initialFile ≤ 525
  machineLow : 175 ≤ x.initialMachine
  machineHigh : x.initialMachine ≤ 525

/-- The state's ranges: every transport, and the initial radii of every servo record. -/
structure State.InRange (s : State) : Prop where
  transports : ∀ t, (s.tr t).InRange
  records : ∀ t, (s.servoOf t).RadiiInRange

/-! ### Standing conditions -/

/-- What stands at a transport whose brakes are engaged, that is UNLOADED, or that is FAULTED (R16, R17, R61, R108,
R109). -/
structure Transport.Braked (tr : Transport) : Prop where
  demands : tr.brakesEngaged = true → tr.servo.reels.file.demand = 0 ∧ tr.servo.reels.machine.demand = 0
  unloaded : tr.condition = .unloaded → tr.brakesEngaged = true ∧ tr.valveOpen = false
  faultedBrakes : tr.condition = .faulted → tr.brakesEngaged = true
  faultedStill : tr.condition = .faulted → tr.engine.v = 0
  faultedEmpty : tr.condition = .faulted → tr.motion = none ∧ tr.hold.slot1 = .free ∧ tr.queue = []

/-- Every transport meets its standing conditions. -/
def State.Braked (s : State) : Prop := ∀ t, (s.tr t).Braked

/-- The vacuum thresholds are in order, and READY is true only while the blower runs NORMAL (R132). -/
structure Vacuum.Ordered (v : Vacuum) : Prop where
  lossSag : v.loss < v.sag
  sagRun : v.sag < v.run
  ready : v.ready = true → v.blower = .normal

/-- The arbiter and the transports' own grant states agree, the waiting list is in order of priority and names no
transport twice, and the limit is one of 0 to 4 (R120, R122). -/
structure State.Granted (s : State) : Prop where
  limit : s.arbiter.limit ≤ 4
  held : ∀ t, s.arbiter.holders.get t = true ↔ (s.tr t).engine.grant = .held
  requested : ∀ t, s.arbiter.lists t = true ↔ (s.tr t).engine.grant = .requested
  order : s.arbiter.waiting.Pairwise (fun a b => a.priority ≤ b.priority)
  once : s.arbiter.waiting.Pairwise (fun a b => a.transport ≠ b.transport)

/-- A safe state. -/
structure State.Safe (s : State) : Prop where
  ranges : s.InRange
  braked : s.Braked
  vacuum : s.vacuum.Ordered
  granted : s.Granted

/-! ### Tables -/

/-- The ranges that a profile entry of the table lies in (R172). -/
structure Profile.Legal (p : Profile) : Prop where
  top : 1000 ≤ p.vTop ∧ p.vTop ≤ 250000
  acc : 1 ≤ p.aAcc ∧ p.aAcc ≤ 65535
  dec : 1 ≤ p.aDec ∧ p.aDec ≤ 65535
  period : 100 ≤ p.tR ∧ p.tR ≤ 1000
  priority : p.priority ≤ 7
  startStop : p.cls = .startStop → p.creep = none
  rewind : p.cls = .rewind → ∃ c, p.creep = some c ∧ 1000 ≤ c ∧ c ≤ 20000 ∧ c ≤ p.vTop

/-- The same entry in every place of a locked bank (R174). -/
def LockedKept (a b : Tables) : Prop :=
  ∀ n : Fin 16, a.locked n = true → b.locked n = true ∧ b.profiles.get n = a.profiles.get n

/-! ### Frames -/

/-- A frame with this body is taken on port `p`: receive-ready is high and the body has at most 60 bytes (R159,
R162). -/
structure State.Takes (s : State) (p : PortId) (body : List Byte) : Prop where
  ready : s.receiveReady p = true
  fits : body.length ≤ 60

/-- The head names transport `t`, whose owner is the sender or no one (R163, R164). -/
structure State.MaySend (s : State) (h : Head) (t : TransportId) : Prop where
  names : s.addressed h = some t
  free : s.owner t = none ∨ s.owner t = some h.port

/-- The same at a transport that is ONLINE (R163, check 4). -/
structure State.MayOrder (s : State) (h : Head) (t : TransportId) : Prop extends s.MaySend h t where
  online : (s.tr t).sense.offline = false

/-- The state with one more frame received on port `p` (R162, R171). -/
def State.counted (s : State) (p : PortId) : State :=
  let x := s.port p
  s.setPort p { x with counters := { x.counters with received := min 65535 (x.counters.received + 1) } }

/-- The state with one more response at the tail of the transmit queue of the head's port (R160, R182, R186). -/
def State.responded (s : State) (h : Head) (code : Byte) (body : List Byte) : State :=
  let x := s.port h.port
  s.setPort h.port
    { x with tx := x.tx ++ [{ kind := .response, unit := h.unit, tag := h.tag, code := code, body := body }] }

/-- A frame counted and answered. -/
def State.answered (s : State) (h : Head) (code : Byte) (body : List Byte) : State :=
  (s.counted h.port).responded h code body

/-- A frame counted, and refused: the response and one more refusal (R162, R171). -/
def State.turnedAway (s : State) (h : Head) (code : Byte) (body : List Byte) : State :=
  let s := s.counted h.port
  let x := s.port h.port
  (s.setPort h.port { x with counters := { x.counters with refusals := min 65535 (x.counters.refusals + 1) } }).responded
    h code body

/-! ### Orders as their sender writes them (R185, R187) -/

/-- A queued order: a MOVE with its direction, profile number and distance, a REWIND with its profile number, or an
UNLOAD. -/
inductive QueuedOrder where
  | move (d : Direction) (n : Option (Fin 16)) (r : Option Nat)
  | rewind (n : Option (Fin 16))
  | unload

/-- The body of a queued order's frame (R185, R187). -/
def QueuedOrder.body (x : QueuedOrder) : List Byte :=
  match x with
  | .move d n r =>
    [BitVec.ofNat 8 (directionBit d), packed [(n.isSome.toNat, 0), (r.isSome.toNat, 1)],
      BitVec.ofNat 8 ((n.map Fin.val).getD 0)] ++ bytesOf 3 (r.getD 0 : Nat)
  | .rewind none => []
  | .rewind (some n) => [BitVec.ofNat 8 n.val]
  | .unload => []

/-- The command of a queued order's frame. -/
def QueuedOrder.command (x : QueuedOrder) (h : Head) : Instr :=
  match x with
  | .move .. => .move h x.body
  | .rewind _ => .rewind h x.body
  | .unload => .unload h

/-- The distance of a MOVE, where it has one, lies within 1 to 16,777,215 (R19). -/
def QueuedOrder.Legal (x : QueuedOrder) : Prop :=
  match x with
  | .move _ _ (some r) => 0 < r ∧ r < 2 ^ 24
  | .move _ _ none | .rewind _ | .unload => True

/-- The record of a queued order in the queue (R19, R22). -/
def QueuedOrder.record (x : QueuedOrder) (h : Head) : OrderRecord :=
  match x with
  | .move d n r =>
    { kind := .move, origin := .port h.port, tag := h.tag, direction := some d, profile := n, distance := r
      arrivalUnit := none }
  | .rewind n =>
    { kind := .rewind, origin := .port h.port, tag := h.tag, direction := none, profile := n, distance := none
      arrivalUnit := none }
  | .unload =>
    { kind := .unload, origin := .port h.port, tag := h.tag, direction := none, profile := none, distance := none
      arrivalUnit := none }

/-- The profile number that a queued order resolves to (R21, R25). -/
def QueuedOrder.profileNo (x : QueuedOrder) (selected : Fin 16) : Fin 16 :=
  match x with
  | .move _ n _ => n.getD selected
  | .rewind n => n.getD 15
  | .unload => 15

/-- The entry of the table that a queued order resolves to serves it (R21): it is not EMPTY, and for a REWIND or UNLOAD
its class is REWIND. -/
def QueuedOrder.Served (x : QueuedOrder) (s : State) (t : TransportId) (p : Profile) : Prop :=
  s.tables.profiles.get (x.profileNo (s.tr t).selected) = some p ∧
    match x with
    | .move .. => True
    | .rewind _ | .unload => p.cls = .rewind

/-! ### Frames and transports after an event -/

/-- The response that ends an order of port `p` at transport `t` (R31, R160, R188). Its body sends the unassigned bits of
the flag byte and of byte 0 of the position record as 0, the model's choice (log 41). -/
def State.ending (s : State) (t : TransportId) (p : PortId) (arrival : Option Byte) (tag code : Byte)
    (stopError : Option Int) (cause : Option FaultCause) (step : Option LoadStep) : OutFrame :=
  { kind := .response, unit := arrival.getD (lowestUnit (s.port p).unitMap t), tag := tag, code := code
    body := endingBody t (s.tr t).position stopError cause step }

/-- The state with transport `t` out of the holders set and its grant state NONE (R126). -/
def State.released (s : State) (t : TransportId) : State :=
  ({ s with arbiter := { s.arbiter with holders := s.arbiter.holders.set t false } } : State).setTr t
    { s.tr t with engine := { (s.tr t).engine with grant := .none } }

/-- The state after transport `t` gives up a grant that it holds (R126). -/
def State.letGo (s : State) (t : TransportId) : State :=
  if (s.tr t).engine.grant = .held then s.released t else s

/-- Transport `t` has no request in the waiting list, and no one waits for the grant that it holds. -/
structure State.FreeToLetGo (s : State) (t : TransportId) : Prop where
  noRequest : (s.tr t).engine.grant ≠ .requested
  noneWaits : (s.tr t).engine.grant = .held → s.arbiter.waiting = []

/-- The DONE of a frame as it stands in its port's queue. -/
def doneFrame (h : Head) : OutFrame := { kind := .response, unit := h.unit, tag := h.tag, code := 0, body := [] }

/-- A port after one attention for transport `t` goes to it (R161): the owning port, or each UP port of an unowned
transport, gets the frame at its tail, and drops and counts it when it is DOWN or holds 16 frames. -/
def State.attended (s : State) (t : TransportId) (code : Byte) (field : List Byte) (p : PortId) : Port :=
  let x := s.port p
  if s.owner t = some p ∨ (s.owner t = none ∧ x.up = true) then
    if x.up = true ∧ x.tx.length < 16 then
      { x with tx := x.tx ++ [{ kind := .attention, unit := lowestUnit x.unitMap t, tag := 0, code := code
                                body := transportByte t :: field }] }
    else { x with counters := { x.counters with dropped := min 65535 (x.counters.dropped + 1) } }
  else x

/-- A port after these frames join its queue: an UP port takes them in this order, a DOWN one none (R158, R160). -/
def Port.sent (x : Port) (frames : List OutFrame) : Port :=
  { x with tx := x.tx ++ if x.up = true then frames else [] }

/-- The ending response that port `q` gets for a taken order, if it is the order's own port; the stop error is the R of a
MOVE (R31). -/
def State.endingOf (s : State) (t : TransportId) (q : PortId) (m : Motion) (code : Byte) (cause : Option FaultCause) :
    List OutFrame :=
  if m.origin = .port q then
    [s.ending t q m.arrivalUnit m.tag code (if m.kind = .move then m.r else none) cause none]
  else []

/-- The ending responses that port `q` gets for the records of the queue, head first (R31, R37). -/
def State.flushed (s : State) (t : TransportId) (q : PortId) (code : Byte) (cause : Option FaultCause) : List OutFrame :=
  ((s.tr t).queue.filter (fun x => x.origin = .port q)).map
    (fun x => s.ending t q x.arrivalUnit x.tag code none cause none)

/-- The ending response that port `q` gets for the LOAD under way (R149). -/
def State.loadEnding (s : State) (t : TransportId) (q : PortId) (code : Byte) (cause : Option FaultCause) : List OutFrame :=
  match (s.tr t).load.record with
  | some l => if l.origin = .port q then [s.ending t q none l.tag code none cause none] else []
  | none => []

/-- The state after the request of transport `t`, if it has one, is withdrawn (R127). -/
def State.withdrawn (s : State) (t : TransportId) : State :=
  if (s.tr t).engine.grant = .requested then
    ({ s with arbiter := { s.arbiter with waiting := s.arbiter.waiting.filter (fun e => e.transport ≠ t) } } : State).setTr
      t { s.tr t with engine := { (s.tr t).engine with grant := .none } }
  else s

/-- The state without the current order of transport `t`, but for its response, its phase and its slot: motion context
and working top speed are empty, a REWIND or UNLOAD sequence is over and a start measurement at `t` is idle (R32, R42,
R153, R157, R179). -/
def State.orderGone (s : State) (t : TransportId) : State :=
  let tr := s.tr t
  { s.setTr t { tr with
      motion := none, engine := { tr.engine with workTop := none }
      load := if tr.load.sequence = .rewind ∨ tr.load.sequence = .unload then idleLoad else tr.load } with
    monitor := if s.monitor.transport = t ∧ s.monitor.measure = .startLatency then { s.monitor with running := none }
      else s.monitor }

/-- The state after the idle report at transport `t`, which is idle: a pending release takes effect, the owner is NONE, and
the RELEASE is answered DONE (R40, R168; its unit byte: log 47). -/
def State.relieved (s : State) (t : TransportId) : State :=
  match (s.tr t).release with
  | none => s
  | some r =>
    let u := (s.setTr t { s.tr t with release := none }).setOwner t none
    u.setPort r.port ((u.port r.port).sent
      [{ kind := .response, unit := lowestUnit (u.port r.port).unitMap t, tag := r.tag, code := 0, body := [transportByte t] }])

/-! ### Halted transports -/

/-- The state after HALT at a transport in motion with the order `m`, with this queue left, but for the responses (R34,
R103, R150). -/
def State.haltedInMotion (s : State) (t : TransportId) (m : Motion) (queue : List OrderRecord) : State :=
  (s.setTr t { s.tr t with
    queue := queue, paused := false, phase := .decel, hold := idleHold
    motion := some { m with endReason := some .halt } }).letGo t

/-- The state after HALT at a LOADED transport that is not in motion, but for the responses (R34, R103). -/
def State.haltedAtOnce (s : State) (t : TransportId) : State :=
  let w := if (s.tr t).current.isSome then (s.withdrawn t).orderGone t else s
  w.setTr t { w.tr t with queue := [], paused := false, phase := .stopped, hold := idleHold }

/-! ### Load Control -/

/-- The working top speed that the spec gives a start from rest of the motion `m` in this sub-step (R44, R147, R152). -/
def State.topFor (s : State) (t : TransportId) (m : Motion) (step : Option SeqStep) : Nat :=
  let x := (s.tr t).sense.position
  if (m.kind = .rewind ∨ m.kind = .unload) ∧
      (step = some .reverseCreep ∨ step = some .clearing ∨ step = some .reverseStop ∨ step = some .forwardCreep ∨
        (step = some .reverse ∧ x.referenced = true ∧ x.count ≤ ((s.servoOf t).approach : Int))) then
    m.copy.creep.getD m.copy.vTop
  else m.copy.vTop

/-- The state with the position record as a LOAD that ends LOADED with this code leaves it: unreferenced after NO BOT and
BAD PROFILE (R147, R149). -/
def State.loadMarked (s : State) (t : TransportId) (code : Byte) : State :=
  let tr := s.tr t
  if code = 4 ∨ code = 0x25 then
    s.setTr t { tr with sense := { tr.sense with position := { tr.sense.position with referenced := false } } }
  else s

/-- The state after a LOAD has ended LOADED with this code, but for its response (R149). -/
def State.loadEnded (s : State) (t : TransportId) (code : Byte) : State :=
  let w := s.loadMarked t code
  w.setTr t { w.tr t with
    condition := .loaded, phase := .stopped, motion := none, load := idleLoad
    engine := { (w.tr t).engine with workTop := none } }

/-- The state at the begin of the WIND step (R154). -/
def State.windBegun (s : State) (t : TransportId) : State :=
  let tr := s.tr t
  s.setTr t { tr with
    condition := .unloading, phase := .stopped, valveOpen := false, engine := { tr.engine with workTop := none }
    hold := { tr.hold with cause := none, pending := noRanks }, servo := { tr.servo with mode := .wind }
    load := { tr.load with step := some .wind, timer := some (1000 * (s.servoOf t).windTime) } }

/-- A running timer, or 0 for a stopped one, in two bytes as milliseconds: a part of a millisecond is rounded down or up
(R189, R190; the rounding is free: log 5). -/
def wholeMs (x : Timer) (b : List Byte) : Prop :=
  ∃ n : Nat, b = bytesOf 2 n ∧ 1000 * n < x.getD 0 + 1000 ∧ x.getD 0 < 1000 * n + 1000

/-! ### Takes -/

/-- A MOVE in this direction at rest meets a tape limit: EOT LIMIT (3) or AT BOT (2) (R26). -/
def State.LimitMet (s : State) (t : TransportId) (d : Direction) (code : Byte) : Prop :=
  let x := (s.tr t).sense.position
  (d = .forward ∧ code = 3 ∧ x.pastEot = true ∧
    ∃ e, x.eotPoint = some e ∧ ((s.servoOf t).eotAllowance : Int) ≤ x.count - e) ∨
  (d = .reverse ∧ code = 2 ∧ x.referenced = true ∧ x.count ≤ 0)

/-- A record of the queue ends at its take: BAD PROFILE (0x25), or for a MOVE a tape limit (R25, R26). -/
def State.EndsAtTake (s : State) (t : TransportId) (x : OrderRecord) (code : Byte) : Prop :=
  let entry := s.tables.profiles.get (match x.kind with
    | .unload => 15
    | .rewind => x.profile.getD 15
    | .move | .load => x.profile.getD (s.tr t).selected)
  (code = 0x25 ∧ (entry = none ∨ (x.kind ≠ .move ∧ ∀ p, entry = some p → p.cls ≠ .rewind))) ∨
  (x.kind = .move ∧ entry ≠ none ∧ s.LimitMet t (x.direction.getD .forward) code)

/-! ### Grants -/

/-- The velocity of magnitude `v` in the direction of a motion. -/
def velocityOf (d : Direction) (v : Nat) : Int := if d = .forward then (v : Int) else -(v : Int)

/-- The EOT limit is not reached at a motion in this direction whose stop distance is `d`: it is not FORWARD, or the tape is
not past EOT, or its position lies short of the allowance by more than `d` (R47, R54). -/
def State.ShortOfEot (s : State) (t : TransportId) (direction : Direction) (d : Nat) : Prop :=
  let x := (s.tr t).sense.position
  direction = .forward → x.pastEot = true → ∀ n, x.eotPoint = some n →
    x.count - n < ((s.servoOf t).eotAllowance : Int) - (d : Int)

/-- Transport `t` waits with a MOVE that starts when it is granted: its first ramp step meets no limit and does not reach
the top speed (R45, R47, R48). -/
structure State.StartsOnGrant (s : State) (t : TransportId) (m : Motion) : Prop where
  motion : (s.tr t).motion = some m
  kind : m.kind = .move
  condition : (s.tr t).condition = .loaded
  distance : ∀ r, m.r = some r → 0 < r
  tape : s.ShortOfEot t m.direction 0
  still : (s.tr t).engine.v = 0
  tach : (s.tr t).engine.tach = .clear
  cause : (s.tr t).hold.cause = none
  copy : 0 < m.copy.aAcc ∧ m.copy.aAcc < m.copy.vTop

/-- The state after transport `t` is granted and has made its first ramp step: a holder in ACCEL, at the speed of one
step (R44, R45, R48, R57, R124, R125). -/
def State.started (s : State) (t : TransportId) : State :=
  match (s.tr t).motion with
  | none => s
  | some m =>
    ({ s with arbiter := { s.arbiter with holders := s.arbiter.holders.set t true } } : State).setTr t
      { s.tr t with
        phase := .accel
        engine := { (s.tr t).engine with
          grant := .held, workTop := some m.copy.vTop, stepTimer := true, v := velocityOf m.direction m.copy.aAcc
          tachTimer := some (1000 * (s.servoOf t).tachTimeout) } }

/-- How many transports hold a grant. -/
def State.holderCount (s : State) : Nat :=
  s.arbiter.holders.t0.toNat + s.arbiter.holders.t1.toNat + s.arbiter.holders.t2.toNat + s.arbiter.holders.t3.toNat

/-- The arbiter's list begins with entries that all start and find room under the limit, and behind them it is empty or
there is no room left (R121, R123). -/
structure State.Serves (s : State) (now rest : List WaitEntry) : Prop where
  list : s.arbiter.waiting = now ++ rest
  starts : ∀ e ∈ now, ∃ m, s.StartsOnGrant e.transport m
  free : ∀ e ∈ now, s.arbiter.holders.get e.transport = false
  once : (now.map WaitEntry.transport).Nodup
  room : s.arbiter.limit = 0 ∨ now = [] ∨ s.holderCount + now.length ≤ s.arbiter.limit
  full : rest = [] ∨ (s.arbiter.limit ≠ 0 ∧ s.arbiter.limit ≤ s.holderCount + now.length)

/-- The state after the arbiter has served these heads of its list, first to last (R123 to R125). -/
def State.served (s : State) (now rest : List WaitEntry) : State :=
  now.foldl (fun x e => x.started e.transport) { s with arbiter := { s.arbiter with waiting := rest } }

/-! ### Recoveries -/

/-- The Hold Controller with this cause entered into service as the active recovery (R88, R89). -/
def State.serving (s : State) (t : TransportId) (h : Hold) (a : Rank) : Hold :=
  { h with
    inService := h.inService.put a true, active := some a, settle := 0
    timer := if a = .loopGuard then some (1000 * (s.servoOf t).recoveryLimit) else none }

/-- The answer `r` is that of an event in which the active VACUUM SAG recovery of the HELD transport `t` ends, READY being
true, from the state `s` (R90, R98 to R100): a pending cause enters service, or the cause in slot 2 does, or slot 1 is
popped. An empty context there leaves the transport STOPPED, here with an empty queue. A saved MOVE that meets no ending
goes on to WAIT GRANT, and with room under the limit makes its first ramp step. -/
def State.SagEnds (s : State) (t : TransportId) (r : Host.Outcome State Fault Refusal) : Prop :=
  let tr := s.tr t
  let h := tr.hold
  let out := { h with inService := h.inService.put .sag false, active := none, settle := 0, timer := none }
  let put := fun (x : Hold) => s.setTr t { tr with hold := x }
  (h.pending = noRanks.put .loopGuard true → (∀ x, h.slot2 = some x → x.rank = .pause) →
    r = .next (put (s.serving t { out with pending := noRanks } .loopGuard))) ∧
  (h.pending = noRanks.put .pause true → h.slot2 = none →
    r = .next (put (s.serving t { out with pending := noRanks } .pause))) ∧
  (∀ x, h.slot2 = some x → x.rank ≠ .sag → h.pending = noRanks ∨ (h.pending = noRanks.put .pause true ∧ x.rank = .loopGuard) →
    r = .next (put (s.serving t { out with slot2 := none } x.rank))) ∧
  (h.pending = noRanks → h.slot2 = none → h.slot1 = .emptyContext → tr.queue = [] →
    r = .next (reviewVacuum
      ((s.setTr t { tr with phase := .stopped, hold := { out with slot1 := .free } }).relieved t))) ∧
  (∀ m, h.pending = noRanks → h.slot2 = none → h.slot1 = .saved m → m.endReason ≠ some .bot →
    (∀ code, ¬ s.LimitMet t m.direction code) → tr.engine.grant = .none → s.arbiter.holders.get t = false →
    s.arbiter.waiting = [] →
    let u := s.setTr t { tr with motion := some m, phase := .waitGrant, hold := { out with slot1 := .free } }
    u.StartsOnGrant t m →
    (s.arbiter.limit = 0 ∨ s.holderCount < s.arbiter.limit → r = .next (u.started t)) ∧
    (s.arbiter.limit ≠ 0 → s.arbiter.limit ≤ s.holderCount → r = .next
      { u.setTr t { u.tr t with engine := { tr.engine with grant := .requested } } with
        arbiter := { s.arbiter with
          waiting := [{ transport := t, priority := m.copy.priority, joined := s.arbiter.nextJoin }]
          nextJoin := s.arbiter.nextJoin + 1 } }))

/-! ### Fault stops and entries to UNLOADED -/

/-- Port `q` after a fault stop of transport `t` (R109, R110, R161, R170): the ABORTED ending of the current order (of the
LOAD while LOADING), those of the queue, the FAULT STOP attention for the owner as it stood, the DONE of a pending
release (its unit byte: log 47). -/
def State.faultPort (s : State) (t : TransportId) (c : FaultCause) (q : PortId) : Port :=
  let current := if (s.tr t).condition = .loading then s.loadEnding t q 0x10 (some c)
    else match (s.tr t).current with
      | some m => s.endingOf t q m 0x10 (some c)
      | none => []
  let x := (s.port q).sent (current ++ s.flushed t q 0x10 (some c))
  let y := if s.resetHold.isSome then x else (s.setPort q x).attended t 2 [BitVec.ofNat 8 c.code] q
  y.sent (match (s.tr t).release with
    | some r => if r.port = q then
        [{ kind := .response, unit := lowestUnit y.unitMap t, tag := r.tag, code := 0, body := [transportByte t] }]
      else []
    | none => [])

/-- What a fault stop with this cause leaves of the transport, the snapshot it writes, and the frames it places on each port
(R108 to R111, R118). The other transports are untouched, unless the blower leaves its state in the event (R133, R138). -/
structure State.FaultStopped (s u : State) (t : TransportId) (c : FaultCause) : Prop where
  condition : (u.tr t).condition = .faulted
  cause : (u.tr t).faultCause = some c
  brakes : (u.tr t).brakesEngaged = true
  valve : (u.tr t).valveOpen = (s.tr t).valveOpen
  still : (u.tr t).engine = { v := 0, workTop := none, stepTimer := false, grant := .none, tachTimer := none, tach := .clear }
  demands : (u.tr t).servo.reels.file.demand = 0 ∧ (u.tr t).servo.reels.machine.demand = 0
  loopGuard : (u.tr t).servo.loopGuard = none
  radii : (u.tr t).servo.reels.file.radius = (s.tr t).servo.reels.file.radius ∧
    (u.tr t).servo.reels.machine.radius = (s.tr t).servo.reels.machine.radius
  empty : (u.tr t).queue = [] ∧ (u.tr t).motion = none ∧ (u.tr t).hold.slot1 = .free ∧ (u.tr t).hold.slot2 = none ∧
    (u.tr t).hold.cause = none ∧ (u.tr t).hold.timer = none ∧ (u.tr t).load.sequence = .none ∧ (u.tr t).paused = false ∧
    (u.tr t).release = none
  kept : (u.tr t).selected = (s.tr t).selected ∧ (u.tr t).sense.position = (s.tr t).sense.position ∧
    (u.tr t).sense.depths = (s.tr t).sense.depths
  counter : (u.tr t).counters =
    { (s.tr t).counters with faults := min 65535 ((s.tr t).counters.faults + 1) }
  snapshot : ∃ x, (u.tr t).snapshot = some x ∧ x.cause = c ∧ x.condition = (s.tr t).condition ∧
    x.phase = (s.tr t).phaseSeen ∧ x.position = (s.tr t).sense.position ∧ x.v = (s.tr t).engine.v ∧
    x.queueDepth = (s.tr t).queue.length ∧ x.inService = (s.tr t).hold.inService ∧ x.pending = (s.tr t).hold.pending ∧
    x.slots = (s.tr t).hold.slotsUsed ∧ x.depths = (s.tr t).sense.depths ∧
    x.demands = { file := (s.tr t).servo.reels.file.demand, machine := (s.tr t).servo.reels.machine.demand } ∧
    x.radii = { file := (s.tr t).servo.reels.file.radius, machine := (s.tr t).servo.reels.machine.radius } ∧
    x.order = (if (s.tr t).condition = .loading ∧ (s.tr t).load.record.isSome then
        (s.tr t).load.record.map (fun l => { kind := .load, tag := l.tag, origin := l.origin })
      else (s.tr t).current.map (fun m => { kind := m.kind, tag := m.tag, origin := m.origin })) ∧
    x.r = (match (s.tr t).current with
      | some m => if m.kind = .move then m.r else none
      | none => none) ∧
    x.further = 0
  others : u.vacuum.blower = s.vacuum.blower → ∀ v, v ≠ t → u.tr v = s.tr v
  frames : ∀ q, u.port q = s.faultPort t c q
  released : u.owner t = if (s.tr t).release.isSome then none else s.owner t
  tables : u.tables = s.tables

/-- What an entry to UNLOADED leaves of a transport `a` (R5, R11, R17, R71, R81, R106, R116, R157). -/
structure Transport.EntersUnloaded (a b : Transport) : Prop where
  condition : b.condition = .unloaded
  still : b.phase = .stopped ∧ b.paused = false ∧ b.brakesEngaged = true ∧ b.valveOpen = false
  demands : b.servo.reels.file.demand = 0 ∧ b.servo.reels.machine.demand = 0
  radii : b.servo.reels.file.radius = a.servo.reels.file.radius ∧ b.servo.reels.machine.radius = a.servo.reels.machine.radius
  loopGuard : b.servo.loopGuard = none
  load : b.load = idleLoad
  hold : b.hold = idleHold
  position : b.sense.position = clearedPosition ∧ b.sense.lastDirection = none
  kept : b.lines = a.lines ∧ b.selected = a.selected ∧ b.release = a.release ∧ b.snapshot = a.snapshot ∧ b.counters = a.counters

/-- What an entry of transport `t` to UNLOADED by HALT or by an ending of Load Control leaves of the state, but for the
ports: the transport UNLOADED with an empty motion context and a request withdrawn, all else as it was (R149, R155). -/
structure State.Unloads (s w : State) (t : TransportId) : Prop where
  enters : (s.tr t).EntersUnloaded (w.tr t)
  motion : (w.tr t).motion = none
  others : ∀ u, u ≠ t → w.tr u = s.tr u
  owners : w.owners = s.owners
  tables : w.tables = s.tables
  vacuum : w.vacuum = s.vacuum
  arbiter : w.arbiter = (s.withdrawn t).arbiter

/-- The motion of transport `t`, a queued order or the search of a LOAD, meets no limit at its next ramp step: no hold cause
stands, the EOT limit is not reached, and a MOVE with a distance has more to go than its stop distance (R47). -/
structure State.RunsOn (s : State) (t : TransportId) (m : Motion) : Prop where
  motion : (s.tr t).motion = some m
  condition : (s.tr t).condition = .loaded ∨ ((s.tr t).condition = .loading ∧ (s.tr t).load.step = some .search)
  timer : (s.tr t).engine.stepTimer = true
  cause : (s.tr t).hold.cause = none
  tape : s.ShortOfEot t m.direction (stopDistance m.copy (s.tr t).engine.v.natAbs)
  distance : m.kind = .move → ∀ r, m.r = some r → (stopDistance m.copy (s.tr t).engine.v.natAbs : Int) < r

end Sys2Proof.Machine
end

