-- ==== Sys2Proof/Certificates/Slice0/Obligations.lean ====
section
/-! DEFINITION. The statements for the provers. -/

open Sys2Proof Sys2Proof.Machine

/-! ### The machine -/

/-- A step with a command at the front of the queue is that command's `exec` with the queue's rest (log 1). -/
def Obligations.StepRunsTheFrontCommand : Prop :=
  ∀ (s : State) (c : Instr) (rest : List Instr),
    step { s with pending := c :: rest } = exec c { s with pending := rest }

/-- The model's choice (log 1): a step on an empty queue is one microsecond. The clock advances, every running timer
loses a microsecond and stands at 0 when it has none left, and nothing else changes. -/
def Obligations.EmptyQueueStepIsOneMicrosecond : Prop :=
  ∀ s : State, s.pending = [] → step s = .next
    { s with
      transports :=
        let f := fun (x : Transport) =>
          { x with
            engine := { x.engine with tachTimer := x.engine.tachTimer.map (· - 1) }
            servo := { x.servo with loopGuard := x.servo.loopGuard.map (· - 1) }
            hold := { x.hold with timer := x.hold.timer.map (· - 1) }
            load := { x.load with timer := x.load.timer.map (· - 1) } }
        { t0 := f s.transports.t0, t1 := f s.transports.t1, t2 := f s.transports.t2, t3 := f s.transports.t3 }
      vacuum := { s.vacuum with economy := s.vacuum.economy.map (· - 1) }
      resetHold := s.resetHold.map (fun x => { x with timer := x.timer - 1 })
      clock := s.clock + 1 }

/-- The state after reset is a safe state (Safety.lean). -/
def Obligations.ResetStateIsSafe : Prop := State.reset.Safe

/-- Every step keeps a safe state safe. Safe says that demands, saturation runs, radii, window counts, the position
record and the edge stamps lie in their ranges, with the initial radii of the servo records in theirs; no queue holds
more than 6 orders; the demands are 0 while the brakes are engaged; an UNLOADED transport has brakes engaged and valve
CLOSED; a FAULTED one has brakes engaged, velocity 0 and no order; the vacuum thresholds are in order, with READY true
only while the blower is NORMAL; the grant limit is at most 4, the arbiter's lists agree with the transports' grant
states, and the waiting list is in order of priority and names no transport twice. -/
def Obligations.EveryStepKeepsSafe : Prop := ∀ s s' : State, s.Safe → step s = .next s' → s'.Safe

/-- R174: while a bank is locked, no command but the hard reset changes an entry of it or its lock. -/
def Obligations.LockedBankNeverChanges : Prop :=
  ∀ (c : Instr) (s s' : State), c ≠ .hardReset → exec c s = .next s' → LockedKept s.tables s'.tables

/-- Only four commands change the Table Store. -/
def Obligations.TablesChangeOnlyByTheirCommands : Prop :=
  ∀ (c : Instr) (s s' : State), exec c s = .next s' →
    (∀ h b, c ≠ .loadProfile h b) → (∀ h b, c ≠ .lockBank h b) → (∀ h b, c ≠ .loadServo h b) → c ≠ .hardReset →
      s'.tables = s.tables

/-- A command changes neither the queue of waiting commands nor the clock. -/
def Obligations.ExecLeavesQueueAndClock : Prop :=
  ∀ (c : Instr) (s s' : State), exec c s = .next s' → s'.pending = s.pending ∧ s'.clock = s.clock

/-! ### Frames -/

/-- The bytes of a frame command, received on its port by a receiver that hunts, give that command and leave the
receiver hunting. -/
def Obligations.FrameBytesDecodeToTheirCommand : Prop :=
  ∀ (i : Instr) (p : PortId), i.wellFormed = true → i.framePort? = some p →
    receiveBytes p none i.frameBytes = (none, [i])

/-! ### Tables -/

/-- R173, R191: an entry sent in the layout of a profile record is stored whole, and nothing else changes but the
count of the frame and its DONE. -/
def Obligations.LoadProfileStoresTheEntry : Prop :=
  ∀ (h : Head) (n : Fin 16) (e : Option Profile) (s : State), (∀ p, e = some p → p.Legal) → h.unit = 255 →
    s.Takes h.port (profileBytes n e) → s.tables.locked n = false →
      exec (.loadProfile h (profileBytes n e)) s = .next
        (({ s with tables := { s.tables with profiles := s.tables.profiles.set n.val e n.isLt } } : State).answered h 0 [])

/-- R173: the refusals of LOAD PROFILE. An entry with a value outside the ranges of R172 is refused BAD FIELD (0x26)
whatever the locks, a legal one for a locked bank LOCKED (0x27), and a refusal changes no table. The premise on the
widths says that the record's bytes carry the entry. -/
def Obligations.LoadProfileRefusals : Prop :=
  ∀ (h : Head) (n : Fin 16) (p : Profile) (s : State), h.unit = 255 → s.Takes h.port (profileBytes n (some p)) →
    p.vTop < 2 ^ 24 → p.aAcc < 2 ^ 16 → p.aDec < 2 ^ 16 → p.tR < 2 ^ 16 → p.priority < 2 ^ 8 →
    (∀ c, p.creep = some c → 0 < c ∧ c < 2 ^ 16) →
      (¬ p.Legal → exec (.loadProfile h (profileBytes n (some p))) s = .next (s.turnedAway h 0x26 [])) ∧
      (p.Legal → s.tables.locked n = true →
        exec (.loadProfile h (profileBytes n (some p))) s = .next (s.turnedAway h 0x27 []))

/-- R173: READ PROFILE answers with the entry's record and changes nothing; a number above 15 is refused. -/
def Obligations.ReadProfileReturnsTheEntry : Prop :=
  ∀ (h : Head) (x : Byte) (rest : List Byte) (s : State), h.unit = 255 → s.Takes h.port (x :: rest) →
    (∀ hx : x.toNat < 16, exec (.readProfile h (x :: rest)) s =
      .next (s.answered h 0 (profileBytes ⟨x.toNat, hx⟩ (s.tables.profiles.get ⟨x.toNat, hx⟩)))) ∧
    (16 ≤ x.toNat → exec (.readProfile h (x :: rest)) s = .next (s.turnedAway h 0x26 []))

/-- R174: LOCK BANK sets the one lock that its byte names, and any other byte is refused BAD FIELD. -/
def Obligations.LockBankLocksTheNamedBank : Prop :=
  ∀ (h : Head) (x : Byte) (rest : List Byte) (s : State), h.unit = 255 → s.Takes h.port (x :: rest) →
    (x = 0 → exec (.lockBank h (x :: rest)) s =
      .next (({ s with tables := { s.tables with lock0 := true } } : State).answered h 0 [])) ∧
    (x = 1 → exec (.lockBank h (x :: rest)) s =
      .next (({ s with tables := { s.tables with lock1 := true } } : State).answered h 0 [])) ∧
    (1 < x.toNat → exec (.lockBank h (x :: rest)) s = .next (s.turnedAway h 0x26 []))

/-- R176, R191: a servo record sent in its layout is stored whole and reserves the transport, while the transport stands
where it takes one; in any other condition or phase it is refused BUSY (0x28). READ SERVO answers any port with the
record's 44 bytes; that its reserved byte 19, which R191 only calls ignored, is sent as 0 is the model's choice (log
41). The unload wind time is sent in units of 100 ms. Left out here: a record received with another reserved byte, and
one with values out of range. -/
def Obligations.ServoRecordLoadsAndReads : Prop :=
  ∀ (h : Head) (t : TransportId) (r : ServoRecord) (s : State), s.Takes h.port r.bytes → s.addressed h = some t →
    (exec (.readServo h) s = .next (s.answered h 0 (s.servoOf t).bytes)) ∧
    (s.owner t = none ∨ s.owner t = some h.port → r.valid = true → 100 ∣ r.windTime →
      if (s.tr t).condition = .unloaded ∨ (s.tr t).condition = .faulted ∨
          ((s.tr t).condition = .loaded ∧ (s.tr t).phase = .stopped) then
        exec (.loadServo h r.bytes) s = .next
          ((({ s with tables := { s.tables with servo := s.tables.servo.set t r } } : State).setOwner t
            (some h.port)).answered h 0 [])
      else exec (.loadServo h r.bytes) s = .next (s.turnedAway h 0x28 []))

/-! ### String management -/

/-- R166: SET UNIT MAP replaces the sending port's map whole, and READ UNIT MAP answers with it. -/
def Obligations.UnitMapSetsAndReads : Prop :=
  ∀ (h : Head) (m : Vector (Option TransportId) 16) (s : State), h.unit = 255 → s.Takes h.port (unitMapBytes m) →
    exec (.setUnitMap h (unitMapBytes m)) s =
      .next ((s.setPort h.port { s.port h.port with unitMap := m }).answered h 0 []) ∧
    exec (.readUnitMap h) s = .next (s.answered h 0 (unitMapBytes (s.port h.port).unitMap))

/-- R133, R135: SET VACUUM sets the mode and the three thresholds, and the blower state follows the table of R133: OFF
with every transport UNLOADED, otherwise as the mode says, where AUTO leaves a quiet string at ECONOMY. Thresholds out
of order are refused BAD FIELD and leave the controller as it stood. -/
def Obligations.SetVacuumSetsModeThresholdsAndBlower : Prop :=
  ∀ (h : Head) (mode : VacuumMode) (a b c : Byte) (s : State), h.unit = 255 →
    s.Takes h.port [BitVec.ofNat 8 mode.code, a, b, c] →
      if a.toNat < b.toNat ∧ b.toNat < c.toNat then
        ∃ t, exec (.setVacuum h [BitVec.ofNat 8 mode.code, a, b, c]) s = .next t ∧
          t.vacuum.mode = mode ∧ t.vacuum.loss = a.toNat ∧ t.vacuum.sag = b.toNat ∧ t.vacuum.run = c.toNat ∧
          t.vacuum.lastPressure = s.vacuum.lastPressure ∧ t.tables = s.tables ∧ t.owners = s.owners ∧
          (s.allUnloaded = true → t.vacuum.blower = .off) ∧
          (s.allUnloaded = false → mode = .normal → t.vacuum.blower = .normal) ∧
          (s.allUnloaded = false → mode = .economy → t.vacuum.blower = .economy) ∧
          (s.allUnloaded = false → mode = .auto → t.vacuum.blower =
            if s.quiet = true ∧ s.vacuum.blower = .economy then .economy else .normal) ∧
          (t.vacuum.blower ≠ s.vacuum.blower → t.vacuum.settle = none ∧ t.vacuum.ready = false) ∧
          (t.vacuum.blower = s.vacuum.blower → t.vacuum.settle = s.vacuum.settle ∧ t.vacuum.ready = s.vacuum.ready) ∧
          (t.port h.port).tx = (s.port h.port).tx ++
            [{ kind := .response, unit := 255, tag := h.tag, code := 0, body := [] }]
      else exec (.setVacuum h [BitVec.ofNat 8 mode.code, a, b, c]) s = .next (s.turnedAway h 0x26 [])

/-- R121, R123 to R125, R128: a limit of 0 to 4 is set and answered DONE, and the arbiter serves its list: heads that find
room under the new limit become holders in ACCEL at the speed of their first ramp step, first to last, and leave the list;
the rest waits on. With an empty list, or without room, nothing else changes. The heads here are MOVEs whose first step
meets no limit (Serves). A value above 4 is refused BAD FIELD. -/
def Obligations.SetGrantLimitSetsTheLimit : Prop :=
  ∀ (h : Head) (x : Byte) (rest : List Byte) (s : State), h.unit = 255 → s.Takes h.port (x :: rest) →
    (x.toNat ≤ 4 → s.arbiter.waiting = [] → exec (.setGrantLimit h (x :: rest)) s =
      .next (({ s with arbiter := { s.arbiter with limit := x.toNat } } : State).answered h 0 [])) ∧
    (x.toNat ≤ 4 → let limited : State := { s with arbiter := { s.arbiter with limit := x.toNat } }
      ∀ heads others, limited.Serves heads others →
        exec (.setGrantLimit h (x :: rest)) s = .next ((limited.served heads others).answered h 0 [])) ∧
    (4 < x.toNat → exec (.setGrantLimit h (x :: rest)) s = .next (s.turnedAway h 0x26 []))

/-- R130, R141, R190: SENSE STRING answers with 18 bytes and changes nothing: the limit (0), the holders (1), the length
of the waiting list (2), up to four entries of it, head first, with transport and priority (3 to 6), the mode (7), the
blower (8), the thresholds (9 to 11), the last pressure (12), READY and whether the two timers run (13), and the timers
in ms (14 to 17); what the economy timer has over a whole ms is rounded down or up (log 5). -/
def Obligations.SenseStringReportsArbiterAndVacuum : Prop :=
  ∀ (h : Head) (s : State), h.unit = 255 → s.Takes h.port [] → ∃ b, exec (.senseString h) s = .next (s.answered h 0 b) ∧
    b.length = 18 ∧
    b[0]? = some (BitVec.ofNat 8 s.arbiter.limit) ∧
    (∀ x, b[1]? = some x → ∀ t : TransportId, x.getLsbD (transportByte t).toNat = s.arbiter.holders.get t) ∧
    b[2]? = some (BitVec.ofNat 8 s.arbiter.waiting.length) ∧
    b[7]? = some (BitVec.ofNat 8 (match s.vacuum.mode with | .normal => 0 | .economy => 1 | .auto => 2)) ∧
    b[8]? = some (BitVec.ofNat 8 (match s.vacuum.blower with | .off => 0 | .economy => 1 | .normal => 2)) ∧
    b[9]? = some (BitVec.ofNat 8 s.vacuum.loss) ∧ b[10]? = some (BitVec.ofNat 8 s.vacuum.sag) ∧
    b[11]? = some (BitVec.ofNat 8 s.vacuum.run) ∧ b[12]? = some (BitVec.ofNat 8 s.vacuum.lastPressure) ∧
    (∀ i, i < 4 → ∀ e, s.arbiter.waiting[i]? = some e →
      ∃ x, b[3 + i]? = some x ∧ x.toNat % 4 = (transportByte e.transport).toNat ∧ x.toNat / 4 % 8 = e.priority % 8) ∧
    (∀ x, b[13]? = some x → x.getLsbD 0 = s.vacuum.ready ∧ x.getLsbD 1 = s.vacuum.settle.isSome ∧
      x.getLsbD 2 = s.vacuum.economy.isSome) ∧
    (b.drop 14).take 2 = bytesOf 2 (s.vacuum.settle.getD 0 : Nat) ∧ wholeMs s.vacuum.economy ((b.drop 16).take 2)

/-- R178, R190: SET MONITOR sets measure, transport and filter and clears the rest of the record; READ MONITOR answers
with the record's ten bytes and changes nothing: measure, transport, filter, sample count, which of the latencies and the
start of a measurement are there, last and maximum latency (0 where absent). -/
def Obligations.MonitorSetsAndReads : Prop :=
  ∀ (h : Head) (m : Measure) (t : TransportId) (f : Filter) (s : State), h.unit = 255 →
    s.Takes h.port [BitVec.ofNat 8 m.code, transportByte t, BitVec.ofNat 8 f.code] →
      exec (.setMonitor h [BitVec.ofNat 8 m.code, transportByte t, BitVec.ofNat 8 f.code]) s =
        .next (({ s with monitor :=
          { measure := m, transport := t, filter := f, samples := 0, last := none, maximum := none, running := none } } :
            State).answered h 0 []) ∧
      ∃ b, exec (.readMonitor h) s = .next (s.answered h 0 b) ∧ b.length = 10 ∧
        b[0]? = some (BitVec.ofNat 8 s.monitor.measure.code) ∧ b[1]? = some (transportByte s.monitor.transport) ∧
        b[2]? = some (BitVec.ofNat 8 s.monitor.filter.code) ∧
        (b.drop 3).take 2 = bytesOf 2 s.monitor.samples ∧
        (b.drop 6).take 2 = bytesOf 2 ((s.monitor.last.getD 0 : Nat) : Int) ∧
        (b.drop 8).take 2 = bytesOf 2 ((s.monitor.maximum.getD 0 : Nat) : Int) ∧
        (∀ x, b[5]? = some x → x.getLsbD 0 = s.monitor.last.isSome ∧ x.getLsbD 1 = s.monitor.maximum.isSome ∧
          x.getLsbD 2 = s.monitor.running.isSome)

/-- R181, R190: READ COUNTERS answers with 48 bytes, two for each counter: for Port A and then Port B the frames received,
this frame counted already, the check errors, refusals and attentions dropped (0 to 15), and for T0 to T3 in turn the
rights violations, radius rejections, tach-loss events and faults (16 to 47). With the clear flag set every counter is
then 0, and otherwise nothing changes. Any other flag byte is refused BAD FIELD. -/
def Obligations.ReadCountersReportsAndClears : Prop :=
  ∀ (h : Head) (x : Byte) (rest : List Byte) (s : State), h.unit = 255 → s.Takes h.port (x :: rest) →
    let two := fun (n : Nat) => bytesOf 2 (n : Int)
    let port := fun (p : PortId) => let c := ((s.counted h.port).port p).counters
      two c.received ++ two c.checkErrors ++ two c.refusals ++ two c.dropped
    let transport := fun (t : TransportId) => let c := (s.tr t).counters
      two c.rights ++ two c.radiusRejections ++ two c.tachLosses ++ two c.faults
    let report := port .a ++ port .b ++ transport .t0 ++ transport .t1 ++ transport .t2 ++ transport .t3
    (x = 0 → exec (.readCounters h (x :: rest)) s = .next (s.answered h 0 report)) ∧
    (x = 1 → ∃ u, exec (.readCounters h (x :: rest)) s = .next u ∧
      (∀ t, u.tr t = { s.tr t with counters := { rights := 0, radiusRejections := 0, tachLosses := 0, faults := 0 } }) ∧
      (∀ p, u.port p = { s.port p with
        counters := { received := 0, checkErrors := 0, refusals := 0, dropped := 0 }
        tx := if p = h.port then (s.port p).tx ++
            [{ kind := .response, unit := 255, tag := h.tag, code := 0, body := report }]
          else (s.port p).tx }) ∧
      u.owners = s.owners ∧ u.arbiter = s.arbiter ∧ u.vacuum = s.vacuum ∧ u.tables = s.tables ∧
      u.monitor = s.monitor ∧ u.resetHold = s.resetHold) ∧
    (1 < x.toNat → exec (.readCounters h (x :: rest)) s = .next (s.turnedAway h 0x26 [])) ∧
    report.length = 48

/-- R170: what PART RESET leaves, from either port in every state that takes the frame. That what has arrived of a frame
is kept through it (Port.rx, in the clause on the ports) is the model's choice, not R170's (log 30). -/
def Obligations.PartResetLeavesThePartReset : Prop :=
  ∀ (h : Head) (s : State), h.unit = 255 → s.Takes h.port [] → ∃ u, exec (.partReset h) s = .next u ∧
    (∀ t, (u.tr t).condition = .unloaded ∧ (u.tr t).brakesEngaged = true ∧ (u.tr t).valveOpen = false ∧
      (u.tr t).engine.v = 0 ∧ (u.tr t).engine.grant = .none ∧ (u.tr t).queue = [] ∧ (u.tr t).motion = none ∧
      (u.tr t).hold.slot1 = .free ∧ (u.tr t).load.sequence = .none ∧ (u.tr t).release = none ∧
      (u.tr t).servo.reels.file.demand = 0 ∧ (u.tr t).servo.reels.machine.demand = 0 ∧
      (u.tr t).servo.reels.file.radius = (s.servoOf t).initialFile ∧
      (u.tr t).servo.reels.machine.radius = (s.servoOf t).initialMachine ∧
      (u.tr t).counters = { rights := 0, radiusRejections := 0, tachLosses := 0, faults := 0 } ∧
      (u.tr t).snapshot = (s.tr t).snapshot ∧ (u.tr t).sense.coverOpen = (s.tr t).lines.coverOpen ∧
      (u.tr t).sense.offline = (s.tr t).lines.offlineSwitch ∧ u.owner t = none ∧
      u.arbiter.holders.get t = false) ∧
    (∀ p, u.port p = { s.port p with
      tx := [], counters := { received := 0, checkErrors := 0, refusals := 0, dropped := 0 }
      heldLost := { t0 := false, t1 := false, t2 := false, t3 := false } }) ∧
    u.tables = s.tables ∧ u.arbiter.limit = s.arbiter.limit ∧ u.arbiter.waiting = [] ∧
    u.vacuum = { s.vacuum with blower := .off, settle := none, ready := false, economy := none } ∧
    u.monitor =
      { measure := .off, transport := .t0, filter := .both, samples := 0, last := none, maximum := none, running := none } ∧
    u.resetHold = some { port := h.port, tag := h.tag, timer := 100000 } ∧ ∀ p, u.receiveReady p = false

/-- R170: at the expiry of the hold the hold ends, and the DONE of the PART RESET joins its port's queue, or is
discarded when that port is DOWN. Nothing else changes. -/
def Obligations.PartResetHoldExpiryAnswersDone : Prop :=
  ∀ (p : PortId) (g : Byte) (n : Nat) (s : State), s.resetHold = some { port := p, tag := g, timer := n } →
    exec .partResetHoldExpiry s = .next
      (if (s.port p).up then
        ({ s with resetHold := none } : State).setPort p { s.port p with
          tx := (s.port p).tx ++ [{ kind := .response, unit := 255, tag := g, code := 0, body := [] }] }
      else { s with resetHold := none })

/-- The hard reset leaves the state after reset, but for what stands outside the part: the input lines, the carriers
(with the cover state, the OFFLINE flag and the line states read from them), the clock and the model's own counter and
queue. The model's choice where the spec is silent on them (log 4). -/
def Obligations.HardResetLeavesTheResetState : Prop :=
  ∀ s : State, ∃ u, exec .hardReset s = .next u ∧
    (∀ t, u.tr t = { State.reset.tr t with
      lines := (s.tr t).lines
      sense := { (State.reset.tr t).sense with
        coverOpen := (s.tr t).lines.coverOpen, offline := (s.tr t).lines.offlineSwitch } }) ∧
    (∀ p, u.port p = { State.reset.port p with up := (s.port p).up }) ∧
    u.owners = State.reset.owners ∧ u.arbiter = State.reset.arbiter ∧ u.vacuum = State.reset.vacuum ∧
    u.tables = State.reset.tables ∧ u.monitor = State.reset.monitor ∧ u.resetHold = none ∧ u.clock = s.clock ∧
    u.freeCount = s.freeCount ∧ u.pending = s.pending

/-! ### Every command -/

/-- R112, R158 to R160, R162: a request that only reads (SENSE, READ SNAPSHOT, READ PROFILE, READ SERVO, READ UNIT MAP,
SENSE STRING, READ MONITOR) and a frame of unknown code complete in every state, and change nothing but the port they came
on. Taken, each is counted and gets one response of its own unit and tag: DONE (0x00) with a body, or a refusal (0x20 or
above) that is counted too. No command at all ends in a refusal of the model. -/
def Obligations.ReportsAnswerOnceAndChangeNothing : Prop :=
  (∀ (h : Head) (body : List Byte) (k : InboundKind) (code : Byte) (s : State), body.length ≤ 60 →
    ∀ c ∈ [Instr.sense h, .readSnapshot h, .readProfile h body, .readServo h, .readUnitMap h, .senseString h,
        .readMonitor h, .unknownCodeFrame h k code],
      ∃ u, exec c s = .next u ∧ u = s.setPort h.port (u.port h.port) ∧
        (s.receiveReady h.port = true →
          (∃ b, u = s.answered h 0 b) ∨ (∃ x : Byte, 0x20 ≤ x.toNat ∧ u = s.turnedAway h x []))) ∧
  ∀ (c : Instr) (s : State) (r : Refusal), exec c s ≠ .refused r

/-- R133, R134: the blower state and the economy timer that follow the transports at the end of an event. Mode,
thresholds and last pressure stay; the blower state is that of the table of R133; the economy timer runs in AUTO at
NORMAL beside a quiet string, from 5,000 ms, and is stopped otherwise. While the blower state stands, nothing else of
the machine changes; when it changes, the settle timer stops and READY is false. -/
def Obligations.BlowerFollowsTheTransports : Prop :=
  ∀ s : State, let u := reviewVacuum s
    (u.vacuum.mode = s.vacuum.mode ∧ u.vacuum.loss = s.vacuum.loss ∧ u.vacuum.sag = s.vacuum.sag ∧
      u.vacuum.run = s.vacuum.run ∧ u.vacuum.lastPressure = s.vacuum.lastPressure) ∧
    (s.allUnloaded = true → u.vacuum.blower = .off) ∧
    (s.allUnloaded = false → s.vacuum.mode = .normal → u.vacuum.blower = .normal) ∧
    (s.allUnloaded = false → s.vacuum.mode = .economy → u.vacuum.blower = .economy) ∧
    (s.allUnloaded = false → s.vacuum.mode = .auto → u.vacuum.blower =
      if s.quiet = true ∧ s.vacuum.blower = .economy then .economy else .normal) ∧
    (u.vacuum.economy =
      if u.vacuum.mode = .auto ∧ u.vacuum.blower = .normal ∧ s.quiet = true then some (s.vacuum.economy.getD 5000000)
      else none) ∧
    (u.vacuum.blower = s.vacuum.blower → u = { s with vacuum := { s.vacuum with economy := u.vacuum.economy } }) ∧
    (u.vacuum.blower ≠ s.vacuum.blower → u.vacuum.settle = none ∧ u.vacuum.ready = false)

/-! ### The checks of the Port Controller -/

/-- R158, R159, R162, R170: a frame of any code, and a frame that fails its check, changes nothing on a DOWN port or
during a PART RESET hold, and on an UP port with receive-ready low it only adds a check error. A failing frame adds one
whatever receive-ready is. -/
def Obligations.FramesNotTakenOnlyCountAnError : Prop :=
  ∀ (p : PortId) (s : State),
    let one := s.setPort p { s.port p with
      counters := { (s.port p).counters with checkErrors := min 65535 ((s.port p).counters.checkErrors + 1) } }
    (∀ c : Instr, c.framePort? = some p →
      ((s.port p).up = false → exec c s = .next s) ∧ (s.resetHold ≠ none → exec c s = .next s) ∧
      ((s.port p).up = true → s.resetHold = none → 16 ≤ (s.port p).tx.length → exec c s = .next one)) ∧
    (∀ d, ((s.port p).up = false → exec (.frameCheckFailure p d) s = .next s) ∧
      (s.resetHold ≠ none → exec (.frameCheckFailure p d) s = .next s) ∧
      ((s.port p).up = true → s.resetHold = none → exec (.frameCheckFailure p d) s = .next one))

/-- R163, R165: the refusals before ownership. An unknown code is refused UNKNOWN CODE (0x2C) whatever its unit; an
order whose unit names no present transport UNIT ABSENT (0x21); an order that moves an OFFLINE transport OFFLINE
(0x22); a part-wide request with a unit other than 255 BAD FIELD (0x26). This holds for every body of at most 60 bytes. A
refusal changes nothing but the counters of the port and its queue. -/
def Obligations.RefusalsBeforeOwnership : Prop :=
  ∀ (h : Head) (b : List Byte) (s : State), s.Takes h.port b →
    (∀ k x, exec (.unknownCodeFrame h k x) s = .next (s.turnedAway h 0x2C [])) ∧
    (s.addressed h = none → ∀ c ∈ [Instr.move h b, .rewind h b, .unload h, .load h, .stop h, .halt h, .pause h,
        .continueOrder h, .selectProfile h b, .reserve h, .release h, .forceRelease h, .clearFault h, .sense h,
        .readSnapshot h, .loadServo h b, .readServo h], exec c s = .next (s.turnedAway h 0x21 [])) ∧
    (∀ t, s.MaySend h t → (s.tr t).sense.offline = true → ∀ c ∈ [Instr.move h b, .rewind h b, .unload h, .load h,
        .pause h, .continueOrder h, .selectProfile h b, .clearFault h], exec c s = .next (s.turnedAway h 0x22 [])) ∧
    (h.unit ≠ 255 → ∀ c ∈ [Instr.loadProfile h b, .readProfile h b, .lockBank h b, .setUnitMap h b,
        .readUnitMap h, .setVacuum h b, .setGrantLimit h b, .senseString h, .setMonitor h b, .readMonitor h,
        .readCounters h b, .partReset h], exec c s = .next (s.turnedAway h 0x26 []))

/-- R164: an order that needs ownership, at a transport that the other port owns, is refused NOT OWNER (0x20) and adds a
rights violation, whatever its body of at most 60 bytes holds; nothing else changes. -/
def Obligations.NotOwnerRefusedAndCounted : Prop :=
  ∀ (h : Head) (b : List Byte) (t : TransportId) (p : PortId) (s : State), s.Takes h.port b → s.addressed h = some t →
    s.owner t = some p → p ≠ h.port → ∀ c ∈ [Instr.move h b, .rewind h b, .unload h, .load h, .stop h, .halt h,
        .pause h, .continueOrder h, .selectProfile h b, .reserve h, .clearFault h, .loadServo h b],
      exec c s = .next ((s.setTr t { s.tr t with
        counters := { (s.tr t).counters with rights := min 65535 ((s.tr t).counters.rights + 1) } }).turnedAway h 0x20 [])

/-! ### STOP, HALT, PAUSE and CONTINUE -/

/-- R33, R52, R102: STOP in ACCEL or CRUISE sets the end reason STOP unless one stands, begins DECEL and releases the
grant; in HOLD DECEL it sets the end reason only. In HELD a saved order ends DONE EARLY at once, its response before the
DONE of the STOP (the model's order, log 15); an empty context takes its place in slot 1, and the hold goes on. In DECEL
(log 42), at STOPPED, in HELD without a saved order and at a transport that is not LOADED it has no effect, and HALT has
none in UNLOADED and FAULTED. Each is answered DONE. -/
def Obligations.StopDeceleratesAMotion : Prop :=
  ∀ (h : Head) (t : TransportId) (s : State), s.Takes h.port [] → s.MaySend h t →
    (∀ m, (s.tr t).condition = .loaded → (s.tr t).motion = some m →
      let ended := { m with endReason := some (m.endReason.getD .stop) }
      ((s.tr t).phase = .accel ∨ (s.tr t).phase = .cruise → s.FreeToLetGo t → exec (.stop h) s =
        .next (((s.setTr t { s.tr t with motion := some ended, phase := .decel }).letGo t).answered h 0 [])) ∧
      ((s.tr t).phase = .holdDecel → exec (.stop h) s =
        .next ((s.setTr t { s.tr t with motion := some ended }).answered h 0 []))) ∧
    (∀ m, (s.tr t).condition = .loaded → (s.tr t).phase = .held → (s.tr t).hold.slot1 = .saved m → (s.tr t).motion = none →
      ∃ u, exec (.stop h) s = .next u ∧
        (let w := s.orderGone t
         u = { w.setTr t { w.tr t with hold := { (s.tr t).hold with slot1 := .emptyContext } } with ports := u.ports }) ∧
        ∀ q, u.port q = ((s.counted h.port).port q).sent
          (s.endingOf t q m 1 none ++ if q = h.port then [doneFrame h] else [])) ∧
    ((s.tr t).condition = .loaded → (s.tr t).phase = .held → (∀ m, (s.tr t).hold.slot1 ≠ .saved m) →
      exec (.stop h) s = .next (s.answered h 0 [])) ∧
    ((s.tr t).condition ≠ .loaded ∨ (s.tr t).phase = .stopped ∨ (s.tr t).phase = .decel →
      exec (.stop h) s = .next (s.answered h 0 [])) ∧
    ((s.tr t).condition = .unloaded ∨ (s.tr t).condition = .faulted →
      exec (.halt h) s = .next (s.answered h 0 []))

/-- R30 to R33: STOP in WAIT VACUUM, and in WAIT GRANT where the request is withdrawn, ends the order at once. A MOVE
with nothing left to go is DONE, every other order DONE EARLY; its response goes to its port, before the DONE of the
STOP (the model's order, log 15). With an empty queue the transport then stands STOPPED with an empty motion context; a
pending release takes effect behind these frames (R40, R168; relieved: log 47), and nothing else changes but what follows
the transports in the vacuum supply (BlowerFollowsTheTransports). -/
def Obligations.StopEndsAWaitingOrder : Prop :=
  ∀ (h : Head) (t : TransportId) (m : Motion) (p : PortId) (s : State), s.Takes h.port [] → s.MaySend h t →
    (s.tr t).condition = .loaded → (s.tr t).motion = some m → m.origin = .port p → (s.tr t).queue = [] →
    ((s.tr t).phase = .waitVacuum ∧ (s.tr t).engine.grant = .none ∨
      (s.tr t).phase = .waitGrant ∧ (s.tr t).engine.grant = .requested) →
    ∃ v : State, exec (.stop h) s = .next (reviewVacuum (v.relieved t)) ∧
      v = { s.setTr t { s.tr t with
          motion := none, phase := .stopped
          engine := { (s.tr t).engine with workTop := none, grant := .none }
          load := if (s.tr t).load.sequence = .rewind ∨ (s.tr t).load.sequence = .unload then idleLoad
            else (s.tr t).load } with
        arbiter := if (s.tr t).phase = .waitGrant then
            { s.arbiter with waiting := s.arbiter.waiting.filter (fun e => e.transport ≠ t) } else s.arbiter
        monitor := if s.monitor.transport = t ∧ s.monitor.measure = .startLatency then { s.monitor with running := none }
          else s.monitor
        ports := v.ports } ∧
      let e := s.ending t p m.arrivalUnit m.tag (if m.kind = .move ∧ m.r.getD 0 ≤ 0 then 0 else 1)
        (if m.kind = .move then m.r else none) none none
      ∀ q, v.port q = { (s.counted h.port).port q with
        tx := (s.port q).tx ++ (if q = p ∧ (s.port q).up then [e] else []) ++
          (if q = h.port then [doneFrame h] else []) }

/-- R34, R37, R103, R150, R155: HALT at a LOADED transport in motion: the order's end reason becomes HALT whatever stood,
the deceleration is DECEL, the Hold Controller and the paused flag are cleared and the grant is given up. In a waiting
phase, HELD or STOPPED the current order ends ABORTED at once, a request is withdrawn and the transport stands STOPPED.
The records of the queue end ABORTED, head first, each on its own port, before the DONE of the HALT (the model's order,
log 15). While LOADING, a search in motion decelerates to end at its rest, where a second HALT has no effect; any other
LOAD ends ABORTED at once and the transport enters UNLOADED. In WIND the UNLOAD and then the queue end ABORTED and the
transport enters UNLOADED. A transport that is left idle has a pending release take effect behind these frames (R40, R168;
relieved: log 47). Nothing else changes but what follows the transports in the vacuum supply
(BlowerFollowsTheTransports). -/
def Obligations.HaltStopsAMotionAndFlushesTheQueue : Prop :=
  ∀ (h : Head) (t : TransportId) (s : State), s.Takes h.port [] → s.MaySend h t → let tr := s.tr t
    let done := fun (q : PortId) => if q = h.port then [doneFrame h] else []
    let sends := fun (u : State) (frames : PortId → List OutFrame) =>
      ∀ q, u.port q = ((s.counted h.port).port q).sent (frames q ++ done q)
    (∀ m, tr.condition = .loaded → tr.motion = some m → s.FreeToLetGo t →
      (tr.phase = .accel ∨ tr.phase = .cruise ∨ tr.phase = .decel ∨ tr.phase = .holdDecel) →
      ∃ u, exec (.halt h) s = .next u ∧ u = { s.haltedInMotion t m [] with ports := u.ports } ∧
        sends u (fun q => s.flushed t q 0x10 none)) ∧
    (∀ m, tr.condition = .loaded → tr.current = some m → tr.engine.grant ≠ .held →
      (tr.phase = .waitVacuum ∨ tr.phase = .waitGrant ∨ tr.phase = .held) →
      ∃ v : State, exec (.halt h) s = .next (reviewVacuum (v.relieved t)) ∧ v = { s.haltedAtOnce t with ports := v.ports } ∧
        sends v (fun q => s.endingOf t q m 0x10 none ++ s.flushed t q 0x10 none)) ∧
    (tr.condition = .loaded → tr.current = none → tr.engine.grant = .none →
      (tr.phase = .stopped ∨ tr.phase = .held) →
      ∃ v : State, exec (.halt h) s = .next (reviewVacuum (v.relieved t)) ∧ v = { s.haltedAtOnce t with ports := v.ports } ∧
        sends v (fun q => s.flushed t q 0x10 none)) ∧
    (∀ m, tr.condition = .loading → tr.load.step = some .search → tr.motion = some m →
      (tr.phase = .accel ∨ tr.phase = .cruise ∨ tr.phase = .decel ∨ tr.phase = .holdDecel) →
      if tr.phase = .decel ∧ m.endReason = some .halt then exec (.halt h) s = .next (s.answered h 0 [])
      else s.FreeToLetGo t → exec (.halt h) s = .next ((s.haltedInMotion t m tr.queue).answered h 0 [])) ∧
    (tr.condition = .loading → tr.engine.grant ≠ .held →
      (tr.load.step ≠ some .search ∨ tr.phase = .stopped ∨ tr.phase = .waitVacuum ∨ tr.phase = .waitGrant ∨
        tr.phase = .held) →
      ∃ w : State, exec (.halt h) s = .next (reviewVacuum (w.relieved t)) ∧ s.Unloads w t ∧ (w.tr t).queue = tr.queue ∧
        sends w (fun q => s.loadEnding t q 0x10 none)) ∧
    (∀ m, tr.condition = .unloading → tr.motion = some m → tr.engine.grant ≠ .requested →
      ∃ w : State, exec (.halt h) s = .next (reviewVacuum (w.relieved t)) ∧ s.Unloads w t ∧ (w.tr t).queue = [] ∧
        sends w (fun q => s.endingOf t q m 0x10 none ++ s.flushed t q 0x10 none))

/-- R35, R91 to R94, R97: PAUSE at STOPPED sets the paused flag. In every other phase it goes to the Hold Controller, where
it changes nothing if it stands already. In ACCEL and CRUISE it becomes the hold cause of a HOLD DECEL and the grant is
given up; in WAIT VACUUM and WAIT GRANT the request is withdrawn, the order is saved in slot 1, the phase becomes HELD and
PAUSE is the active recovery; in HOLD DECEL, DECEL and HELD, behind the recovery under way, it becomes pending. The sender
owns the transport. Where the condition does not allow it, it is refused: NOT LOADED (0x23), BUSY (0x28), FAULTED
(0x29). -/
def Obligations.PauseHoldsAMotion : Prop :=
  ∀ (h : Head) (t : TransportId) (s : State), s.Takes h.port [] → s.MayOrder h t →
    let hold := (s.tr t).hold
    let mine := fun (x : State) => (x.setOwner t (some h.port)).answered h 0 []
    ((s.tr t).condition = .loaded → (s.tr t).phase = .stopped →
      exec (.pause h) s = .next (mine (s.setTr t { s.tr t with paused := true }))) ∧
    ((s.tr t).condition = .loaded → (s.tr t).phase = .accel ∨ (s.tr t).phase = .cruise → s.FreeToLetGo t →
      hold.cause ≠ some .pause → hold.inService.pause = false → hold.pending.pause = false →
        exec (.pause h) s =
          .next (mine ((s.setTr t
            { s.tr t with phase := .holdDecel, hold := { hold with cause := some .pause } }).letGo t))) ∧
    (∀ m, (s.tr t).condition = .loaded → (s.tr t).phase = .waitVacuum ∨ (s.tr t).phase = .waitGrant →
      (s.tr t).motion = some m → (s.tr t).engine.grant ≠ .held →
      hold.cause ≠ some .pause → hold.inService.pause = false → hold.pending.pause = false →
        let w := s.withdrawn t
        exec (.pause h) s = .next (mine (w.setTr t { w.tr t with
          phase := .held, motion := none, engine := { (w.tr t).engine with workTop := none }
          hold := { hold with
            slot1 := .saved m, inService := { hold.inService with pause := true }, active := some .pause
            settle := 0, timer := none } }))) ∧
    ((s.tr t).condition = .loaded → (s.tr t).phase = .decel ∨ (s.tr t).phase = .holdDecel ∨ (s.tr t).phase = .held →
      hold.cause ≠ some .pause → hold.inService.pause = false →
        exec (.pause h) s =
          .next (mine (s.setTr t
            { s.tr t with hold := { hold with pending := { hold.pending with pause := true } } }))) ∧
    ((s.tr t).condition = .loaded → (s.tr t).phase ≠ .stopped →
      hold.cause = some .pause ∨ hold.inService.pause = true ∨ hold.pending.pause = true →
        exec (.pause h) s = .next (mine s)) ∧
    ((s.tr t).condition = .unloaded → exec (.pause h) s = .next (s.turnedAway h 0x23 [])) ∧
    ((s.tr t).condition = .loading ∨ (s.tr t).condition = .unloading →
      exec (.pause h) s = .next (s.turnedAway h 0x28 [])) ∧
    ((s.tr t).condition = .faulted → exec (.pause h) s = .next (s.turnedAway h 0x29 []))

/-- R36, R101: CONTINUE removes PAUSE as the hold cause, from the pending set and from slot 2, and clears the paused
flag; with an empty queue nothing is taken. With PAUSE the active recovery over a saved order that has way to go, alone
in service and with READY false, the recovery ends and the order waits in WAIT VACUUM (R98, R99). At a FAULTED transport
it is refused FAULTED (0x29). -/
def Obligations.ContinueRemovesPause : Prop :=
  ∀ (h : Head) (t : TransportId) (s : State), s.Takes h.port [] → s.MayOrder h t →
    let hold := (s.tr t).hold
    let mine := fun (x : Transport) => ((s.setTr t x).setOwner t (some h.port)).answered h 0 []
    ((s.tr t).condition ≠ .faulted → (s.tr t).queue = [] → hold.active ≠ some .pause → (∀ x, hold.slot2 = some x → x.rank ≠ .pause) →
      exec (.continueOrder h) s = .next (mine { s.tr t with
        paused := false
        hold := { hold with cause := if hold.cause = some .pause then none else hold.cause
                            pending := { hold.pending with pause := false } } })) ∧
    ((s.tr t).condition ≠ .faulted → (s.tr t).queue = [] → hold.active ≠ some .pause →
      (∃ x, hold.slot2 = some x ∧ x.rank = .pause) → exec (.continueOrder h) s = .next (mine { s.tr t with
        paused := false
        hold := { hold with cause := if hold.cause = some .pause then none else hold.cause
                            pending := { hold.pending with pause := false }, slot2 := none
                            inService := { hold.inService with pause := false } } })) ∧
    (∀ m, (s.tr t).condition = .loaded → (s.tr t).paused = false → (s.tr t).motion = none → s.vacuum.ready = false →
      hold = { idleHold with slot1 := .saved m, active := some .pause, inService := { noRanks with pause := true } } →
      m.kind = .move → m.endReason ≠ some .bot → (∀ code, ¬ s.LimitMet t m.direction code) →
      (∀ r, m.r = some r → 0 < r) →
        exec (.continueOrder h) s =
          .next (mine { s.tr t with hold := idleHold, motion := some m, phase := .waitVacuum })) ∧
    ((s.tr t).condition = .faulted → exec (.continueOrder h) s = .next (s.turnedAway h 0x29 []))

/-- R28: SELECT PROFILE sets the selected profile and nothing else of the transport, and its sender owns it. A number
above 15 or a missing number is refused BAD FIELD (0x26), and a FAULTED transport refuses FAULTED (0x29) first, which is
the model's order of the two (log 11). -/
def Obligations.SelectProfileSetsTheSelection : Prop :=
  ∀ (h : Head) (t : TransportId) (body : List Byte) (s : State), s.Takes h.port body → s.MayOrder h t →
    (∀ x rest, body = x :: rest → (s.tr t).condition ≠ .faulted →
      (∀ hx : x.toNat < 16, exec (.selectProfile h body) s =
        .next (((s.setTr t { s.tr t with selected := ⟨x.toNat, hx⟩ }).setOwner t (some h.port)).answered h 0 [])) ∧
      (16 ≤ x.toNat → exec (.selectProfile h body) s = .next (s.turnedAway h 0x26 []))) ∧
    (body = [] → (s.tr t).condition ≠ .faulted → exec (.selectProfile h body) s = .next (s.turnedAway h 0x26 [])) ∧
    ((s.tr t).condition = .faulted → exec (.selectProfile h body) s = .next (s.turnedAway h 0x29 []))

/-! ### Reservation -/

/-- R167: RESERVE gives an unowned transport to its sender, leaves its own as it is and is refused NOT OWNER for
another's (NotOwnerRefusedAndCounted). R169: FORCE RELEASE gives an unowned transport to its sender, leaves its own as
it is and is refused NOT OWNER (0x20) while the owner's port is UP. From a DOWN owner it does what HALT does in each
condition and phase (R34, R150, R155; HaltStopsAMotionAndFlushesTheQueue), with a pending release answered SUPERSEDED
behind the endings instead of taking effect; what is for the DOWN port is discarded; the sender is the owner and RESERVATION
LOST is held for the old one. Each answers DONE last (log 15). -/
def Obligations.ReserveAndForceRelease : Prop :=
  ∀ (h : Head) (t : TransportId) (s : State), s.Takes h.port [] → s.addressed h = some t →
    (s.owner t = none ∨ s.owner t = some h.port →
      exec (.reserve h) s = .next ((s.setOwner t (some h.port)).answered h 0 []) ∧
      exec (.forceRelease h) s = .next ((s.setOwner t (some h.port)).answered h 0 [])) ∧
    (∀ p, s.owner t = some p → p ≠ h.port → (s.port p).up = true → exec (.forceRelease h) s =
      .next ((s.setTr t { s.tr t with
        counters := { (s.tr t).counters with rights := min 65535 ((s.tr t).counters.rights + 1) } }).turnedAway h 0x20 [])) ∧
    (∀ p, s.owner t = some p → p ≠ h.port → (s.port p).up = false → let tr := s.tr t
      let superseded := fun (q : PortId) => match tr.release with
        | some g => if g.port = q then
            [({ kind := .response, unit := lowestUnit (s.port q).unitMap t, tag := g.tag, code := 0x06
                body := [transportByte t] } : OutFrame)]
          else []
        | none => []
      let takes := fun (w : State) => (w.setTr t { w.tr t with release := none }).setOwner t (some h.port)
      let sends := fun (u : State) (frames : PortId → List OutFrame) => ∀ q,
        let x := (s.counted h.port).port q
        u.port q = ({ x with heldLost := if q = p then x.heldLost.set t true else x.heldLost } : Port).sent
          (frames q ++ superseded q ++ if q = h.port then [doneFrame h] else [])
      let ending := fun (q : PortId) => match tr.current with
        | some m => s.endingOf t q m 0x10 none
        | none => []
      let moves := tr.phase = .accel ∨ tr.phase = .cruise ∨ tr.phase = .decel ∨ tr.phase = .holdDecel
      (tr.condition = .unloaded ∨ tr.condition = .faulted →
        ∃ u, exec (.forceRelease h) s = .next u ∧ u = { takes s with ports := u.ports } ∧ sends u (fun _ => [])) ∧
      (∀ m, tr.condition = .loaded → tr.motion = some m → s.FreeToLetGo t → moves →
        ∃ u, exec (.forceRelease h) s = .next u ∧ u = { takes (s.haltedInMotion t m []) with ports := u.ports } ∧
          sends u (fun q => s.flushed t q 0x10 none)) ∧
      (tr.condition = .loaded → ¬ moves → tr.engine.grant ≠ .held → tr.current ≠ none ∨ tr.engine.grant = .none →
        ∃ v, exec (.forceRelease h) s = .next (reviewVacuum v) ∧ v = { takes (s.haltedAtOnce t) with ports := v.ports } ∧
          sends v (fun q => ending q ++ s.flushed t q 0x10 none)) ∧
      (∀ m, tr.condition = .loading → tr.load.step = some .search → tr.motion = some m → moves →
        if tr.phase = .decel ∧ m.endReason = some .halt then
          ∃ u, exec (.forceRelease h) s = .next u ∧ u = { takes s with ports := u.ports } ∧ sends u (fun _ => [])
        else s.FreeToLetGo t →
          ∃ u, exec (.forceRelease h) s = .next u ∧ u = { takes (s.haltedInMotion t m tr.queue) with ports := u.ports } ∧
            sends u (fun _ => [])) ∧
      (tr.condition = .loading → tr.engine.grant ≠ .held → tr.load.step ≠ some .search ∨ ¬ moves →
        ∃ w, exec (.forceRelease h) s = .next (reviewVacuum (takes w)) ∧ s.Unloads w t ∧ (w.tr t).queue = tr.queue ∧
          sends w (fun q => s.loadEnding t q 0x10 none)) ∧
      (tr.condition = .unloading → tr.engine.grant ≠ .requested →
        ∃ w, exec (.forceRelease h) s = .next (reviewVacuum (takes w)) ∧ s.Unloads w t ∧ (w.tr t).queue = [] ∧
          sends w (fun q => ending q ++ s.flushed t q 0x10 none)))

/-- R167, R168: RELEASE of an unowned transport is DONE. From the owner, of an idle transport it takes effect at once;
otherwise it stays pending and unanswered, the owner kept, or with 7 orders outstanding is refused BUSY (0x28). Where one
is pending already, the owner's new RELEASE first has the earlier one answered SUPERSEDED (0x06; its unit byte: log 47),
and is then judged the same. From the other port it is refused NOT OWNER (0x20). Every answer carries the transport. -/
def Obligations.ReleaseAnswersOrWaits : Prop :=
  ∀ (h : Head) (t : TransportId) (s : State), s.Takes h.port [] → s.addressed h = some t →
    let u := match (s.tr t).release with
      | none => s
      | some g =>
        (s.setTr t { s.tr t with release := none }).setPort g.port ((s.port g.port).sent
          [{ kind := .response, unit := lowestUnit (s.port g.port).unitMap t, tag := g.tag, code := 0x06
             body := [transportByte t] }])
    let busy := (s.tr t).queue.length + (if (s.tr t).motion.isSome ∨ (s.tr t).condition = .loading ∨
      (s.tr t).hold.slot1.order.isSome then 1 else 0)
    let idle := (s.tr t).condition = .unloaded ∨ (s.tr t).condition = .faulted ∨
      ((s.tr t).condition = .loaded ∧ (s.tr t).phase = .stopped ∧ (s.tr t).queue = [])
    (s.owner t = none → exec (.release h) s = .next (s.answered h 0 [transportByte t])) ∧
    (s.owner t = some h.port → idle →
      exec (.release h) s = .next ((u.setOwner t none).answered h 0 [transportByte t])) ∧
    (s.owner t = some h.port → ¬ idle → 7 ≤ busy →
      exec (.release h) s = .next (u.turnedAway h 0x28 [transportByte t])) ∧
    (s.owner t = some h.port → ¬ idle → busy < 7 → exec (.release h) s =
      .next ((u.setTr t { u.tr t with release := some { port := h.port, tag := h.tag } }).counted h.port)) ∧
    (∀ p, s.owner t = some p → p ≠ h.port → exec (.release h) s =
      .next ((s.setTr t { s.tr t with
        counters := { (s.tr t).counters with rights := min 65535 ((s.tr t).counters.rights + 1) } }).turnedAway h 0x20
          [transportByte t]))

/-! ### Faults and reports -/

/-- R115 to R117: CLEAR FAULT at a FAULTED transport. After VACUUM LOSS, COLUMN END, TAPE BREAK or COVER OPEN it leaves
the transport UNLOADED with its position record cleared; after the other causes, with the cover CLOSED and an empty
queue, LOADED and STOPPED with the brakes released, the valve as it was and the position no longer referenced. The
snapshot stays. With the cover OPEN after one of those other causes the transport so LOADED has its fault stop COVER OPEN
within the event (R12, R117), whose frames stand before the DONE (log 15; log 47). The sender owns the transport, and the
answer is DONE. -/
def Obligations.ClearFaultByCause : Prop :=
  ∀ (h : Head) (t : TransportId) (c : FaultCause) (s : State), s.Takes h.port [] → s.MayOrder h t →
    (s.tr t).condition = .faulted → (s.tr t).faultCause = some c →
    (c = .vacuumLoss ∨ c = .columnEnd ∨ c = .tapeBreak ∨ c = .coverOpen → ∃ x,
      exec (.clearFault h) s = .next (reviewVacuum (((s.setTr t x).setOwner t (some h.port)).answered h 0 [])) ∧
      x.condition = .unloaded ∧ x.faultCause = none ∧ x.brakesEngaged = true ∧ x.valveOpen = false ∧
      x.sense.position = { referenced := false, count := 0, pastEot := false, eotPoint := none, lastBot := none, lastEot := none } ∧
      x.servo.reels.file.demand = 0 ∧ x.servo.reels.machine.demand = 0 ∧
      x.servo.reels.file.radius = (s.tr t).servo.reels.file.radius ∧
      x.servo.reels.machine.radius = (s.tr t).servo.reels.machine.radius ∧
      x.snapshot = (s.tr t).snapshot ∧ x.selected = (s.tr t).selected ∧ x.counters = (s.tr t).counters ∧
      x.lines = (s.tr t).lines ∧ x.queue = (s.tr t).queue ∧ x.engine = (s.tr t).engine) ∧
    (c = .tachLoss ∨ c = .driveSaturation ∨ c = .suspendOverflow ∨ c = .recoveryTimeout →
      (s.tr t).sense.coverOpen = false → (s.tr t).queue = [] →
        exec (.clearFault h) s = .next (reviewVacuum (((s.setTr t { s.tr t with
          condition := .loaded, phase := .stopped, faultCause := none, brakesEngaged := false
          sense := { (s.tr t).sense with position := { (s.tr t).sense.position with referenced := false } } }).setOwner t
            (some h.port)).answered h 0 []))) ∧
    (c = .tachLoss ∨ c = .driveSaturation ∨ c = .suspendOverflow ∨ c = .recoveryTimeout →
      (s.tr t).sense.coverOpen = true → s.FreeToLetGo t →
      let w := ((s.setTr t { s.tr t with
        condition := .loaded, phase := .stopped, faultCause := none, brakesEngaged := false
        sense := { (s.tr t).sense with position := { (s.tr t).sense.position with referenced := false } } }).setOwner t
          (some h.port)).counted h.port
      ∃ u : State, exec (.clearFault h) s = .next (reviewVacuum (u.responded h 0 [])) ∧ w.FaultStopped u t .coverOpen)

/-- R112, R177, R189, R190: SENSE and READ SNAPSHOT answer any port, in every condition and while OFFLINE, and change
nothing. A SENSE body has 60 bytes, each field at its offset: condition, phase and OFFLINE flag (0), further-fault count
(1; while FAULTED, elsewhere 0, the model's choice of log 13), owner, pending release, paused flag and selected profile
(2), the current order, a saved one or the LOAD under way (3 to 9: kind, direction, port, tag, profile number, R), the
step (5), queue depth, grant state and fault cause (10), the queue's entries (11 to 22), velocity (23 to 25), the Hold
Controller (26 to 31; the timer's rounding: log 5), position record (32 to 48; its byte 0 bit 7, unassigned in R188,
sent as 0: log 41), loop depths (49, 50), band standing, loop-guard timer, cover and reels (51), reel demands and radii
(52 to 59). A snapshot has 42 bytes: cause (0), condition and phase at the fault (1), position record (2 to 18;
likewise), velocity (19 to 21), the order's kind, port and tag (22, 23), R (22, 24 to 27), queue depth (28), in-service
and pending sets (29), occupied slots (30), loop depths (31, 32), demands (33 to 36), radii (37 to 40), further faults
(41); no byte stands for an absent one. -/
def Obligations.SenseAndSnapshotReport : Prop :=
  ∀ (h : Head) (t : TransportId) (s : State), s.Takes h.port [] → s.addressed h = some t →
    let hold := (s.tr t).hold
    let port := fun (x : Origin) => match x with | .port .a => 1 | .port .b => 2 | .panel => 3
    let rank := fun (x : Option Rank) => match x with | none => 0 | some .sag => 1 | some .loopGuard => 2 | some .pause => 3
    (∃ b, exec (.sense h) s = .next (s.answered h 0 b) ∧ b.length = 60 ∧
      (∀ x, b[0]? = some x → x.toNat % 8 = (s.tr t).condition.code ∧ x.getLsbD 7 = (s.tr t).sense.offline ∧
        x.toNat / 8 % 16 =
          if (s.tr t).condition = .loaded ∨ ((s.tr t).condition = .loading ∧ (s.tr t).load.step = some .search) then
            match (s.tr t).phase with
            | .stopped => 1
            | .waitVacuum => 2
            | .waitGrant => 3
            | .accel => 4
            | .cruise => 5
            | .decel => 6
            | .holdDecel => 7
            | .held => 8
          else 0) ∧
      b[1]? = some (BitVec.ofNat 8 (if (s.tr t).condition = .faulted then
        ((s.tr t).snapshot.map Snapshot.further).getD 0 else 0)) ∧
      (∀ x, b[2]? = some x → x.toNat % 4 = (match s.owner t with | none => 0 | some .a => 1 | some .b => 2) ∧
        x.getLsbD 2 = (s.tr t).release.isSome ∧ x.getLsbD 3 = (s.tr t).paused ∧ x.toNat / 16 = (s.tr t).selected.val) ∧
      (∀ x, b[3]? = some x →
        (∀ m, (s.tr t).current = some m →
          x.toNat % 8 = (match m.kind with | .move => 1 | .rewind => 2 | .unload => 3 | .load => 4) ∧
          x.getLsbD 3 = decide (m.direction = .reverse) ∧ x.toNat / 16 % 4 = port m.origin ∧ x.getLsbD 6 = m.r.isSome) ∧
        (∀ g, (s.tr t).current = none → (s.tr t).load.record = some g →
          x.toNat % 8 = 4 ∧ x.toNat / 16 % 4 = port g.origin ∧ x.getLsbD 6 = false) ∧
        ((s.tr t).current = none → (s.tr t).load.record = none → x.toNat % 8 = 0)) ∧
      (∀ m, (s.tr t).current = some m → b[4]? = some m.tag ∧ (∀ x, b[5]? = some x → x.toNat % 16 = m.profileNo.val) ∧
        ∀ r, m.r = some r → (b.drop 6).take 4 = bytesOf 4 r) ∧
      (∀ g, (s.tr t).current = none → (s.tr t).load.record = some g → b[4]? = some g.tag) ∧
      (∀ x, b[5]? = some x → x.toNat / 16 = match (s.tr t).load.step with
        | none => 0
        | some .vacuum => 1
        | some .draw => 2
        | some .search => 3
        | some .reverse => 4
        | some .reverseCreep => 5
        | some .clearing => 6
        | some .reverseStop => 7
        | some .forwardCreep => 8
        | some .wind => 9) ∧
      (∀ x, b[10]? = some x → x.toNat % 8 = (s.tr t).queue.length % 8 ∧ ((s.tr t).queue.length ≤ 6 →
        x.toNat / 8 % 4 = (match (s.tr t).engine.grant with | .none => 0 | .requested => 1 | .held => 2) ∧
        ∀ c, (s.tr t).faultCause = some c → x.toNat / 32 = c.code)) ∧
      (∀ i, i < 6 →
        (∀ q, (s.tr t).queue[i]? = some q → b[12 + 2 * i]? = some q.tag ∧ (q.kind ≠ .load → ∃ x, b[11 + 2 * i]? = some x ∧
          x.toNat % 4 = (match q.kind with | .move => 1 | .rewind => 2 | .unload => 3 | .load => 0) ∧
          x.toNat / 4 % 4 = port q.origin)) ∧
        ((s.tr t).queue.length ≤ i → b[11 + 2 * i]? = some 0 ∧ b[12 + 2 * i]? = some 0)) ∧
      (∀ x, b[26]? = some x → x.toNat % 4 = rank hold.cause ∧ x.toNat / 4 % 4 = rank hold.active ∧
        x.toNat / 16 % 4 = (match hold.slot1 with | .free => 0 | .saved _ => 1 | .emptyContext => 2) ∧
        x.getLsbD 6 = hold.timer.isSome) ∧
      (∀ x, b[27]? = some x → x.getLsbD 0 = hold.inService.sag ∧ x.getLsbD 1 = hold.inService.loopGuard ∧
        x.getLsbD 2 = hold.inService.pause ∧ x.getLsbD 3 = hold.pending.sag ∧ x.getLsbD 4 = hold.pending.loopGuard ∧
        x.getLsbD 5 = hold.pending.pause ∧ x.toNat / 64 = rank (hold.slot2.map SavedRecovery.rank)) ∧
      (∀ g, hold.slot2 = some g → b[28]? = some (BitVec.ofNat 8 g.settle)) ∧ b[29]? = some (BitVec.ofNat 8 hold.settle) ∧
      wholeMs hold.timer ((b.drop 30).take 2) ∧
      (∀ x, b[51]? = some x →
        x.toNat % 4 = (match (s.tr t).servo.band with | .outsideGuard => 0 | .inGuard => 1 | .inRecovery => 2) ∧
        x.getLsbD 2 = (s.tr t).servo.loopGuard.isSome ∧ x.getLsbD 3 = (s.tr t).sense.coverOpen ∧
        x.getLsbD 4 = (s.tr t).lines.fileReel ∧ x.getLsbD 5 = (s.tr t).lines.machineReel) ∧
      (b.drop 23).take 3 = bytesOf 3 (s.tr t).engine.v ∧
      (b.drop 32).take 17 = (s.tr t).sense.position.bytes ∧
      b[49]? = some (BitVec.ofNat 8 (s.tr t).sense.depths.file) ∧
      b[50]? = some (BitVec.ofNat 8 (s.tr t).sense.depths.machine) ∧
      (b.drop 52).take 2 = bytesOf 2 (s.tr t).servo.reels.file.demand ∧
      (b.drop 54).take 2 = bytesOf 2 (s.tr t).servo.reels.machine.demand ∧
      (b.drop 56).take 2 = bytesOf 2 (s.tr t).servo.reels.file.radius ∧
      (b.drop 58).take 2 = bytesOf 2 (s.tr t).servo.reels.machine.radius) ∧
    ((s.tr t).snapshot = none → exec (.readSnapshot h) s = .next (s.answered h 0 [])) ∧
    (∀ x, (s.tr t).snapshot = some x → ∃ b, exec (.readSnapshot h) s = .next (s.answered h 0 b) ∧ b.length = 42 ∧
      b[0]? = some (BitVec.ofNat 8 x.cause.code) ∧
      (∀ y, b[1]? = some y → y.toNat % 8 = x.condition.code ∧ y.toNat / 8 % 16 = match x.phase with
        | none => 0
        | some .stopped => 1
        | some .waitVacuum => 2
        | some .waitGrant => 3
        | some .accel => 4
        | some .cruise => 5
        | some .decel => 6
        | some .holdDecel => 7
        | some .held => 8) ∧
      (b.drop 2).take 17 = x.position.bytes ∧ (b.drop 19).take 3 = bytesOf 3 x.v ∧
      (∀ y, b[22]? = some y → y.getLsbD 6 = x.r.isSome ∧ (x.order = none → y.toNat % 8 = 0) ∧
        ∀ o, x.order = some o → y.toNat / 16 % 4 = port o.origin ∧
          y.toNat % 8 = match o.kind with | .move => 1 | .rewind => 2 | .unload => 3 | .load => 4) ∧
      (∀ o, x.order = some o → b[23]? = some o.tag) ∧ (∀ r, x.r = some r → (b.drop 24).take 4 = bytesOf 4 r) ∧
      b[28]? = some (BitVec.ofNat 8 x.queueDepth) ∧
      (∀ y, b[29]? = some y → y.getLsbD 0 = x.inService.sag ∧ y.getLsbD 1 = x.inService.loopGuard ∧
        y.getLsbD 2 = x.inService.pause ∧ y.getLsbD 3 = x.pending.sag ∧ y.getLsbD 4 = x.pending.loopGuard ∧
        y.getLsbD 5 = x.pending.pause) ∧
      b[30]? = some (BitVec.ofNat 8 x.slots) ∧ b[31]? = some (BitVec.ofNat 8 x.depths.file) ∧
      b[32]? = some (BitVec.ofNat 8 x.depths.machine) ∧ (b.drop 33).take 2 = bytesOf 2 x.demands.file ∧
      (b.drop 35).take 2 = bytesOf 2 x.demands.machine ∧ (b.drop 37).take 2 = bytesOf 2 x.radii.file ∧
      (b.drop 39).take 2 = bytesOf 2 x.radii.machine ∧ b[41]? = some (BitVec.ofNat 8 x.further))

/-! ### Queued orders and LOAD -/

/-- R19, R22, R164, R187: a legal queued order at a LOADED transport that cannot take it (in motion, held, paused, or with
a loop outside the guard band) joins the tail of a queue of at most 5. Its sender owns the transport, a pending RELEASE
of the sender is answered SUPERSEDED (its unit byte: log 47), and the order itself is not answered yet. -/
def Obligations.QueuedOrderJoinsTheTail : Prop :=
  ∀ (x : QueuedOrder) (h : Head) (t : TransportId) (p : Profile) (s : State), x.Legal → s.Takes h.port x.body →
    s.MayOrder h t → (s.tr t).condition = .loaded → x.Served s t p → (s.tr t).queue.length < 6 →
    ((s.tr t).phase ≠ .stopped ∨ (s.tr t).motion ≠ none ∨ (s.tr t).paused = true ∨ (s.tr t).servo.band = .outsideGuard) →
    let old := (s.tr t).settled
    let now := { old with queue := old.queue ++ [x.record h] }
    ((s.tr t).release = none →
      exec (x.command h) s = .next (((s.setTr t now).setOwner t (some h.port)).counted h.port)) ∧
    (∀ g, (s.tr t).release = some { port := h.port, tag := g } →
      let u := ((s.setTr t { now with release := none }).setOwner t (some h.port)).counted h.port
      exec (x.command h) s = .next (u.setPort h.port { u.port h.port with
        tx := (s.port h.port).tx ++ [{ kind := .response, unit := lowestUnit (s.port h.port).unitMap t, tag := g
                                       code := 0x06, body := [transportByte t] }] }))

/-- R25 to R27, R43, R44, R151: a queued order that arrives at a LOADED transport that can take it, with no record
before it, becomes the current order: kind, tag, origin, direction, profile number, copy and distance stand in the
motion context. The transport stands still, and while READY stands no one waits where there is room (R123). With READY
false it waits in WAIT VACUUM. With READY true and an empty waiting list it waits in WAIT GRANT where the limit leaves
no room, and else has made its first ramp step in ACCEL. A REWIND or UNLOAD has its working top speed from its start
(R62, R147), a MOVE from the grant (log 27). The same holds of a REWIND or UNLOAD from the panel (R15). A MOVE that
meets a tape limit ends at its take, EOT LIMIT or AT BOT, with its distance as the stop error and its own frame's unit.
At a CONTINUE of a paused transport the head is taken so: one that ends there, by a tape limit or BAD PROFILE, is
answered before the DONE (log 15), and then the next record is taken, here with READY false; with none left a pending
release takes effect (R40, R168; log 47). -/
def Obligations.QueuedOrderIsTakenAtRest : Prop :=
  ∀ (h : Head) (t : TransportId) (p : Profile) (s : State), let tr := s.tr t
    tr.condition = .loaded → tr.phase = .stopped → tr.motion = none → tr.servo.band ≠ .outsideGuard → tr.engine.v = 0 →
    (s.vacuum.ready = true → s.arbiter.waiting = [] ∨ (s.arbiter.limit ≠ 0 ∧ s.arbiter.limit ≤ s.holderCount)) →
    let step := if tr.sense.position.referenced = true ∧ tr.sense.position.count ≤ ((s.servoOf t).approach : Int) then
      SeqStep.reverseCreep else .reverse
    let gates := fun (u : State) (k : OrderKind) (d : Direction) =>
      let top := if k ≠ .move ∧ step = .reverseCreep then p.creep.getD p.vTop else p.vTop
      let waits := { tr.engine with workTop := if k = .move then tr.engine.workTop else some top }
      (s.vacuum.ready = false → (u.tr t).phase = .waitVacuum ∧ (u.tr t).engine = waits ∧ u.arbiter = s.arbiter) ∧
      (s.vacuum.ready = true → s.vacuum.blower = .normal → s.vacuum.mode ≠ .economy → tr.engine.grant = .none →
        s.arbiter.waiting = [] → s.arbiter.holders.get t = false →
        u.vacuum = { s.vacuum with economy := none } ∧
        (s.arbiter.limit ≠ 0 → s.arbiter.limit ≤ s.holderCount →
          (u.tr t).phase = .waitGrant ∧ (u.tr t).engine = { waits with grant := .requested } ∧ u.arbiter = { s.arbiter with
            waiting := [{ transport := t, priority := p.priority, joined := s.arbiter.nextJoin }]
            nextJoin := s.arbiter.nextJoin + 1 }) ∧
        (s.arbiter.limit = 0 ∨ s.holderCount < s.arbiter.limit → tr.engine.tach = .clear →
          0 < p.aAcc → p.aAcc < top →
          (u.tr t).phase = .accel ∧
          (u.tr t).engine = { tr.engine with
            grant := .held, workTop := some top, stepTimer := true, v := velocityOf d p.aAcc
            tachTimer := some (1000 * (s.servoOf t).tachTimeout) } ∧
          u.arbiter.waiting = [] ∧ u.arbiter.holders = s.arbiter.holders.set t true ∧ u.arbiter.limit = s.arbiter.limit))
    let taken := fun (u : State) (k : OrderKind) (d : Direction) (n : Fin 16) (r : Option Nat) (o : Origin) (g : Byte) =>
      (u.tr t).queue = [] ∧ (u.tr t).condition = .loaded ∧
      (u.tr t).motion = some { kind := k, tag := g, origin := o, direction := d, profileNo := n, copy := p
                               r := r.map (fun (x : Nat) => (x : Int)), endReason := none, arrivalUnit := none } ∧
      gates u k d ∧ (u.tr t).servo = tr.servo ∧
      (k ≠ .move → (u.tr t).load.step = some step ∧ (u.tr t).load.outcome = .none ∧
        (u.tr t).load.sequence = if k = .rewind then .rewind else .unload) ∧ (k = .move → (u.tr t).load = tr.load) ∧
      u.tables = s.tables
    (∀ x : QueuedOrder, tr.paused = false → tr.queue = [] → tr.release = none →
      x.Legal → s.Takes h.port x.body → s.MayOrder h t → x.Served s t p →
      let sent := fun (u : State) => u.port h.port = (s.counted h.port).port h.port ∧ u.owner t = some h.port
      (∀ d n r, x = .move d n r →
        ((∀ code, ¬ s.LimitMet t d code) → ∃ u, exec (x.command h) s = .next u ∧ sent u ∧
          taken u .move d (n.getD tr.selected) r (.port h.port) h.tag) ∧
        (∀ code, s.LimitMet t d code → tr.hold.slot1 = .free → ∃ w, exec (x.command h) s = .next w ∧
          w = { s.setOwner t (some h.port) with ports := w.ports } ∧
          ∀ q, w.port q = ((s.counted h.port).port q).sent (if q = h.port then
            [s.ending t q (some h.unit) h.tag code (r.map (fun (x : Nat) => (x : Int))) none none] else []))) ∧
      (∀ n, x = .rewind n → ∃ u, exec (x.command h) s = .next u ∧ sent u ∧
        taken u .rewind .reverse (n.getD 15) none (.port h.port) h.tag) ∧
      (x = .unload → ∃ u, exec (x.command h) s = .next u ∧ sent u ∧
        taken u .unload .reverse 15 none (.port h.port) h.tag)) ∧
    (tr.paused = false → tr.queue = [] → tr.sense.offline = true → tr.lines.present = true →
      s.tables.profiles.get 15 = some p → p.cls = .rewind →
        (∃ u, exec (.panelRewindPress t) s = .next u ∧ u.ports = s.ports ∧ u.owners = s.owners ∧
          taken u .rewind .reverse 15 none .panel 0) ∧
        (∃ u, exec (.panelUnloadPress t) s = .next u ∧ u.ports = s.ports ∧ u.owners = s.owners ∧
          taken u .unload .reverse 15 none .panel 0)) ∧
    (∀ x rest code, tr.paused = true → tr.hold = idleHold → tr.queue = x :: rest → s.EndsAtTake t x code →
      s.Takes h.port [] → s.MayOrder h t →
      let gone := (s.setTr t { tr with paused := false, queue := rest }).setOwner t (some h.port)
      let sends := fun (w : State) => ∀ q, w.port q = ((s.counted h.port).port q).sent
        ((if x.origin = .port q then
            [s.ending t q x.arrivalUnit x.tag code (x.distance.map (fun (r : Nat) => (r : Int))) none none] else []) ++
          if q = h.port then [doneFrame h] else [])
      (rest = [] → ∃ w : State, exec (.continueOrder h) s = .next (w.relieved t) ∧
        w = { gone with ports := w.ports } ∧ sends w) ∧
      (∀ y others d, rest = y :: others → y.kind = .move → y.direction = some d → s.vacuum.ready = false →
        s.tables.profiles.get (y.profile.getD tr.selected) = some p → (∀ c, ¬ s.LimitMet t d c) →
        ∃ w, exec (.continueOrder h) s = .next w ∧ sends w ∧ w.owner t = some h.port ∧
          w.tr t = { gone.tr t with
            queue := others, phase := .waitVacuum
            motion := some {
              kind := .move, tag := y.tag, origin := y.origin, direction := d, profileNo := y.profile.getD tr.selected
              copy := p, r := y.distance.map (fun (r : Nat) => (r : Int)), endReason := none, arrivalUnit := y.arrivalUnit } }))

/-- R20, R21, R184: the refusals of a queued order. By the condition, whatever the body holds: BUSY (0x28) while
LOADING, NOT LOADED (0x23) in UNLOADED and UNLOADING, FAULTED (0x29). At a LOADED transport BAD FIELD (0x26) of a MOVE
with a direction byte above 1, a profile number above 15, a distance of 0 or a body shorter than its presence bits ask
for (log 12), and of a REWIND with a profile number above 15; then, of a legal order, BAD PROFILE (0x25) where the table
does not serve it and QUEUE FULL (0x24) with 6 records waiting. A refused order changes nothing else. -/
def Obligations.QueuedOrderRefusals : Prop :=
  (∀ (x : QueuedOrder) (h : Head) (t : TransportId) (s : State), x.Legal → s.Takes h.port x.body → s.MayOrder h t →
    ((s.tr t).condition = .loading → exec (x.command h) s = .next (s.turnedAway h 0x28 [])) ∧
    ((s.tr t).condition = .unloaded ∨ (s.tr t).condition = .unloading →
      exec (x.command h) s = .next (s.turnedAway h 0x23 [])) ∧
    ((s.tr t).condition = .faulted → exec (x.command h) s = .next (s.turnedAway h 0x29 [])) ∧
    ((s.tr t).condition = .loaded → (∀ p, ¬ x.Served s t p) → exec (x.command h) s = .next (s.turnedAway h 0x25 [])) ∧
    ((s.tr t).condition = .loaded → (∃ p, x.Served s t p) → 6 ≤ (s.tr t).queue.length →
      exec (x.command h) s = .next (s.turnedAway h 0x24 []))) ∧
  ∀ (b : List Byte) (h : Head) (t : TransportId) (s : State), s.Takes h.port b → s.MayOrder h t →
    let refused := fun (code : Byte) =>
      exec (.move h b) s = .next (s.turnedAway h code []) ∧ exec (.rewind h b) s = .next (s.turnedAway h code [])
    ((s.tr t).condition = .loading → refused 0x28) ∧
    ((s.tr t).condition = .unloaded ∨ (s.tr t).condition = .unloading → refused 0x23) ∧
    ((s.tr t).condition = .faulted → refused 0x29) ∧
    ((s.tr t).condition = .loaded →
      (b.length < 2 → exec (.move h b) s = .next (s.turnedAway h 0x26 [])) ∧
      (∀ d f rest, b = d :: f :: rest →
        1 < d.toNat ∨ (f.getLsbD 0 = true ∧ rest = []) ∨ (f.getLsbD 1 = true ∧ rest.length < 4) ∨
          (∃ n more, f.getLsbD 0 = true ∧ rest = n :: more ∧ 15 < n.toNat) ∨
          (f.getLsbD 1 = true ∧ (rest.drop 1).take 3 = [0, 0, 0]) →
        exec (.move h b) s = .next (s.turnedAway h 0x26 [])) ∧
      (∀ n rest, b = n :: rest → 15 < n.toNat → exec (.rewind h b) s = .next (s.turnedAway h 0x26 [])))

/-- R144, R146, R156: LOAD at an UNLOADED transport with the cover CLOSED, both reels present, profile 0 not EMPTY and
READY false makes it LOADING in the VACUUM step with the 10,000 ms wait, owned by its sender and not answered yet. With
READY true (the blower NORMAL and not in ECONOMY mode) it is in DRAW within the event: valve OPEN, brakes released,
position and tape-seen flags cleared, initial radii, servo in DRAW, the draw limit running. The panel button does the
same at an OFFLINE transport, with no owner taken and no one to answer. The refusals: BUSY (0x28) where a LOAD cannot
begin, FAULTED (0x29), NOT READY (0x2A) with the cover OPEN or a reel absent, BAD PROFILE (0x25). -/
def Obligations.LoadBeginsTheVacuumStep : Prop :=
  ∀ (h : Head) (t : TransportId) (s : State),
    let waiting := fun (o : Origin) (g : Byte) => s.setTr t { s.tr t with
      condition := .loading
      load := { idleLoad with sequence := .load, record := some { origin := o, tag := g }, step := some .vacuum
                              timer := some 10000000 } }
    let ready := (s.tr t).sense.coverOpen = false ∧ (s.tr t).lines.fileReel = true ∧ (s.tr t).lines.machineReel = true
    let drawing := fun (o : Origin) (g : Byte) => s.setTr t { s.tr t with
      condition := .loading, brakesEngaged := false, valveOpen := true
      sense := { (s.tr t).sense with
        position := clearedPosition, botRun := idleRun, eotRun := idleRun
        columns := { file := { (s.tr t).sense.columns.file with tapeSeen := false }
                     machine := { (s.tr t).sense.columns.machine with tapeSeen := false } } }
      servo := { (s.tr t).servo with
        reels := { file := idleReel (s.servoOf t).initialFile, machine := idleReel (s.servoOf t).initialMachine }
        mode := .draw }
      load := { idleLoad with sequence := .load, record := some { origin := o, tag := g }, step := some .draw
                              timer := some (1000 * (s.servoOf t).drawLimit) } }
    let readyStays := s.vacuum.ready = true ∧ s.vacuum.blower = .normal ∧ s.vacuum.mode ≠ .economy
    (s.Takes h.port [] → s.MayOrder h t →
      ((s.tr t).condition = .unloaded → ready → s.tables.profiles.get 0 ≠ none → s.vacuum.ready = false →
        exec (.load h) s =
          .next (reviewVacuum (((waiting (.port h.port) h.tag).setOwner t (some h.port)).counted h.port))) ∧
      ((s.tr t).condition = .unloaded → ready → s.tables.profiles.get 0 ≠ none → readyStays → exec (.load h) s =
        .next (reviewVacuum (((drawing (.port h.port) h.tag).setOwner t (some h.port)).counted h.port))) ∧
      ((s.tr t).condition = .unloaded → ¬ ready → exec (.load h) s = .next (s.turnedAway h 0x2A [])) ∧
      ((s.tr t).condition = .unloaded → ready → s.tables.profiles.get 0 = none →
        exec (.load h) s = .next (s.turnedAway h 0x25 [])) ∧
      ((s.tr t).condition = .faulted → exec (.load h) s = .next (s.turnedAway h 0x29 [])) ∧
      ((s.tr t).condition ≠ .unloaded → (s.tr t).condition ≠ .faulted →
        exec (.load h) s = .next (s.turnedAway h 0x28 []))) ∧
    ((s.tr t).sense.offline = true → (s.tr t).lines.present = true → (s.tr t).condition = .unloaded → ready →
      s.tables.profiles.get 0 ≠ none →
        (s.vacuum.ready = false → exec (.panelLoadPress t) s = .next (reviewVacuum (waiting .panel 0))) ∧
        (readyStays → exec (.panelLoadPress t) s = .next (reviewVacuum (drawing .panel 0))))

/-! ### Counts and samples -/

/-- R1, R2, R7, R8, R10, R24, R57, R59, R78 to R80, R151: a change of one capstan phase at a transport that is not
UNLOADED is one applied count. The direction is FORWARD when the change brings CTA ahead (log 22). A count that qualifies
no crossing and reaches no search limit does the following, and nothing else. It moves the position, sets the last
direction and counts the R of the current or saved order. The run of an active marker starts at it with the position
before it as its edge stamp, starts again when the direction has changed, or grows by 1; with the input inactive the run
count is 0. The search counter counts in SEARCH and the creep steps (R143). A running tach-loss timer restarts and
DETECTED becomes COUNT SEEN. Both windows count, and close at W; before DRAW start the estimates stand (R3, R81, log 43).
A reverse count (log 26) that leaves a referenced position at the approach distance or below turns REVERSE into REVERSE
CREEP at the creep speed. With no current order, a count that qualifies the BOT run references the position when forward
and is recorded when reverse. In a LOAD search in ACCEL or CRUISE a forward one makes the outcome BOT FOUND, at the search
limit too, and begins a DECEL (R148). Both phases together, neither, and any count in UNLOADED only change the levels. -/
def Obligations.CapstanCountIsApplied : Prop :=
  ∀ (t : TransportId) (a b : Bool) (s : State), let tr := s.tr t
    let c := s.servoOf t
    let lines := { tr.lines with cta := a, ctb := b }
    let pos := tr.sense.position
    let before := (tr.condition = .loading ∧ tr.load.step = some .vacuum) ∨
      (tr.condition = .faulted ∧ tr.valveOpen = false ∧ tr.snapshot.map Snapshot.condition = some .loading)
    ((a = tr.lines.cta ↔ b = tr.lines.ctb) ∨ tr.condition = .unloaded →
      exec (.capstanCount t a b) s = .next (s.setTr t { tr with lines := lines })) ∧
    (¬ (a = tr.lines.cta ↔ b = tr.lines.ctb) → tr.condition ≠ .unloaded →
      let d : Direction := if a = tr.lines.cta then (if a = b then .forward else .reverse)
        else if a = b then .reverse else .forward
      let one : Int := if d = .forward then 1 else -1
      let moved : Position := { pos with count := max (-131072) (min 16777215 (pos.count + one)) }
      let run : MarkerRun → Bool → MarkerRun := fun r active =>
        if active = false then { r with count := 0 }
        else if r.count = 0 ∨ r.direction ≠ d then { count := 1, direction := d, edge := pos.count, qualified := false }
        else { r with count := r.count + 1 }
      let bot := run tr.sense.botRun tr.lines.bots
      let eot := run tr.sense.eotRun tr.lines.eots
      let reaches := fun (r : MarkerRun) (active : Bool) => active = true ∧ c.q ≤ r.count ∧ r.qualified = false
      let sense := { tr.sense with lastDirection := some d, position := moved, botRun := bot, eotRun := eot }
      let found : Int :=
        if tr.load.step = some .search ∨ tr.load.step = some .reverseCreep ∨ tr.load.step = some .forwardCreep then
          max (-16777215) (min 16777215 (tr.load.searchCount + one))
        else tr.load.searchCount
      let near := d = .reverse ∧ tr.load.step = some .reverse ∧ pos.referenced = true ∧ moved.count ≤ (c.approach : Int) ∧
        tr.current ≠ none
      let turned := tr.sense.lastDirection ≠ none ∧ tr.sense.lastDirection ≠ some d
      let left := fun (m : Motion) => { m with r := m.r.map (fun r =>
        max (-33554432) (min 33554431 (if d = m.direction then r - 1 else r + 1))) }
      (¬ reaches bot tr.lines.bots → ¬ reaches eot tr.lines.eots →
        (tr.load.step = some .search ∨ tr.load.step = some .forwardCreep → found < c.searchLimit) →
        ∃ x, exec (.capstanCount t a b) s = .next (s.setTr t x) ∧
          x = { tr with
            lines := lines, sense := sense, motion := tr.motion.map left, hold := x.hold
            load := { tr.load with searchCount := found, step := if near then some .reverseCreep else tr.load.step }
            engine := { tr.engine with
              workTop := x.engine.workTop, tachTimer := tr.engine.tachTimer.map (fun _ => 1000 * c.tachTimeout)
              tach := if tr.engine.tach = .detected then .countSeen else tr.engine.tach }
            servo := { tr.servo with reels := x.servo.reels }
            counters := { tr.counters with radiusRejections := x.counters.radiusRejections } } ∧
          (tr.motion ≠ none ∨ (∀ m, tr.hold.slot1 ≠ .saved m) → x.hold = tr.hold) ∧
          (∀ m, tr.motion = none → tr.hold.slot1 = .saved m → x.hold = { tr.hold with slot1 := .saved (left m) }) ∧
          (¬ near → x.engine.workTop = tr.engine.workTop) ∧
          (∀ m, near → tr.current = some m →
            x.engine.workTop = some (m.copy.creep.getD m.copy.vTop)) ∧
          (∀ r : Reel, let w := tr.servo.reels.get r
            let y := x.servo.reels.get r
            let n := if turned then 0 else w.reelCount
            let total := if turned then 1 else min 16384 (w.windowCount + 1)
            let measured := (2 * c.kRad + n) / (2 * n)
            y = { w with radius := y.radius, windowCount := y.windowCount, reelCount := y.reelCount } ∧
            (total < c.window → y.windowCount = total ∧ y.reelCount = n ∧ y.radius = w.radius) ∧
            (c.window ≤ total → y.windowCount = 0 ∧ y.reelCount = 0 ∧
              y.radius = if before ∨ n = 0 ∨ measured < 160 ∨ 560 < measured then w.radius
                else max 175 (min 525 (w.radius + ((measured : Int) - w.radius).tdiv 4))))) ∧
      (reaches bot tr.lines.bots → ¬ reaches eot tr.lines.eots →
        let back := fun (x : Int) => max (-131072) (min 16777215 (x - bot.edge))
        let crossed := { sense with
          botRun := { bot with qualified := true }
          position := if d = .forward then
              { referenced := true, count := back moved.count, pastEot := pos.pastEot, eotPoint := pos.eotPoint.map back
                lastBot := some { position := 0, direction := .forward }
                lastEot := pos.lastEot.map (fun k => { k with position := back k.position }) }
            else { moved with lastBot := some { position := bot.edge, direction := .reverse } } }
        (tr.current = none → ∃ x, exec (.capstanCount t a b) s = .next (s.setTr t x) ∧ x.lines = lines ∧
          x.phase = tr.phase ∧ x.sense = crossed) ∧
        (∀ m, d = .forward → tr.condition = .loading → tr.load.step = some .search → tr.motion = some m →
          tr.phase = .accel ∨ tr.phase = .cruise → s.FreeToLetGo t →
          ∃ x, exec (.capstanCount t a b) s = .next ((s.setTr t x).letGo t) ∧ x.lines = lines ∧ x.sense = crossed ∧
            x.phase = .decel ∧ x.motion = some (left m) ∧ x.hold = tr.hold ∧
            x.load = { tr.load with searchCount := found, outcome := .botFound } ∧
            x.engine = { tr.engine with
              tachTimer := tr.engine.tachTimer.map (fun _ => 1000 * c.tachTimeout)
              tach := if tr.engine.tach = .detected then .countSeen else tr.engine.tach })))

/-- R3, R78 to R81: a reel pulse adds 1 to the reel count of that reel's window and nothing else. When a window closes
outside UNLOADED, a window with no reel count, or with a measured radius below 160 or above 560, is rejected and counted;
any other moves the estimate a quarter of the way, truncated toward zero, within 175 to 525. The window restarts. In the
VACUUM step of a LOAD, and FAULTED in it, the estimate stands until DRAW start; that such a window restarts and that its
rejection is counted is the model's choice (log 43). In UNLOADED no window closes. -/
def Obligations.RadiusWindowCountsAndCloses : Prop :=
  ∀ (t : TransportId) (x : Reel) (s : State), let tr := s.tr t
    let w := tr.servo.reels.get x
    let n := w.reelCount
    let measured := (2 * (s.servoOf t).kRad + n) / (2 * n)
    let put := fun (y : ReelServo) => { tr with servo := { tr.servo with reels := tr.servo.reels.set x y } }
    let before := (tr.condition = .loading ∧ tr.load.step = some .vacuum) ∨
      (tr.condition = .faulted ∧ tr.valveOpen = false ∧ tr.snapshot.map Snapshot.condition = some .loading)
    exec (.reelCount t x) s = .next (s.setTr t (put { w with reelCount := min 65535 (n + 1) })) ∧
    (tr.condition = .unloaded → exec (.radiusWindowClose t x) s = .next s) ∧
    (tr.condition ≠ .unloaded → n = 0 ∨ measured < 160 ∨ 560 < measured → exec (.radiusWindowClose t x) s =
      .next (s.setTr t { put { w with windowCount := 0, reelCount := 0 } with
        counters := { tr.counters with radiusRejections := min 65535 (tr.counters.radiusRejections + 1) } })) ∧
    (tr.condition ≠ .unloaded → n ≠ 0 → 160 ≤ measured → measured ≤ 560 → before →
      exec (.radiusWindowClose t x) s = .next (s.setTr t (put { w with windowCount := 0, reelCount := 0 }))) ∧
    (tr.condition ≠ .unloaded → n ≠ 0 → 160 ≤ measured → measured ≤ 560 → ¬ before → exec (.radiusWindowClose t x) s =
      .next (s.setTr t (put { w with
        windowCount := 0, reelCount := 0
        radius := max 175 (min 525 (w.radius + ((measured : Int) - w.radius).tdiv 4)) })))

/-- R4 to R6, R25, R65 to R75, R85, R87, R88, R91 to R94, R97: what a servo sample does. At a LOADED transport with the
brakes released, no end switch active, no LOOP GUARD recovery and both targets in range, each reel's demand moves toward
feed-forward plus loop correction by at most the slew limit; the depths are held and the column runs are 0. With both
loops in the recovery band the loop-guard timer is stopped. A sample that brings the last loop back within the guard
band at STOPPED takes the head of the queue (R25, R74), here with READY false. With a loop OUTSIDE GUARD the timer runs
at STOPPED, and elsewhere LOOP GUARD, unless it stands already, arrives: in ACCEL and CRUISE it is the hold cause of a
HOLD DECEL, in DECEL and HOLD DECEL it is pending, in a waiting phase the order is saved and the recovery starts, in
HELD it goes before a PAUSE or, with slot 2 taken, overflows (no run reaches that: R87; the frames of FaultStopped: log
47), and is pending behind a VACUUM SAG. At STOPPED with an empty queue, a column that has held a loop counts its zero
run and its end-switch runs, and a reel whose target is clamped its saturation run; each is 0 otherwise, and none is
full here (FaultStopFollowsItsCause has the full ones). While LOOP GUARD is the active recovery the gain is Kp_rec, and
the settle count rises IN RECOVERY and is 0 otherwise; at its goal the recovery ends: a PAUSE in slot 2 is active again,
or else a saved MOVE waits for vacuum. With the brakes engaged the demands are 0. In DRAW the targets are +D and -D, in
WIND -U and 0, with D and U in the demand range. A DRAW sample IN RECOVERY begins SEARCH: TRACK mode, and the search in
the motion context on profile 0 at the BOT search speed, here with READY false (R147); with profile 0 EMPTY the LOAD
ends BAD PROFILE (0x25) and unreferenced (log 45). -/
def Obligations.ServoSampleDrivesTheReels : Prop :=
  ∀ (t : TransportId) (l : LoopReading) (s : State), let tr := s.tr t
    let c := s.servoOf t
    let slew := fun (last target : Int) => last + max (-(c.slew : Int)) (min c.slew (target - last))
    let depths : PerReel Nat := { file := l.flp.toNat, machine := l.mlp.toNat }
    let file := tr.servo.reels.file
    let machine := tr.servo.reels.machine
    let targetF := (tr.engine.v * c.gFF).tdiv (16 * file.radius) + ((c.kp : Int) * ((c.setpoint : Int) - l.flp.toNat)).tdiv 4
    let targetM := (tr.engine.v * c.gFF).tdiv (16 * machine.radius) + ((c.kp : Int) * ((l.mlp.toNat : Int) - c.setpoint)).tdiv 4
    let noEnd := l.fue = false ∧ l.fle = false ∧ l.mue = false ∧ l.mle = false
    (tr.condition = .loaded → tr.brakesEngaged = false → noEnd → bandOf c depths = .inRecovery → l.flp ≠ 0 → l.mlp ≠ 0 →
      tr.hold.active ≠ some .loopGuard → tr.servo.band ≠ .outsideGuard → targetF.natAbs ≤ 2047 → targetM.natAbs ≤ 2047 →
        exec (.servoSample t l) s = .next (s.setTr t { tr with
          sense := { tr.sense with
            depths := depths
            columns := { file := { tapeSeen := true, zeroRun := 0, upperRun := 0, lowerRun := 0 }
                         machine := { tapeSeen := true, zeroRun := 0, upperRun := 0, lowerRun := 0 } } }
          hold := { tr.hold with pending := { tr.hold.pending with loopGuard := false } }
          servo := {
            reels := { file := { file with demand := slew file.demand targetF, satRun := 0 }
                       machine := { machine with demand := slew machine.demand targetM, satRun := 0 } }
            mode := .track, loopGuard := none, band := .inRecovery } })) ∧
    (∀ x rest p, tr.condition = .loaded → tr.phase = .stopped → tr.motion = none → tr.paused = false →
      tr.queue = x :: rest → tr.brakesEngaged = false → noEnd → tr.servo.band = .outsideGuard →
      bandOf c depths ≠ .outsideGuard → l.flp ≠ 0 → l.mlp ≠ 0 → tr.hold.active ≠ some .loopGuard →
      targetF.natAbs ≤ 2047 → targetM.natAbs ≤ 2047 → s.vacuum.ready = false →
      let n := if x.kind = .unload then 15 else x.profile.getD (if x.kind = .rewind then 15 else tr.selected)
      s.tables.profiles.get n = some p → (x.kind ≠ .move → p.cls = .rewind) →
      (x.kind = .move → ∀ code, ¬ s.LimitMet t (x.direction.getD .forward) code) → x.kind ≠ .load →
      let m : Motion := {
        kind := x.kind, tag := x.tag, origin := x.origin, profileNo := n, copy := p
        direction := if x.kind = .move then x.direction.getD .forward else .reverse
        r := x.distance.map (fun (n : Nat) => (n : Int)), endReason := none, arrivalUnit := x.arrivalUnit }
      let step := if tr.sense.position.referenced = true ∧ tr.sense.position.count ≤ (c.approach : Int) then
        SeqStep.reverseCreep else .reverse
      ∃ u, exec (.servoSample t l) s = .next u ∧ u.ports = s.ports ∧ u.owners = s.owners ∧ u.tables = s.tables ∧
        u.arbiter = s.arbiter ∧ u.vacuum.ready = false ∧ u.tr t = { tr with
          queue := rest, motion := some m, phase := .waitVacuum
          load := if x.kind = .move then tr.load else
            { idleLoad with sequence := if x.kind = .rewind then .rewind else .unload, step := some step }
          engine := { tr.engine with workTop := if x.kind = .move then tr.engine.workTop else some (s.topFor t m (some step)) }
          sense := { tr.sense with
            depths := depths
            columns := { file := { tapeSeen := true, zeroRun := 0, upperRun := 0, lowerRun := 0 }
                         machine := { tapeSeen := true, zeroRun := 0, upperRun := 0, lowerRun := 0 } } }
          hold := { tr.hold with pending := { tr.hold.pending with loopGuard := false } }
          servo := {
            reels := { file := { file with demand := slew file.demand targetF, satRun := 0 }
                       machine := { machine with demand := slew machine.demand targetM, satRun := 0 } }
            mode := .track, loopGuard := none, band := bandOf c depths } }) ∧
    (tr.condition = .loaded → tr.brakesEngaged = false → noEnd → bandOf c depths = .outsideGuard → l.flp ≠ 0 → l.mlp ≠ 0 →
      tr.hold.active ≠ some .loopGuard → targetF.natAbs ≤ 2047 → targetM.natAbs ≤ 2047 →
      let h := tr.hold
      let y := { tr with
        sense := { tr.sense with
          depths := depths
          columns := { file := { tapeSeen := true, zeroRun := 0, upperRun := 0, lowerRun := 0 }
                       machine := { tapeSeen := true, zeroRun := 0, upperRun := 0, lowerRun := 0 } } }
        servo := {
          reels := { file := { file with demand := slew file.demand targetF, satRun := 0 }
                     machine := { machine with demand := slew machine.demand targetM, satRun := 0 } }
          mode := .track, band := .outsideGuard
          loopGuard := if tr.phase = .stopped then some (tr.servo.loopGuard.getD (1000 * c.recoveryLimit)) else none } }
      let serves := { h with
        inService := { h.inService with loopGuard := true }, active := some .loopGuard, settle := 0
        timer := some (1000 * c.recoveryLimit) }
      let pends := { h with pending := { h.pending with loopGuard := true } }
      let stands := h.cause = some .loopGuard ∨ h.inService.loopGuard = true ∨ h.pending.loopGuard = true
      (tr.phase = .stopped ∨ stands → exec (.servoSample t l) s = .next (s.setTr t y)) ∧
      (tr.phase = .accel ∨ tr.phase = .cruise → ¬ stands → s.FreeToLetGo t → exec (.servoSample t l) s =
        .next ((s.setTr t { y with phase := .holdDecel, hold := { h with cause := some .loopGuard } }).letGo t)) ∧
      (tr.phase = .decel ∨ tr.phase = .holdDecel → ¬ stands →
        exec (.servoSample t l) s = .next (s.setTr t { y with hold := pends })) ∧
      (∀ m, tr.phase = .waitVacuum ∨ tr.phase = .waitGrant → ¬ stands → tr.motion = some m → tr.engine.grant ≠ .held →
        let w := s.withdrawn t
        exec (.servoSample t l) s = .next (w.setTr t { y with
          motion := none, phase := .held, engine := { (w.tr t).engine with workTop := none }
          hold := { serves with slot1 := .saved m } })) ∧
      (tr.phase = .held → ¬ stands → h.active = some .pause → h.slot2 = none → exec (.servoSample t l) s =
        .next (s.setTr t { y with hold := { serves with slot2 := some { rank := .pause, settle := h.settle } } })) ∧
      (tr.phase = .held → ¬ stands → h.active = some .pause → h.slot2 ≠ none → s.FreeToLetGo t →
        ∃ u, exec (.servoSample t l) s = .next u ∧ (s.setTr t y).FaultStopped u t .suspendOverflow) ∧
      (tr.phase = .held → ¬ stands → h.active = some .sag →
        exec (.servoSample t l) s = .next (s.setTr t { y with hold := pends }))) ∧
    (tr.condition = .unloaded ∨ tr.condition = .faulted → tr.brakesEngaged = true →
      ∃ x, exec (.servoSample t l) s = .next (s.setTr t x) ∧ x.sense.depths = depths ∧ x.servo.band = bandOf c depths ∧
        x.servo.mode = .zero ∧ x.servo.reels = { file := { file with demand := 0, satRun := 0 }
                                                 machine := { machine with demand := 0, satRun := 0 } }) ∧
    (tr.condition = .loading → tr.load.step = some .draw → tr.brakesEngaged = false → noEnd → l.flp ≠ 0 → l.mlp ≠ 0 →
      bandOf c depths ≠ .inRecovery → c.drawDemand ≤ 2047 →
        ∃ x, exec (.servoSample t l) s = .next (s.setTr t x) ∧ x.servo.mode = .draw ∧ x.load = tr.load ∧
          x.servo.reels = { file := { file with demand := slew file.demand c.drawDemand, satRun := 0 }
                            machine := { machine with demand := slew machine.demand (-(c.drawDemand : Int)), satRun := 0 } }) ∧
    (tr.condition = .unloading → tr.load.step = some .wind → tr.brakesEngaged = false → c.windDemand ≤ 2047 →
        ∃ x, exec (.servoSample t l) s = .next (s.setTr t x) ∧ x.servo.mode = .wind ∧ x.load = tr.load ∧
          x.servo.reels = { file := { file with demand := slew file.demand (-(c.windDemand : Int)), satRun := 0 }
                            machine := { machine with demand := slew machine.demand 0, satRun := 0 } }) ∧
    (∀ p g, tr.condition = .loading → tr.load.step = some .draw → tr.brakesEngaged = false → noEnd → l.flp ≠ 0 →
      l.mlp ≠ 0 → bandOf c depths = .inRecovery → c.drawDemand ≤ 2047 → s.tables.profiles.get 0 = some p →
      tr.load.record = some g → s.vacuum.ready = false → exec (.servoSample t l) s = .next (s.setTr t { tr with
        phase := .waitVacuum
        motion := some {
          kind := .load, tag := g.tag, origin := g.origin, direction := .forward, profileNo := 0
          copy := { p with vTop := c.searchSpeed }, r := none, endReason := none, arrivalUnit := none }
        engine := { tr.engine with workTop := some c.searchSpeed }
        load := { tr.load with step := some .search, timer := none, searchCount := 0, outcome := .none }
        sense := { tr.sense with
          depths := depths
          columns := { file := { tapeSeen := true, zeroRun := 0, upperRun := 0, lowerRun := 0 }
                       machine := { tapeSeen := true, zeroRun := 0, upperRun := 0, lowerRun := 0 } } }
        servo := {
          reels := { file := { file with demand := slew file.demand c.drawDemand, satRun := 0 }
                     machine := { machine with demand := slew machine.demand (-(c.drawDemand : Int)), satRun := 0 } }
          mode := .track, loopGuard := none, band := .inRecovery } })) ∧
    (tr.condition = .loading → tr.load.step = some .draw → tr.brakesEngaged = false → noEnd → l.flp ≠ 0 →
      l.mlp ≠ 0 → bandOf c depths = .inRecovery → c.drawDemand ≤ 2047 → s.tables.profiles.get 0 = none →
      tr.hold.slot1 = .free → tr.queue = [] → ∃ w : State,
        exec (.servoSample t l) s = .next (reviewVacuum (w.relieved t)) ∧ w.tables = s.tables ∧ w.owners = s.owners ∧
        (w.tr t).condition = .loaded ∧ (w.tr t).phase = .stopped ∧ (w.tr t).motion = none ∧ (w.tr t).load = idleLoad ∧
        (w.tr t).release = tr.release ∧
        (w.tr t).sense.position = { tr.sense.position with referenced := false } ∧
        ∀ q, w.port q = (s.port q).sent ((s.loadMarked t 0x25).loadEnding t q 0x25 none)) ∧
    (tr.condition = .loaded → tr.phase = .stopped → tr.queue = [] → tr.brakesEngaged = false →
      tr.hold.active ≠ some .loopGuard → tr.sense.columns.file.tapeSeen = true → tr.sense.columns.machine.tapeSeen = true →
      let count := fun (hit : Bool) (n : Nat) => if hit then n + 1 else 0
      let column := fun (k : Column) (depth : Byte) (upper lower : Bool) => { k with
        zeroRun := count (depth == 0) k.zeroRun, upperRun := count upper k.upperRun, lowerRun := count lower k.lowerRun }
      let f := column tr.sense.columns.file l.flp l.fue l.fle
      let m := column tr.sense.columns.machine l.mlp l.mue l.mle
      let held := fun (x : Int) => max (-2047) (min 2047 x)
      let clamped := fun (n : Nat) (x : Int) => if held x = x then 0 else min 255 (n + 1)
      (f.zeroRun < 2 ∧ f.upperRun < 2 ∧ f.lowerRun < 2) → (m.zeroRun < 2 ∧ m.upperRun < 2 ∧ m.lowerRun < 2) →
      (held targetF ≠ targetF → clamped file.satRun targetF < c.satLimit) →
      (held targetM ≠ targetM → clamped machine.satRun targetM < c.satLimit) →
        exec (.servoSample t l) s = .next (s.setTr t { tr with
          sense := { tr.sense with depths := depths, columns := { file := f, machine := m } }
          hold := { tr.hold with pending := { tr.hold.pending with
            loopGuard := if bandOf c depths = .outsideGuard then tr.hold.pending.loopGuard else false } }
          servo := {
            reels := {
              file := { file with demand := slew file.demand (held targetF), satRun := clamped file.satRun targetF }
              machine := { machine with
                demand := slew machine.demand (held targetM), satRun := clamped machine.satRun targetM } }
            mode := .track, band := bandOf c depths
            loopGuard := if bandOf c depths = .outsideGuard then some (tr.servo.loopGuard.getD (1000 * c.recoveryLimit))
              else none } })) ∧
    (tr.condition = .loaded → tr.phase = .held → tr.brakesEngaged = false → noEnd → l.flp ≠ 0 → l.mlp ≠ 0 →
      tr.hold.active = some .loopGuard → tr.hold.inService.loopGuard = true →
      let recF := (tr.engine.v * c.gFF).tdiv (16 * file.radius) +
        ((c.kpRec : Int) * ((c.setpoint : Int) - l.flp.toNat)).tdiv 4
      let recM := (tr.engine.v * c.gFF).tdiv (16 * machine.radius) +
        ((c.kpRec : Int) * ((l.mlp.toNat : Int) - c.setpoint)).tdiv 4
      recF.natAbs ≤ 2047 → recM.natAbs ≤ 2047 →
      let band := bandOf c depths
      let h := { tr.hold with
        pending := { tr.hold.pending with
          loopGuard := if band = .outsideGuard then tr.hold.pending.loopGuard else false }
        settle := if band = .inRecovery then min 255 (tr.hold.settle + 1) else 0 }
      let y := { tr with
        sense := { tr.sense with
          depths := depths
          columns := { file := { tapeSeen := true, zeroRun := 0, upperRun := 0, lowerRun := 0 }
                       machine := { tapeSeen := true, zeroRun := 0, upperRun := 0, lowerRun := 0 } } }
        servo := {
          reels := { file := { file with demand := slew file.demand recF, satRun := 0 }
                     machine := { machine with demand := slew machine.demand recM, satRun := 0 } }
          mode := .track, band := band, loopGuard := none } }
      let out := { h with inService := { h.inService with loopGuard := false }, active := none, settle := 0, timer := none }
      (band ≠ .inRecovery ∨ h.settle < c.recoverySettle →
        exec (.servoSample t l) s = .next (s.setTr t { y with hold := h })) ∧
      (∀ n, band = .inRecovery → c.recoverySettle ≤ h.settle → h.pending = noRanks →
        h.slot2 = some { rank := .pause, settle := n } → exec (.servoSample t l) s = .next (s.setTr t { y with
          hold := { out with
            slot2 := none, inService := { out.inService with pause := true }, active := some .pause } })) ∧
      (∀ m, band = .inRecovery → c.recoverySettle ≤ h.settle → h.pending = noRanks → h.slot2 = none →
        h.slot1 = .saved m → s.vacuum.ready = false → m.kind = .move → m.endReason ≠ some .bot →
        (∀ r, m.r = some r → 0 < r) → (∀ code, ¬ s.LimitMet t m.direction code) → exec (.servoSample t l) s =
          .next (s.setTr t { y with motion := some m, phase := .waitVacuum, hold := { out with slot1 := .free } })))

/-! ### The ramp -/

/-- R45, R48, R49, R57, R126, R179: a ramp step that meets no limit. In ACCEL the velocity rises by a_acc, or to the
working top speed, which gives CRUISE, gives up the grant and completes a start measurement of the Motion Monitor; the
arbiter then grants the heads of its list that find room (R123 to R125), here MOVEs whose first step meets no limit. In
CRUISE at the working top speed it stays; above it, it falls by a_dec, to no less than that speed, and the phase stays
CRUISE. The tach-loss timer starts when the velocity leaves 0. -/
def Obligations.RampStepFollowsTheWorkingTopSpeed : Prop :=
  ∀ (t : TransportId) (m : Motion) (s : State), s.RunsOn t m → let tr := s.tr t
    let e := tr.engine
    let v := e.v.natAbs
    let top := e.workTop.getD m.copy.vTop
    let timer := if e.v = 0 ∧ e.tach = .clear then some (1000 * (s.servoOf t).tachTimeout) else e.tachTimer
    (tr.phase = .accel → v + m.copy.aAcc < top → 0 < v + m.copy.aAcc → exec (.rampStep t) s =
      .next (s.setTr t { tr with engine := { e with v := velocityOf m.direction (v + m.copy.aAcc), tachTimer := timer } })) ∧
    (tr.phase = .accel → v < top → top ≤ v + m.copy.aAcc →
      let monitor := match s.monitor.running with
        | none => s.monitor
        | some start =>
          if s.monitor.transport = t ∧ s.monitor.measure = .startLatency then
            let latency := min 65535 ((s.clock - start) / 1000)
            { s.monitor with
              samples := min 65535 (s.monitor.samples + 1), last := some latency
              maximum := some (max (s.monitor.maximum.getD 0) latency), running := none }
          else s.monitor
      let cruises := s.setTr t { tr with
        phase := .cruise, engine := { e with v := velocityOf m.direction top, tachTimer := timer } }
      (s.FreeToLetGo t → exec (.rampStep t) s = .next { cruises.letGo t with monitor := monitor }) ∧
      (∀ heads others, e.grant = .held → (cruises.released t).Serves heads others → exec (.rampStep t) s =
        .next { (cruises.released t).served heads others with monitor := monitor })) ∧
    (tr.phase = .cruise → e.v = velocityOf m.direction top → exec (.rampStep t) s = .next s) ∧
    (tr.phase = .cruise → top < v → exec (.rampStep t) s =
      .next (s.setTr t { tr with engine := { e with v := velocityOf m.direction (max (v - m.copy.aDec) top) } }))

/-- R30, R50, R51, R60, R93, R95, R96, R148, R149, R152, R153, R154: a ramp step in DECEL or HOLD DECEL lowers the
velocity by a_dec; the step that brings it to 0 stops both timers and is a rest. A queued order with an end reason, or with
a count seen since a tach loss (R60, log 16), ends, here with an empty queue: its response with the code of R30 goes to
its port, pending causes are dropped, a pending PAUSE becomes the paused flag, and the transport stands STOPPED, where a
pending release takes effect (R40, R168; log 47); at a HOLD DECEL rest with a hold cause an empty context stands HELD
instead. So a MOVE ends DONE and a REWIND AT BOT, whatever its search outcome (log 46). Without one, a REWIND or UNLOAD
whose search reached its limit ends NO BOT. An UNLOAD with end reason BOT begins WIND (a pending PAUSE: log 18). Without
an end reason the motion waits for vacuum again, here with READY false; a REWIND, UNLOAD or search has its sub-step's
speed as the working top speed (R62, R147), a MOVE the old one (log 27); after REVERSE STOP, or in CLEARING with the
marker cleared, a REWIND or UNLOAD goes on in FORWARD CREEP. A hold cause saves the motion in slot 1 and enters service.
The search of a LOAD ends LOADED: DONE with BOT FOUND, NO BOT and unreferenced (log 45) with LIMIT, EOT LIMIT with EOT;
with a count seen, by the outcome before the detection (log 21) or TACH INTERRUPTED; halted, it ends ABORTED and UNLOADED
(R150). -/
def Obligations.RampStepComesToRest : Prop :=
  ∀ (t : TransportId) (m : Motion) (s : State), (s.tr t).motion = some m → (s.tr t).engine.stepTimer = true →
    let tr := s.tr t
    let e := tr.engine
    let v := e.v.natAbs
    let still := { e with v := 0, stepTimer := false, tachTimer := none }
    let dropped := { tr.hold with pending := noRanks }
    let nothing := tr.hold.cause = none ∧ tr.hold.pending = noRanks
    let sequence := m.kind = .rewind ∨ m.kind = .unload
    let creeps := sequence ∧ m.endReason = none ∧
      (tr.load.step = some .reverseStop ∨ (tr.load.step = some .clearing ∧ tr.load.markerCleared = true))
    let next := if creeps then { m with direction := .forward } else m
    let load := if creeps then { tr.load with step := some .forwardCreep, searchCount := 0 } else tr.load
    let runs := (tr.condition = .loaded ∧ m.kind ≠ .load) ∨
      (tr.condition = .loading ∧ tr.load.step = some .search ∧ m.kind = .load)
    let goesOn := runs ∧ e.tach = .clear ∧ (if m.kind = .load then m.endReason ≠ some .halt else m.endReason = none)
    (tr.phase = .decel ∨ tr.phase = .holdDecel → runs → m.copy.aDec < v → exec (.rampStep t) s =
      .next (s.setTr t { tr with engine := { e with v := velocityOf m.direction (v - m.copy.aDec) } })) ∧
    (v ≤ m.copy.aDec →
      (∀ c, tr.phase = .holdDecel → goesOn → tr.hold = { idleHold with cause := some c } →
        (c = .sag → s.vacuum.ready = false) → exec (.rampStep t) s = .next (s.setTr t { tr with
          phase := .held, motion := none, engine := { still with workTop := none }, load := load
          hold := { idleHold with
            slot1 := .saved next, inService := noRanks.put c true, active := some c
            timer := if c = .loopGuard then some (1000 * (s.servoOf t).recoveryLimit) else none } })) ∧
      (tr.phase = .holdDecel ∨ (tr.phase = .decel ∧ m.kind ≠ .move) → goesOn → nothing → tr.load.outcome ≠ .limit →
        (m.kind = .load → tr.load.outcome = .none) →
        (m.kind = .move → (∀ r, m.r = some r → 0 < r) ∧ ∀ code, ¬ s.LimitMet t m.direction code) →
        s.vacuum.ready = false → exec (.rampStep t) s = .next (s.setTr t { tr with
          phase := .waitVacuum, motion := some next, load := load
          engine := { still with
            workTop := if m.kind = .move then e.workTop else some (s.topFor t next load.step) } })) ∧
      (tr.phase = .decel ∨ tr.phase = .holdDecel → tr.condition = .loaded → m.kind = .unload →
        m.endReason = some .bot → e.tach = .clear → exec (.rampStep t) s = .next (reviewVacuum ((s.setTr t { tr with
          engine := still
          paused := if tr.phase = .decel then tr.paused || tr.hold.pending.pause else tr.paused }).windBegun t))) ∧
      (∀ r code, tr.condition = .loaded → m.kind ≠ .load → tr.queue = [] →
        (e.tach = .clear ∧ m.endReason = some r ∧ (m.kind = .unload → r ≠ .bot) ∨
          e.tach = .countSeen ∧ r = m.endReason.getD .tach) →
        code = (match r with
          | .distance => 0
          | .stop => if m.kind = .move ∧ m.r.getD 0 ≤ 0 ∧ tr.phase = .decel then 0 else 1
          | .eot => 3
          | .bot => 2
          | .tach => 5
          | .halt => 0x10 : Byte) →
        (tr.phase = .decel ∨ (tr.phase = .holdDecel ∧ nothing) →
          ∃ w : State, exec (.rampStep t) s = .next (reviewVacuum (w.relieved t)) ∧
            w = { (s.setTr t { tr with
              phase := .stopped, engine := { still with tach := .clear }, hold := dropped
              paused := tr.paused || tr.hold.pending.pause }).orderGone t with ports := w.ports } ∧
            ∀ q, w.port q = (s.port q).sent (s.endingOf t q m code none)) ∧
        (∀ c, tr.phase = .holdDecel → tr.hold = { idleHold with cause := some c } → (c = .sag → s.vacuum.ready = false) →
          ∃ w, exec (.rampStep t) s = .next w ∧
            w = { (s.setTr t { tr with
              phase := .held, engine := { still with tach := .clear }
              hold := { idleHold with
                slot1 := .emptyContext, inService := noRanks.put c true, active := some c
                timer := if c = .loopGuard then some (1000 * (s.servoOf t).recoveryLimit) else none } }).orderGone t with
              ports := w.ports } ∧
            ∀ q, w.port q = (s.port q).sent (s.endingOf t q m code none))) ∧
      (tr.phase = .decel ∨ (tr.phase = .holdDecel ∧ nothing) → goesOn → sequence → tr.load.outcome = .limit →
        tr.queue = [] →
          ∃ w : State, exec (.rampStep t) s = .next (reviewVacuum (w.relieved t)) ∧
            w = { (s.setTr t { tr with
              phase := .stopped, engine := still, hold := dropped
              paused := tr.paused || tr.hold.pending.pause }).orderGone t with ports := w.ports } ∧
            ∀ q, w.port q = (s.port q).sent (s.endingOf t q m 4 none)) ∧
      (∀ o code, tr.condition = .loading → tr.load.step = some .search → m.kind = .load → m.endReason ≠ some .halt →
        tr.phase = .decel ∨ (tr.phase = .holdDecel ∧ nothing) → tr.hold.slot1 = .free → tr.queue = [] →
        (e.tach = .clear ∧ o = tr.load.outcome ∧ o ≠ .none ∨ e.tach = .countSeen ∧ o = tr.load.tachOutcome) →
        code = (match o with | .botFound => 0 | .limit => 4 | .eot => 3 | .none => 5 : Byte) →
          ∃ w : State, exec (.rampStep t) s = .next (reviewVacuum (w.relieved t)) ∧
            w = { (s.setTr t { tr with
              engine := { still with tach := .clear }, hold := dropped
              paused := tr.paused || tr.hold.pending.pause }).loadEnded t code with ports := w.ports } ∧
            ∀ q, w.port q = (s.port q).sent ((s.loadMarked t code).loadEnding t q code none)) ∧
      (tr.condition = .loading → tr.load.step = some .search → m.kind = .load → m.endReason = some .halt →
        tr.phase = .decel → e.tach ≠ .detected →
          ∃ w : State, exec (.rampStep t) s = .next (reviewVacuum (w.relieved t)) ∧ tr.EntersUnloaded (w.tr t) ∧ (w.tr t).motion = none ∧
            (w.tr t).engine.v = 0 ∧ w = { s.setTr t (w.tr t) with ports := w.ports } ∧
            ∀ q, w.port q = (s.port q).sent (s.loadEnding t q 0x10 none)))

/-- R38, R39, R47, R53 to R55: the tests that part 1 of a ramp step makes in ACCEL and CRUISE, without a hold cause. The EOT
limit goes first: a forward motion past EOT whose position lies within the stop distance of the allowance begins its EOT
stop. The phase becomes DECEL, the end reason EOT unless one stands (for the BOT search of a LOAD the outcome EOT instead,
unless one stands: R148), the grant is given up and the velocity falls by a_dec in the same step. Otherwise the distance
test of a MOVE: with an empty queue, or a head that may not be chained, the phase becomes DECEL with end reason DISTANCE in
the same way. A head of the queue that may be chained takes the motion over in CRUISE: the unspent distance is added to its
own, the profile copy, phase and velocity stay, and the ended MOVE is answered DONE. -/
def Obligations.DistanceTestStopsOrChains : Prop :=
  ∀ (t : TransportId) (m : Motion) (s : State), (s.tr t).motion = some m →
    (s.tr t).condition = .loaded ∨ ((s.tr t).condition = .loading ∧ (s.tr t).load.step = some .search) →
    (s.tr t).engine.stepTimer = true → (s.tr t).hold.cause = none → let tr := s.tr t
    let e := tr.engine
    let v := e.v.natAbs
    let pos := tr.sense.position
    let slower := { tr with phase := .decel, engine := { e with v := velocityOf m.direction (v - m.copy.aDec) } }
    (∀ n, m.direction = .forward → pos.pastEot = true → pos.eotPoint = some n →
      ((s.servoOf t).eotAllowance : Int) - (stopDistance m.copy v : Int) ≤ pos.count - n →
      tr.phase = .accel ∨ tr.phase = .cruise → s.FreeToLetGo t → m.copy.aDec < v →
      exec (.rampStep t) s = .next ((s.setTr t (if m.kind = .load then
          { slower with load := { tr.load with
              outcome := if tr.load.outcome = .none then .eot else tr.load.outcome } }
        else { slower with motion := some { m with endReason := some (m.endReason.getD .eot) } })).letGo t)) ∧
    (∀ r, m.kind = .move → m.r = some r → r ≤ (stopDistance m.copy v : Int) →
      s.ShortOfEot t m.direction (stopDistance m.copy v) →
      (tr.phase = .accel ∨ tr.phase = .cruise → s.FreeToLetGo t → m.copy.aDec < v →
        (∀ x rest, tr.queue = x :: rest → x.kind ≠ .move ∨ x.distance = none ∨ (∃ d, x.direction = some d ∧ d ≠ m.direction) ∨
          x.profile.getD tr.selected ≠ m.profileNo ∨ m.endReason ≠ none ∨ tr.paused = true ∨ tr.hold.inService ≠ noRanks ∨
          tr.hold.pending ≠ noRanks) →
        exec (.rampStep t) s = .next ((s.setTr t { slower with
          motion := some { m with endReason := some (m.endReason.getD .distance) } }).letGo t)) ∧
      (∀ x rest d p, tr.phase = .cruise → e.v = velocityOf m.direction (e.workTop.getD m.copy.vTop) →
        tr.queue = x :: rest →
        x.kind = .move → x.distance = some d → x.direction = some m.direction → x.profile.getD tr.selected = m.profileNo →
        m.endReason = none → tr.paused = false → tr.hold.inService = noRanks → tr.hold.pending = noRanks →
        m.origin = .port p →
        ∃ w, exec (.rampStep t) s = .next w ∧
          w = { s.setTr t { tr with
              queue := rest
              motion := some { m with
                tag := x.tag, origin := x.origin, arrivalUnit := x.arrivalUnit
                r := some (max (-33554432) (min 33554431 ((d : Int) + r))) } } with
            monitor := if s.monitor.transport = t ∧ s.monitor.measure = .motionCount ∧
                (s.monitor.filter = .both ∨ (s.monitor.filter = .forward ∧ m.direction = .forward) ∨
                  (s.monitor.filter = .reverse ∧ m.direction = .reverse)) then
              { s.monitor with samples := min 65535 (s.monitor.samples + 1) } else s.monitor
            ports := w.ports } ∧
          ∀ q, w.port q = { s.port q with tx := (s.port q).tx ++ (if q = p ∧ (s.port q).up then
            [s.ending t p m.arrivalUnit m.tag 0 (some r) none none] else []) }))

/-- R46: the stop distance is the sum of the two floors, exactly; it is 0 at rest, and for profile 0 as hard reset loads
it, it is floor(v² / 25,000,000) + floor(v / 4,000), with the values of the rule's table. -/
def Obligations.StopDistanceIsTheSumOfTwoFloors : Prop :=
  (∀ (p : Profile) (v : Nat), 0 < p.aDec → stopDistance p v =
    ⌊((v : ℚ) ^ 2 * p.tR) / (2 * p.aDec * 1000000)⌋₊ + ⌊((v : ℚ) * p.tR) / 1000000⌋₊) ∧
  (∀ p, stopDistance p 0 = 0) ∧
  ∃ p, State.reset.tables.profiles.get 0 = some p ∧ (∀ v, stopDistance p v = v ^ 2 / 25000000 + v / 4000) ∧
    stopDistance p 12500 = 9 ∧ stopDistance p 31250 = 46 ∧ stopDistance p 50000 = 112 ∧ stopDistance p 62500 = 171

/-! ### Vacuum -/

/-- R86, R90, R98 to R100, R132, R136 to R138, R140: a pressure sample. The settle timer starts at 0 ms at the first
sample at or above RUN with the blower NORMAL, advances by 10 ms to 300 ms, and is stopped otherwise; READY becomes true
at 300 ms and false below SAG. With every transport UNLOADED, and at a sample at or above SAG that brings no READY and
finds no VACUUM SAG pending, the transports stay as they are; a VACUUM SAG that is pending leaves the pending set there
(R86). Below LOSS the one transport that is not UNLOADED, when LOADED, has its fault stop. At or above LOSS and below
SAG, beside UNLOADED transports, VACUUM SAG arrives at it unless it stands already (R85, R91, R94, R97, R139): in ACCEL
and CRUISE it is the hold cause of a HOLD DECEL, in HOLD DECEL it is pending, in HELD it goes before another recovery,
or, with slot 2 taken, makes the fault stop SUSPEND OVERFLOW (R87; a LOOP GUARD over a PAUSE is so; the frames of
FaultStopped: log 47); in STOPPED, DECEL and WAIT VACUUM it does not arise, and a READY lost returns WAIT GRANT to WAIT
VACUUM (R138). A READY gained grants a MOVE in WAIT VACUUM, makes it wait for a grant, or begins DRAW, and it ends an
active VACUUM SAG recovery (R90, R98 to R100; SagEnds of Safety.lean): the next cause enters service, the hold is over,
or the saved MOVE starts. The model's counter of free choices (log 24) rises. -/
def Obligations.PressureSampleSettlesAndFaults : Prop :=
  ∀ (x : Byte) (s : State), let p := x.toNat
    let v := s.vacuum
    let settle := if v.blower = .normal ∧ v.run ≤ p then
      some (match v.settle with | none => 0 | some n => min 300 (n + 10)) else none
    let ready := if p < v.sag then false else v.ready || decide (settle = some 300)
    let sampled := { s with
      vacuum := { v with lastPressure := p, settle := settle, ready := ready }, freeCount := s.freeCount + 4 }
    (s.allUnloaded = true → exec (.pressureSample x) s = .next sampled) ∧
    (v.Ordered → v.sag ≤ p → (v.ready = true ∨ settle ≠ some 300) → (∀ t, (s.tr t).hold.pending.sag = false) →
      exec (.pressureSample x) s = .next sampled) ∧
    (v.Ordered → v.sag ≤ p → (v.ready = true ∨ settle ≠ some 300) → ∃ u, exec (.pressureSample x) s = .next u ∧
      u = { sampled with transports := u.transports } ∧ ∀ t, let tr := s.tr t
        u.tr t = if tr.condition = .loaded ∨ (tr.condition = .loading ∧ tr.load.step = some .search) then
          { tr with hold := { tr.hold with pending := { tr.hold.pending with sag := false } } } else tr) ∧
    (∀ t, p < v.loss → (s.tr t).condition = .loaded → s.FreeToLetGo t →
      (∀ u, u ≠ t → (s.tr u).condition = .unloaded) →
        ∃ u, exec (.pressureSample x) s = .next u ∧ s.FaultStopped u t .vacuumLoss ∧ u.vacuum.lastPressure = p) ∧
    ∀ t, (∀ u, u ≠ t → (s.tr u).condition = .unloaded) → let tr := s.tr t
      let h := tr.hold
      let stands := h.cause = some .sag ∨ h.inService.sag = true ∨ h.pending.sag = true
      (v.Ordered → v.loss ≤ p → p < v.sag → tr.condition = .loaded →
        (tr.phase = .stopped ∨ tr.phase = .decel ∨ tr.phase = .waitVacuum ∨ (tr.phase ≠ .waitGrant ∧ stands) →
          exec (.pressureSample x) s = .next sampled) ∧
        (tr.phase = .accel ∨ tr.phase = .cruise → ¬ stands → s.FreeToLetGo t → exec (.pressureSample x) s =
          .next ((sampled.setTr t { tr with phase := .holdDecel, hold := { h with cause := some .sag } }).letGo t)) ∧
        (tr.phase = .holdDecel → ¬ stands → exec (.pressureSample x) s =
          .next (sampled.setTr t { tr with hold := { h with pending := { h.pending with sag := true } } })) ∧
        (tr.phase = .waitGrant → v.ready = true → tr.engine.grant = .requested → let w := sampled.withdrawn t
          exec (.pressureSample x) s = .next (w.setTr t { w.tr t with phase := .waitVacuum })) ∧
        (∀ a, tr.phase = .held → ¬ stands → h.active = some a → a ≠ .sag → h.slot2 = none →
          exec (.pressureSample x) s = .next (sampled.setTr t { tr with hold := { h with
            slot2 := some { rank := a, settle := h.settle }, inService := { h.inService with sag := true }
            active := some .sag, settle := 0, timer := none } })) ∧
        (∀ a, tr.phase = .held → ¬ stands → h.active = some a → a ≠ .sag → h.slot2 ≠ none → s.FreeToLetGo t →
          ∃ u, exec (.pressureSample x) s = .next u ∧ s.FaultStopped u t .suspendOverflow ∧
            u.vacuum.lastPressure = p)) ∧
      (v.Ordered → v.ready = false → settle = some 300 → tr.condition = .loaded → tr.phase = .held →
        h.active = some .sag → (sampled.setTr t { tr with
          hold := { h with pending := { h.pending with sag := false } } }).SagEnds t (exec (.pressureSample x) s)) ∧
      (v.Ordered → v.ready = false → settle = some 300 → h = idleHold →
        (tr.condition = .loaded → tr.phase ≠ .waitVacuum → exec (.pressureSample x) s = .next sampled) ∧
        (tr.condition = .loading → tr.load.step = some .vacuum → ∃ y, exec (.pressureSample x) s =
            .next (sampled.setTr t y) ∧
          y.condition = .loading ∧ y.valveOpen = true ∧ y.brakesEngaged = false ∧ y.servo.mode = .draw ∧
          y.load = { tr.load with step := some .draw, timer := some (1000 * (s.servoOf t).drawLimit) }) ∧
        (∀ m, tr.phase = .waitVacuum → s.StartsOnGrant t m → tr.engine.grant = .none →
          s.arbiter.holders.get t = false → s.arbiter.waiting = [] →
          (s.arbiter.limit = 0 ∨ s.holderCount < s.arbiter.limit →
            exec (.pressureSample x) s = .next (sampled.started t)) ∧
          (s.arbiter.limit ≠ 0 → s.arbiter.limit ≤ s.holderCount → exec (.pressureSample x) s = .next
            { sampled.setTr t { tr with phase := .waitGrant, engine := { tr.engine with grant := .requested } } with
              arbiter := { s.arbiter with
                waiting := [{ transport := t, priority := m.copy.priority, joined := s.arbiter.nextJoin }]
                nextJoin := s.arbiter.nextJoin + 1 } })))

/-- R90, R98 to R100, R134, R137, R145: READY becoming true and the economy timer's expiry. With every transport
UNLOADED only READY and the settle timer change. A LOAD in its VACUUM step, beside UNLOADED transports, begins DRAW:
valve OPEN, brakes released, position cleared, initial radii, servo in DRAW, the draw limit running. A motion in WAIT
VACUUM asks for a grant: without room it waits in WAIT GRANT, with room it is in ACCEL after its first step. An active
VACUUM SAG recovery ends (R90, R98 to R100; SagEnds of Safety.lean): the next cause enters service, the hold is over, or
the saved MOVE starts. At the expiry, with no transport in WAIT GRANT, the blower is ECONOMY and READY false. The
model's counter of free choices rises with READY (log 24). -/
def Obligations.ReadyAndEconomyEvents : Prop :=
  ∀ s : State,
    (s.vacuum.economy ≠ none → s.vacuum.blower ≠ .economy → (∀ t, (s.tr t).phase ≠ .waitGrant) →
      exec .economyTimerExpiry s = .next { s with
        vacuum := { s.vacuum with blower := .economy, settle := none, ready := false, economy := none } }) ∧
    (s.vacuum.blower = .normal → s.vacuum.ready = false →
      let up : State := { s with vacuum := { s.vacuum with settle := some 300, ready := true }, freeCount := s.freeCount + 4 }
      (s.allUnloaded = true → exec .readyBecomesTrue s = .next up) ∧
      (∀ t, (∀ u, u ≠ t → (s.tr u).condition = .unloaded) → (s.tr t).condition = .loaded → (s.tr t).phase = .held →
        (s.tr t).hold.active = some .sag → up.SagEnds t (exec .readyBecomesTrue s)) ∧
      ∀ t, (∀ u, u ≠ t → (s.tr u).condition = .unloaded) → (s.tr t).hold = idleHold → let tr := s.tr t
        (tr.condition = .loading → tr.load.step = some .vacuum → ∃ x, exec .readyBecomesTrue s = .next (up.setTr t x) ∧
          x.valveOpen = true ∧ x.brakesEngaged = false ∧ x.condition = .loading ∧ x.sense.position = clearedPosition ∧
          x.servo.mode = .draw ∧ x.servo.reels.file = idleReel (s.servoOf t).initialFile ∧
          x.servo.reels.machine = idleReel (s.servoOf t).initialMachine ∧
          x.load = { tr.load with step := some .draw, timer := some (1000 * (s.servoOf t).drawLimit) }) ∧
        (∀ m, tr.condition = .loaded → tr.phase = .waitVacuum → tr.motion = some m → tr.engine.grant = .none →
          s.arbiter.holders.get t = false → s.arbiter.waiting = [] → let held := s.arbiter.holders
          let count := held.t0.toNat + held.t1.toNat + held.t2.toNat + held.t3.toNat
          (s.arbiter.limit ≠ 0 ∧ s.arbiter.limit ≤ count → exec .readyBecomesTrue s = .next
            { up.setTr t { tr with phase := .waitGrant, engine := { tr.engine with grant := .requested } } with
              arbiter := { s.arbiter with
                waiting := [{ transport := t, priority := m.copy.priority, joined := s.arbiter.nextJoin }]
                nextJoin := s.arbiter.nextJoin + 1 } }) ∧
          (s.arbiter.limit = 0 ∨ count < s.arbiter.limit → m.kind = .move → (∀ r, m.r = some r → 0 < r) →
            s.ShortOfEot t m.direction 0 → tr.engine.v = 0 → tr.engine.tach = .clear → 0 < m.copy.aAcc →
            m.copy.aAcc < m.copy.vTop → exec .readyBecomesTrue s = .next
              { up.setTr t { tr with
                  phase := .accel
                  engine := { tr.engine with
                    grant := .held, workTop := some m.copy.vTop, stepTimer := true
                    v := velocityOf m.direction m.copy.aAcc
                    tachTimer := some (1000 * (s.servoOf t).tachTimeout) } } with
                arbiter := { s.arbiter with holders := held.set t true } })))

/-! ### Lines -/

/-- R7, R12, R13: changes of a marker input, the cover and a reel switch, held as their level (log 34). A marker
becoming active only changes its level; becoming inactive ends its run. For BOTS in CLEARING (R152) it also makes the
sub-step REVERSE STOP and begins a DECEL without an end reason in ACCEL and CRUISE, sets the marker-cleared flag in a
deceleration, and in a waiting phase or HELD makes the sub-step FORWARD CREEP, FORWARD at the creep speed with search
counter 0. A cover change at a present transport that is UNLOADED, and a closing at any, updates the held cover state;
at an ABSENT transport only the level changes. A reel switch is held as a level. -/
def Obligations.SensorLevelsAreHeld : Prop :=
  ∀ (t : TransportId) (s : State), let tr := s.tr t
    (tr.lines.bots = false → exec (.markerInputChange t .bot true) s =
      .next (s.setTr t { tr with lines := { tr.lines with bots := true } })) ∧
    (tr.lines.eots = false → exec (.markerInputChange t .eot true) s =
      .next (s.setTr t { tr with lines := { tr.lines with eots := true } })) ∧
    (tr.lines.eots = true → exec (.markerInputChange t .eot false) s = .next (s.setTr t { tr with
      lines := { tr.lines with eots := false }
      sense := { tr.sense with eotRun := { tr.sense.eotRun with count := 0, qualified := false } } })) ∧
    (tr.lines.bots = true →
      let left := { tr with
        lines := { tr.lines with bots := false }
        sense := { tr.sense with botRun := { tr.sense.botRun with count := 0, qualified := false } } }
      (tr.load.step ≠ some .clearing → exec (.markerInputChange t .bot false) s = .next (s.setTr t left)) ∧
      (tr.load.step = some .clearing → tr.motion ≠ none → tr.phase = .decel ∨ tr.phase = .holdDecel →
        exec (.markerInputChange t .bot false) s =
          .next (s.setTr t { left with load := { tr.load with markerCleared := true } })) ∧
      (tr.load.step = some .clearing → tr.motion ≠ none → tr.phase = .accel ∨ tr.phase = .cruise → s.FreeToLetGo t →
        exec (.markerInputChange t .bot false) s = .next ((s.setTr t { left with
          phase := .decel, load := { tr.load with step := some .reverseStop } }).letGo t)) ∧
      (∀ m, tr.load.step = some .clearing →
        let creeps := { left with
          engine := { tr.engine with workTop := some (m.copy.creep.getD m.copy.vTop) }
          load := { tr.load with step := some .forwardCreep, searchCount := 0 } }
        (tr.motion = some m → tr.phase = .waitVacuum ∨ tr.phase = .waitGrant →
          exec (.markerInputChange t .bot false) s =
            .next (s.setTr t { creeps with motion := some { m with direction := .forward } })) ∧
        (tr.motion = none → tr.hold.slot1 = .saved m → tr.phase = .held →
          exec (.markerInputChange t .bot false) s = .next (s.setTr t { creeps with
            hold := { tr.hold with slot1 := .saved { m with direction := .forward } } })))) ∧
    (∀ b, b ≠ tr.lines.coverOpen → tr.lines.present = true → tr.condition = .unloaded ∨ b = false →
      exec (.coverChange t b) s = .next (s.setTr t { tr with
        lines := { tr.lines with coverOpen := b }, sense := { tr.sense with coverOpen := b } })) ∧
    (∀ b, tr.lines.present = false → exec (.coverChange t b) s =
      .next (s.setTr t { tr with lines := { tr.lines with coverOpen := b } })) ∧
    (∀ b, exec (.reelPresentChange t .file b) s =
      .next (s.setTr t { tr with lines := { tr.lines with fileReel := b } })) ∧
    (∀ b, exec (.reelPresentChange t .machine b) s =
      .next (s.setTr t { tr with lines := { tr.lines with machineReel := b } }))

/-- R13, R14, R161: a change of OLS at a present transport sets the OFFLINE flag to the level and places ONLINE CHANGE,
with the new state, for the owning port or each UP port; nothing else changes. At an ABSENT transport only the level
changes. A transport becoming ABSENT only changes its level; one becoming present, with the cover CLOSED or the transport
UNLOADED and OLS as the flag has it, takes over the cover level; a differing OLS acts as its change. -/
def Obligations.OnlineAndPresenceChanges : Prop :=
  ∀ (t : TransportId) (s : State), s.resetHold = none → let tr := s.tr t
    let told := fun (x : Transport) (b : Bool) (u : State) => u = { s.setTr t x with ports := u.ports } ∧
      ∀ p, u.port p = s.attended t 3 [if b then 1 else 0] p
    (∀ b, b ≠ tr.lines.offlineSwitch → b ≠ tr.sense.offline → tr.lines.present = true →
      ∃ u, exec (.onlineSwitchChange t b) s = .next u ∧
        told { tr with lines := { tr.lines with offlineSwitch := b }, sense := { tr.sense with offline := b } } b u) ∧
    (∀ b, tr.lines.present = false → exec (.onlineSwitchChange t b) s =
      .next (s.setTr t { tr with lines := { tr.lines with offlineSwitch := b } })) ∧
    (tr.lines.present = true → exec (.transportPresentChange t false) s =
      .next (s.setTr t { tr with lines := { tr.lines with present := false } })) ∧
    (tr.lines.present = false → tr.lines.coverOpen = false ∨ tr.condition = .unloaded →
      let back := { tr with
        lines := { tr.lines with present := true }, sense := { tr.sense with coverOpen := tr.lines.coverOpen } }
      (tr.sense.offline = tr.lines.offlineSwitch → exec (.transportPresentChange t true) s = .next (s.setTr t back)) ∧
      (tr.sense.offline ≠ tr.lines.offlineSwitch → ∃ u, exec (.transportPresentChange t true) s = .next u ∧
        told { back with sense := { back.sense with offline := tr.lines.offlineSwitch } } tr.lines.offlineSwitch u))

/-! ### Faults -/

/-- R5, R6, R12, R69, R76, R89, R107 to R111: each of these events makes the fault stop of its cause at a transport that
is neither UNLOADED nor FAULTED; a command that names a run or a timer as full is taken at its word (log 2). On each
port the ABORTED endings of the current order and of the queue, the FAULT STOP attention and the DONE of a pending
release (its unit byte: log 47) are placed in the order of R110, and the snapshot holds what stood before, the current
order and R among it; the other transports stay as they were unless the blower changes in the event (FaultStopped). A
servo sample at a LOADED transport in TRACK makes it too: TAPE BREAK where a zero run reaches 2, otherwise COLUMN END
where an end-switch run does, the demands being those of the sample before (log 40); DRIVE SATURATION where a saturation
run reaches SAT_LIMIT, with the demands of this sample. At a FAULTED transport a cover that opens only adds to the
further-fault count (R113). -/
def Obligations.FaultStopFollowsItsCause : Prop :=
  ∀ (t : TransportId) (s : State), let tr := s.tr t
    (tr.condition ≠ .unloaded → tr.condition ≠ .faulted → s.FreeToLetGo t →
      (tr.lines.present = true → tr.lines.coverOpen = false →
        ∃ u, exec (.coverChange t true) s = .next u ∧ s.FaultStopped u t .coverOpen) ∧
      (∀ x : Reel, tr.condition = .loaded ∨ (tr.condition = .loading ∧
          (tr.load.step = some .draw ∨ tr.load.step = some .search)) → (tr.sense.columns.get x).tapeSeen = true →
        (∃ u, exec (.tapeBreak t x) s = .next u ∧ s.FaultStopped u t .tapeBreak) ∧
        ∀ e, ∃ u, exec (.columnEnd t x e) s = .next u ∧ s.FaultStopped u t .columnEnd) ∧
      (∀ x, tr.servo.mode = .track → ∃ u, exec (.driveSaturation t x) s = .next u ∧ s.FaultStopped u t .driveSaturation) ∧
      (tr.servo.loopGuard ≠ none → ∃ u, exec (.loopGuardTimerExpiry t) s = .next u ∧ s.FaultStopped u t .recoveryTimeout) ∧
      (tr.hold.timer ≠ none → ∃ u, exec (.recoveryTimerExpiry t) s = .next u ∧ s.FaultStopped u t .recoveryTimeout) ∧
      (∀ l : LoopReading, tr.condition = .loaded → tr.brakesEngaged = false → tr.sense.columns.file.tapeSeen = true →
        tr.sense.columns.machine.tapeSeen = true →
        let c := s.servoOf t
        let f := tr.sense.columns.file
        let m := tr.sense.columns.machine
        let file := tr.servo.reels.file
        let machine := tr.servo.reels.machine
        let gain : Int := if tr.hold.active = some .loopGuard then c.kpRec else c.kp
        let targetF := (tr.engine.v * c.gFF).tdiv (16 * file.radius) + (gain * ((c.setpoint : Int) - l.flp.toNat)).tdiv 4
        let targetM := (tr.engine.v * c.gFF).tdiv (16 * machine.radius) + (gain * ((l.mlp.toNat : Int) - c.setpoint)).tdiv 4
        let out := fun (last target : Int) =>
          last + max (-(c.slew : Int)) (min c.slew (max (-2047) (min 2047 target) - last))
        let read := { tr with sense := { tr.sense with depths := { file := l.flp.toNat, machine := l.mlp.toNat } } }
        let broken := (l.flp = 0 ∧ 1 ≤ f.zeroRun) ∨ (l.mlp = 0 ∧ 1 ≤ m.zeroRun)
        let ended := (l.fue = true ∧ 1 ≤ f.upperRun) ∨ (l.fle = true ∧ 1 ≤ f.lowerRun) ∨
          (l.mue = true ∧ 1 ≤ m.upperRun) ∨ (l.mle = true ∧ 1 ≤ m.lowerRun)
        (targetF.natAbs ≤ 2047 → targetM.natAbs ≤ 2047 → broken → ∃ u, exec (.servoSample t l) s = .next u ∧
          (s.setTr t read).FaultStopped u t .tapeBreak) ∧
        (targetF.natAbs ≤ 2047 → targetM.natAbs ≤ 2047 → ¬ broken → ended → ∃ u, exec (.servoSample t l) s = .next u ∧
          (s.setTr t read).FaultStopped u t .columnEnd) ∧
        (¬ broken → ¬ ended → (2047 < targetF.natAbs ∧ c.satLimit ≤ min 255 (file.satRun + 1)) ∨
            (2047 < targetM.natAbs ∧ c.satLimit ≤ min 255 (machine.satRun + 1)) →
          ∃ u, exec (.servoSample t l) s = .next u ∧ (s.setTr t { read with servo := { tr.servo with
            reels := { file := { file with demand := out file.demand targetF }
                       machine := { machine with demand := out machine.demand targetM } } } }).FaultStopped u t
              .driveSaturation))) ∧
    (∀ x, tr.condition = .faulted → tr.lines.present = true → tr.lines.coverOpen = false → tr.snapshot = some x →
      exec (.coverChange t true) s = .next (s.setTr t { tr with
        lines := { tr.lines with coverOpen := true }, sense := { tr.sense with coverOpen := true }
        snapshot := some { x with further := min 255 (x.further + 1) } }))

/-- R118: the faults counter of a transport. Each fault stop adds 1 to that transport's counter, saturating at 65,535; a
further fault does not; READ COUNTERS reports it, two bytes at offset 22, 30, 38 or 46, and clears it with the clear flag;
both resets leave 0. -/
def Obligations.FaultsCounterCountsFaultStops : Prop :=
  (∀ (t u : TransportId) (c : FaultCause) (s : State),
    (((handFault t c s).state).tr u).counters.faults =
      if u = t ∧ (s.tr t).condition ≠ .faulted then min 65535 ((s.tr u).counters.faults + 1)
      else (s.tr u).counters.faults) ∧
  (∀ (h : Head) (s : State), h.unit = 255 → s.Takes h.port [0] → ∃ b,
    exec (.readCounters h [0]) s = .next (s.answered h 0 b) ∧
      ∀ t, (b.drop (22 + 8 * (transportByte t).toNat)).take 2 = bytesOf 2 (s.tr t).counters.faults) ∧
  (∀ (h : Head) (s : State), h.unit = 255 → s.Takes h.port [1] → ∃ u,
    exec (.readCounters h [1]) s = .next u ∧ ∀ t, (u.tr t).counters.faults = 0) ∧
  (∀ s, ∃ u, exec .hardReset s = .next u ∧ ∀ t, (u.tr t).counters.faults = 0) ∧
  (∀ (h : Head) (s : State), h.unit = 255 → s.Takes h.port [] → ∃ u,
    exec (.partReset h) s = .next u ∧ ∀ t, (u.tr t).counters.faults = 0)

/-- R58, R60: a tach-loss detection with the velocity not 0. In ACCEL and CRUISE the phase becomes DECEL and the grant is
given up; in DECEL and HOLD DECEL the phase stays. The end reason becomes TACH unless one stands, the tach state
DETECTED, the timer stops and the counter rises. A rest reached with the state DETECTED is the fault TACH LOSS. -/
def Obligations.TachLossForcesAStop : Prop :=
  ∀ (t : TransportId) (m : Motion) (s : State), (s.tr t).motion = some m → let tr := s.tr t
    let lost := { tr with
      motion := some { m with endReason := some (m.endReason.getD .tach) }
      engine := { tr.engine with tach := .detected, tachTimer := none }
      load := { tr.load with tachOutcome := tr.load.outcome }
      counters := { tr.counters with tachLosses := min 65535 (tr.counters.tachLosses + 1) } }
    (tr.engine.tachTimer ≠ none → tr.engine.v ≠ 0 →
      (tr.phase = .accel ∨ tr.phase = .cruise → s.FreeToLetGo t →
        exec (.tachLossDetection t) s = .next ((s.setTr t { lost with phase := .decel }).letGo t)) ∧
      (tr.phase = .decel ∨ tr.phase = .holdDecel → exec (.tachLossDetection t) s = .next (s.setTr t lost))) ∧
    (tr.condition = .loaded → tr.engine.stepTimer = true → tr.phase = .decel ∨ tr.phase = .holdDecel →
      tr.engine.tach = .detected → tr.engine.v.natAbs ≤ m.copy.aDec → s.FreeToLetGo t →
        ∃ u, exec (.rampStep t) s = .next u ∧ (u.tr t).condition = .faulted ∧ (u.tr t).faultCause = some .tachLoss ∧
          (u.tr t).brakesEngaged = true ∧ (u.tr t).motion = none)

/-! ### Load Control -/

/-- R145, R146, R149, R155: the expiries of Load Control. In the VACUUM and the DRAW step the
LOAD ends LOAD FAILED (0x2B) with its step, in WIND the UNLOAD ends DONE and the records of the queue end NOT LOADED
(0x23) behind it; each response goes to the port of its order. The transport enters UNLOADED, and no other transport, no
owner and no table changes before a pending release takes effect behind these responses (R40, R168; relieved: log 47) and
the blower follows (BlowerFollowsTheTransports). -/
def Obligations.LoadAndUnloadExpiries : Prop :=
  ∀ (t : TransportId) (p : PortId) (s : State), (s.tr t).load.timer ≠ none → let tr := s.tr t
    let after := fun (w : State) (sent : PortId → List OutFrame) =>
      tr.EntersUnloaded (w.tr t) ∧ (w.tr t).motion = none ∧ (∀ u, u ≠ t → w.tr u = s.tr u) ∧
      w.owners = s.owners ∧ w.tables = s.tables ∧ w.arbiter = s.arbiter ∧ w.vacuum = s.vacuum ∧
      ∀ q, w.port q = { s.port q with tx := (s.port q).tx ++ if (s.port q).up then sent q else [] }
    (∀ g, tr.condition = .loading → tr.load.record = some { origin := .port p, tag := g } →
      let failed := fun (x : LoadStep) (q : PortId) => if q = p then [s.ending t p none g 0x2B none none (some x)] else []
      (tr.load.step = some .vacuum →
        ∃ w : State, exec (.vacuumStepExpiry t) s = .next (reviewVacuum (w.relieved t)) ∧ after w (failed .vacuum)) ∧
      (tr.load.step = some .draw →
        ∃ w : State, exec (.drawLimitExpiry t) s = .next (reviewVacuum (w.relieved t)) ∧ after w (failed .draw))) ∧
    (∀ m, tr.condition = .unloading → tr.motion = some m → m.kind = .unload → m.origin = .port p →
      ∃ w : State, exec (.unloadWindExpiry t) s = .next (reviewVacuum (w.relieved t)) ∧ (w.tr t).queue = [] ∧
        after w (fun q => (if q = p then [s.ending t p m.arrivalUnit m.tag 0 none none none] else []) ++
          (tr.queue.filter (fun x => x.origin = .port q)).map
            (fun x => s.ending t q x.arrivalUnit x.tag 0x23 none none none)))

/-- R148, R153: the search counter reaches the BOT search limit, in the search of a LOAD and in FORWARD CREEP. With no
outcome yet the outcome becomes LIMIT; in ACCEL and CRUISE the phase becomes DECEL without an end reason and the grant
is given up, in DECEL, HOLD DECEL and HELD the phase stays. In a waiting phase, here with an empty queue, the LOAD ends
NO BOT at once, LOADED and unreferenced (log 45), as does a REWIND or UNLOAD, with the position as it stands (log 17),
and a pending release takes effect behind it (R40, R168; log 47). An outcome that stands is kept, and elsewhere nothing
happens, which is the model's reading of an event that names its count as reached (logs 2 and 36). -/
def Obligations.SearchLimitDecidesTheSearch : Prop :=
  ∀ (t : TransportId) (m : Motion) (s : State), (s.tr t).current = some m → let tr := s.tr t
    let searches := (tr.condition = .loading ∧ tr.load.step = some .search) ∨
      (tr.condition = .loaded ∧ tr.load.step = some .forwardCreep ∧ m.endReason ≠ some .bot)
    let limited := { tr with load := { tr.load with outcome := .limit } }
    (searches → tr.load.outcome = .none → tr.phase = .accel ∨ tr.phase = .cruise → s.FreeToLetGo t →
      exec (.searchLimitReached t) s = .next ((s.setTr t { limited with phase := .decel }).letGo t)) ∧
    (searches → tr.load.outcome = .none → tr.phase = .decel ∨ tr.phase = .holdDecel ∨ tr.phase = .held →
      exec (.searchLimitReached t) s = .next (s.setTr t limited)) ∧
    (searches → tr.load.outcome = .none → tr.phase = .waitVacuum ∨ tr.phase = .waitGrant → tr.engine.grant ≠ .held →
      tr.motion = some m → tr.hold.slot1 = .free → tr.queue = [] →
      let u := (s.setTr t limited).withdrawn t
      ∃ w : State, exec (.searchLimitReached t) s = .next (reviewVacuum (w.relieved t)) ∧
        w = { (if tr.condition = .loading then u.loadEnded t 4
            else (u.setTr t { u.tr t with phase := .stopped }).orderGone t) with ports := w.ports } ∧
        ∀ q, w.port q = (s.port q).sent (if tr.condition = .loading then (s.loadMarked t 4).loadEnding t q 4 none
          else s.endingOf t q m 4 none)) ∧
    (¬ searches ∨ tr.load.outcome ≠ .none → exec (.searchLimitReached t) s = .next s)

/-- R8, R9, R56, R148, R152, R153, R161: a marker run that reaches Q outside UNLOADED. The command is taken at its word,
and the run count becomes the greater of itself and Q, which is the model's choice (logs 2 and 36). A reverse EOT
crossing clears the past-EOT flag and the EOT point; a forward one sets them at the edge stamp and places EOT CROSSED. A
forward BOT crossing references the position and moves all it holds back by the edge stamp. It decides the search of a
LOAD, BOT FOUND over any earlier outcome (log 28): a DECEL without an end reason in ACCEL and CRUISE, the outcome alone
in a deceleration and in HELD, the LOAD's end at once in a waiting phase. In FORWARD CREEP it sets the end reason BOT,
whatever the outcome, LIMIT among them (log 46), unless one stands, with a DECEL in ACCEL and CRUISE, in a deceleration
and in slot 1; in a waiting phase a REWIND ends AT BOT at once and an UNLOAD begins WIND (log 16). A reverse BOT
crossing is recorded; of a reverse MOVE it begins a DECEL with end reason BOT in ACCEL and CRUISE, sets that reason in
HOLD DECEL and in slot 1, ends the order AT BOT in a waiting phase and does nothing else in DECEL; a REWIND or UNLOAD in
REVERSE or REVERSE CREEP goes on in CLEARING; other motions are not touched. Endings come here with an empty queue, and
a pending release takes effect behind them (R40, R168; log 47). -/
def Obligations.MarkerCrossingsAreActedOn : Prop :=
  ∀ (t : TransportId) (k : Marker) (s : State), let tr := s.tr t
    let run := tr.sense.run k
    let pos := tr.sense.position
    let done : MarkerRun := { run with count := max run.count (s.servoOf t).q, qualified := true }
    let at_ := fun (x : Position) => { tr with sense := { tr.sense.setRun k done with position := x } }
    let back := fun (x : Int) => max (-131072) (min 16777215 (x - run.edge))
    let moves := tr.phase = .accel ∨ tr.phase = .cruise
    let slows := tr.phase = .decel ∨ tr.phase = .holdDecel
    let waits := (tr.phase = .waitVacuum ∨ tr.phase = .waitGrant) ∧ tr.engine.grant ≠ .held
    let ends := fun (x : Transport) (m : Motion) => tr.queue = [] → tr.condition = .loaded →
      let u := (s.setTr t x).withdrawn t
      ∃ w : State, exec (.markerCrossingQualified t k) s = .next (reviewVacuum (w.relieved t)) ∧
        w = { (u.setTr t { u.tr t with phase := .stopped }).orderGone t with ports := w.ports } ∧
        ∀ q, w.port q = (s.port q).sent ((s.setTr t x).endingOf t q m 2 none)
    tr.condition ≠ .unloaded → run.count ≠ 0 → run.qualified = false →
    (k = .eot → run.direction = .reverse → exec (.markerCrossingQualified t k) s = .next (s.setTr t
      (at_ { pos with pastEot := false, eotPoint := none, lastEot := some { position := run.edge, direction := .reverse } }))) ∧
    (k = .eot → run.direction = .forward → s.resetHold = none → ∃ u, exec (.markerCrossingQualified t k) s = .next u ∧
      u = { s.setTr t (at_ { pos with
        pastEot := true, eotPoint := some run.edge
        lastEot := some { position := run.edge, direction := .forward } }) with ports := u.ports } ∧
      ∀ p, u.port p = s.attended t 1 (bytesOf 4 run.edge) p) ∧
    (k = .bot → run.direction = .forward →
      let found := at_ {
        referenced := true, count := back pos.count, pastEot := pos.pastEot, eotPoint := pos.eotPoint.map back
        lastBot := some { position := 0, direction := .forward }
        lastEot := pos.lastEot.map (fun c => { c with position := back c.position }) }
      (tr.condition ≠ .loading ∨ tr.load.step ≠ some .search → tr.load.step ≠ some .forwardCreep →
        exec (.markerCrossingQualified t k) s = .next (s.setTr t found)) ∧
      (tr.condition = .loading → tr.load.step = some .search → tr.current ≠ none →
        let decided := { found with load := { tr.load with outcome := .botFound } }
        (moves → s.FreeToLetGo t →
          exec (.markerCrossingQualified t k) s = .next ((s.setTr t { decided with phase := .decel }).letGo t)) ∧
        (slows ∨ tr.phase = .held → exec (.markerCrossingQualified t k) s = .next (s.setTr t decided)) ∧
        (waits → tr.hold.slot1 = .free → tr.queue = [] → ∃ w : State,
          exec (.markerCrossingQualified t k) s = .next (reviewVacuum (w.relieved t)) ∧
          w = { ((s.setTr t found).withdrawn t).loadEnded t 0 with ports := w.ports } ∧
          ∀ q, w.port q = (s.port q).sent ((s.setTr t found).loadEnding t q 0 none))) ∧
      (∀ m, tr.condition = .loaded → tr.load.step = some .forwardCreep →
        let ended := { m with endReason := some (m.endReason.getD .bot) }
        (tr.motion = some m → moves → s.FreeToLetGo t → exec (.markerCrossingQualified t k) s =
          .next ((s.setTr t { found with phase := .decel, motion := some ended }).letGo t)) ∧
        (tr.motion = some m → slows →
          exec (.markerCrossingQualified t k) s = .next (s.setTr t { found with motion := some ended })) ∧
        (tr.motion = none → tr.hold.slot1 = .saved m → tr.phase = .held → exec (.markerCrossingQualified t k) s =
          .next (s.setTr t { found with hold := { tr.hold with slot1 := .saved ended } })) ∧
        (tr.motion = some m → waits → m.kind ≠ .unload → ends found m) ∧
        (tr.motion = some m → waits → m.kind = .unload → exec (.markerCrossingQualified t k) s =
          .next (reviewVacuum (((s.setTr t { found with motion := some ended }).withdrawn t).windBegun t))))) ∧
    (k = .bot → run.direction = .reverse →
      let seen := at_ { pos with lastBot := some { position := run.edge, direction := .reverse } }
      (tr.current = none → exec (.markerCrossingQualified t k) s = .next (s.setTr t seen)) ∧
      (∀ m, tr.current = some m → m.kind = .load ∨ (m.kind = .move ∧ m.direction = .forward) →
        exec (.markerCrossingQualified t k) s = .next (s.setTr t seen)) ∧
      (∀ m, m.kind = .move → m.direction = .reverse →
        let ended := { m with endReason := some (m.endReason.getD .bot) }
        (tr.motion = some m → moves → s.FreeToLetGo t → exec (.markerCrossingQualified t k) s =
          .next ((s.setTr t { seen with phase := .decel, motion := some ended }).letGo t)) ∧
        (tr.motion = some m → tr.phase = .decel → exec (.markerCrossingQualified t k) s = .next (s.setTr t seen)) ∧
        (tr.motion = some m → tr.phase = .holdDecel →
          exec (.markerCrossingQualified t k) s = .next (s.setTr t { seen with motion := some ended })) ∧
        (tr.motion = none → tr.hold.slot1 = .saved m → tr.phase = .held → exec (.markerCrossingQualified t k) s =
          .next (s.setTr t { seen with hold := { tr.hold with slot1 := .saved ended } })) ∧
        (tr.motion = some m → waits → ends seen m)) ∧
      (∀ m, tr.current = some m → m.kind = .rewind ∨ m.kind = .unload →
        exec (.markerCrossingQualified t k) s = .next (s.setTr t
          (if tr.load.step = some .reverse ∨ tr.load.step = some .reverseCreep then
            { seen with load := { tr.load with step := some .clearing, markerCleared := false } }
          else seen))))

/-- R89, R98 to R100, R148, R153, R154: the settle count of an active LOOP GUARD recovery, alone in service, reaches its
goal. With a PAUSE pending that cause enters service. Otherwise slot 1 is popped. An empty context leaves the transport
STOPPED. A saved MOVE with nothing left to go ends DONE, one with end reason BOT AT BOT, one at a tape limit EOT LIMIT or
AT BOT, with its R as the stop error. A saved REWIND with end reason BOT ends AT BOT and an UNLOAD begins WIND; one whose
search reached its limit ends NO BOT (the order of the two: log 46). A LOAD with a search outcome ends LOADED with its
status, unreferenced after NO BOT (log 45). Any other order starts from rest again, here with READY false: it waits in WAIT
VACUUM, a REWIND, UNLOAD or LOAD with the working top speed of its sub-step. Endings come here with an empty queue, and a
pending release takes effect behind them (R40, R168; log 47). With another recovery active, or none, nothing happens,
which is the model's choice (log 36). -/
def Obligations.RecoverySettledEndsTheRecovery : Prop :=
  ∀ (t : TransportId) (s : State), let tr := s.tr t
    let h := tr.hold
    (h.active ≠ some .loopGuard → exec (.recoverySettled t) s = .next s) ∧
    (h.active = some .loopGuard → h.inService = noRanks.put .loopGuard true → h.slot2 = none →
      let ended := { h with inService := noRanks, active := none, settle := 0, timer := none }
      (h.pending = noRanks.put .pause true → exec (.recoverySettled t) s = .next (s.setTr t { tr with
        hold := { ended with pending := noRanks, inService := noRanks.put .pause true, active := some .pause } })) ∧
      (h.pending = noRanks → h.slot1 = .emptyContext → tr.queue = [] → tr.condition = .loaded ∨ tr.release = none →
        exec (.recoverySettled t) s = .next (reviewVacuum
          ((s.setTr t { tr with phase := .stopped, hold := { ended with slot1 := .free } }).relieved t))) ∧
      (∀ m, h.pending = noRanks → h.slot1 = .saved m →
        let u := s.setTr t { tr with motion := some m, hold := { ended with slot1 := .free } }
        let ends := fun (code : Byte) => tr.queue = [] → tr.condition = .loaded →
          ∃ w : State, exec (.recoverySettled t) s = .next (reviewVacuum (w.relieved t)) ∧
            w = { (u.setTr t { u.tr t with phase := .stopped }).orderGone t with ports := w.ports } ∧
            ∀ q, w.port q = (s.port q).sent (s.endingOf t q m code none)
        let bot := m.endReason = some .bot
        let left := ∀ r, m.r = some r → 0 < r
        (m.kind = .move → ¬ left → ends 0) ∧
        (m.kind = .move → left → bot → ends 2) ∧
        (∀ code, m.kind = .move → left → ¬ bot → s.LimitMet t m.direction code → ends code) ∧
        (m.kind = .rewind → bot → ends 2) ∧
        (m.kind = .unload → bot → exec (.recoverySettled t) s = .next (reviewVacuum (u.windBegun t))) ∧
        (m.kind = .rewind ∨ m.kind = .unload → ¬ bot → tr.load.outcome = .limit → ends 4) ∧
        (∀ code, m.kind = .load → tr.load.outcome ≠ .none → tr.queue = [] →
          code = (match tr.load.outcome with | .limit => 4 | .eot => 3 | .botFound | .none => 0 : Byte) →
          ∃ w : State, exec (.recoverySettled t) s = .next (reviewVacuum (w.relieved t)) ∧
            w = { u.loadEnded t code with ports := w.ports } ∧
            ∀ q, w.port q = (s.port q).sent ((s.loadMarked t code).loadEnding t q code none)) ∧
        ((m.kind = .move → left ∧ ¬ bot ∧ ∀ code, ¬ s.LimitMet t m.direction code) →
          (m.kind = .rewind ∨ m.kind = .unload → ¬ bot ∧ tr.load.outcome ≠ .limit) →
          (m.kind = .load → tr.load.outcome = .none) → s.vacuum.ready = false →
          exec (.recoverySettled t) s = .next (u.setTr t { u.tr t with
            phase := .waitVacuum
            engine := { tr.engine with
              workTop := if m.kind = .move then tr.engine.workTop else some (s.topFor t m tr.load.step) } }))))

/-! ### Links -/

/-- R158, R160, R169, R183: CARRIER_UP at a DOWN port makes it UP with the RESERVATION LOST attentions held for it, T0
first, in an empty queue, and none held; CARRIER_DOWN empties the queue; each leaves nothing of a frame that was arriving,
so that the receiver hunts (log 30). TRANSMISSION_END takes the head of an UP port's queue. At a port that stands so
already, and at a DOWN port, nothing changes (log 34). Bytes received on an UP port go through the receiver, and the
commands they complete join the waiting ones; on a DOWN port they change nothing. -/
def Obligations.CarrierAndTransmissionEnd : Prop :=
  ∀ (p : PortId) (s : State), let x := s.port p
    let lost := fun (t : TransportId) => if x.heldLost.get t then
      [({ kind := .attention, unit := lowestUnit x.unitMap t, tag := 0, code := 4, body := [transportByte t] } : OutFrame)]
      else []
    (x.up = false → s.resetHold = none → exec (.carrierUp p) s = .next (s.setPort p { x with
      up := true, rx := none, tx := lost .t0 ++ lost .t1 ++ lost .t2 ++ lost .t3
      heldLost := { t0 := false, t1 := false, t2 := false, t3 := false } })) ∧
    (x.up = true → exec (.carrierDown p) s = .next (s.setPort p { x with up := false, rx := none, tx := [] }) ∧
      exec (.transmissionEnd p) s = .next (s.setPort p { x with tx := x.tx.tail }) ∧ exec (.carrierUp p) s = .next s) ∧
    (x.up = false → exec (.carrierDown p) s = .next s ∧ exec (.transmissionEnd p) s = .next s) ∧
    (∀ bytes, bytes.foldl (fun u b => u.receive p b) s =
      if x.up = true then
        { s.setPort p { x with rx := (receiveBytes p x.rx bytes).1 } with
          pending := s.pending ++ (receiveBytes p x.rx bytes).2 }
      else s)
end

