-- ==== Sys2Proof/Laws/State.lean ====
section
/-! SUPPORT. One lemma per field per update, so that later proofs do not unfold the updates. -/

namespace Sys2Proof.Machine

/-! ### One of several -/

theorem Quad.get_set {α : Type} (q : Quad α) (t u : TransportId) (x : α) :
    (q.set t x).get u = if u = t then x else q.get u := by
  cases t <;> cases u <;> rfl

@[simp] theorem Quad.get_set_self {α : Type} (q : Quad α) (t : TransportId) (x : α) : (q.set t x).get t = x := by
  cases t <;> rfl

theorem Quad.get_set_ne {α : Type} (q : Quad α) {t u : TransportId} (x : α) (h : u ≠ t) :
    (q.set t x).get u = q.get u := by
  simp [Quad.get_set, h]

@[simp] theorem Quad.set_get {α : Type} (q : Quad α) (t : TransportId) : q.set t (q.get t) = q := by
  cases t <;> rfl

@[simp] theorem Quad.set_set {α : Type} (q : Quad α) (t : TransportId) (x y : α) : (q.set t x).set t y = q.set t y := by
  cases t <;> rfl

@[simp] theorem Quad.get_all {α : Type} (x : α) (t : TransportId) : (Quad.all x).get t = x := by cases t <;> rfl

theorem Quad.ext_get {α : Type} {q r : Quad α} (h : ∀ t, q.get t = r.get t) : q = r := by
  cases q; cases r
  have h0 := h .t0; have h1 := h .t1; have h2 := h .t2; have h3 := h .t3
  simp_all [Quad.get]

theorem PerPort.get_set {α : Type} (q : PerPort α) (p r : PortId) (x : α) :
    (q.set p x).get r = if r = p then x else q.get r := by
  cases p <;> cases r <;> rfl

@[simp] theorem PerPort.get_set_self {α : Type} (q : PerPort α) (p : PortId) (x : α) : (q.set p x).get p = x := by
  cases p <;> rfl

@[simp] theorem PerPort.set_get {α : Type} (q : PerPort α) (p : PortId) : q.set p (q.get p) = q := by
  cases p <;> rfl

@[simp] theorem PerPort.set_set {α : Type} (q : PerPort α) (p : PortId) (x y : α) : (q.set p x).set p y = q.set p y := by
  cases p <;> rfl

theorem PerReel.get_set {α : Type} (q : PerReel α) (a b : Reel) (x : α) :
    (q.set a x).get b = if b = a then x else q.get b := by
  cases a <;> cases b <;> rfl

@[simp] theorem PerReel.get_set_self {α : Type} (q : PerReel α) (a : Reel) (x : α) : (q.set a x).get a = x := by
  cases a <;> rfl

theorem RankSet.has_put (x : RankSet) (a b : Rank) (v : Bool) : (x.put a v).has b = if b = a then v else x.has b := by
  cases a <;> cases b <;> rfl

/-! ### Updates of one transport, port or owner -/

theorem State.tr_setTr (s : State) (t u : TransportId) (x : Transport) :
    (s.setTr t x).tr u = if u = t then x else s.tr u := Quad.get_set ..

@[simp] theorem State.tr_setTr_self (s : State) (t : TransportId) (x : Transport) : (s.setTr t x).tr t = x :=
  Quad.get_set_self ..

theorem State.tr_setTr_ne (s : State) {t u : TransportId} (x : Transport) (h : u ≠ t) : (s.setTr t x).tr u = s.tr u :=
  Quad.get_set_ne _ _ h

@[simp] theorem State.setTr_tr (s : State) (t : TransportId) : s.setTr t (s.tr t) = s := by
  simp [State.setTr, State.tr]

@[simp] theorem State.setTr_setTr (s : State) (t : TransportId) (x y : Transport) :
    (s.setTr t x).setTr t y = s.setTr t y := by
  simp [State.setTr]

theorem State.port_setPort (s : State) (p r : PortId) (x : Port) :
    (s.setPort p x).port r = if r = p then x else s.port r := PerPort.get_set ..

@[simp] theorem State.port_setPort_self (s : State) (p : PortId) (x : Port) : (s.setPort p x).port p = x :=
  PerPort.get_set_self ..

@[simp] theorem State.setPort_port (s : State) (p : PortId) : s.setPort p (s.port p) = s := by
  simp [State.setPort, State.port]

theorem State.owner_setOwner (s : State) (t u : TransportId) (o : Option PortId) :
    (s.setOwner t o).owner u = if u = t then o else s.owner u := Quad.get_set ..

@[simp] theorem State.owner_setOwner_self (s : State) (t : TransportId) (o : Option PortId) :
    (s.setOwner t o).owner t = o := Quad.get_set_self ..

@[simp] theorem State.setTr_ports (s : State) (t : TransportId) (x : Transport) : (s.setTr t x).ports = s.ports := rfl
@[simp] theorem State.setTr_owners (s : State) (t : TransportId) (x : Transport) : (s.setTr t x).owners = s.owners := rfl
@[simp] theorem State.setTr_arbiter (s : State) (t : TransportId) (x : Transport) : (s.setTr t x).arbiter = s.arbiter := rfl
@[simp] theorem State.setTr_vacuum (s : State) (t : TransportId) (x : Transport) : (s.setTr t x).vacuum = s.vacuum := rfl
@[simp] theorem State.setTr_tables (s : State) (t : TransportId) (x : Transport) : (s.setTr t x).tables = s.tables := rfl
@[simp] theorem State.setTr_monitor (s : State) (t : TransportId) (x : Transport) : (s.setTr t x).monitor = s.monitor := rfl
@[simp] theorem State.setTr_resetHold (s : State) (t : TransportId) (x : Transport) : (s.setTr t x).resetHold = s.resetHold := rfl
@[simp] theorem State.setTr_clock (s : State) (t : TransportId) (x : Transport) : (s.setTr t x).clock = s.clock := rfl
@[simp] theorem State.setTr_freeCount (s : State) (t : TransportId) (x : Transport) : (s.setTr t x).freeCount = s.freeCount := rfl
@[simp] theorem State.setTr_pending (s : State) (t : TransportId) (x : Transport) : (s.setTr t x).pending = s.pending := rfl

@[simp] theorem State.setPort_transports (s : State) (p : PortId) (x : Port) : (s.setPort p x).transports = s.transports := rfl
@[simp] theorem State.setPort_owners (s : State) (p : PortId) (x : Port) : (s.setPort p x).owners = s.owners := rfl
@[simp] theorem State.setPort_arbiter (s : State) (p : PortId) (x : Port) : (s.setPort p x).arbiter = s.arbiter := rfl
@[simp] theorem State.setPort_vacuum (s : State) (p : PortId) (x : Port) : (s.setPort p x).vacuum = s.vacuum := rfl
@[simp] theorem State.setPort_tables (s : State) (p : PortId) (x : Port) : (s.setPort p x).tables = s.tables := rfl
@[simp] theorem State.setPort_monitor (s : State) (p : PortId) (x : Port) : (s.setPort p x).monitor = s.monitor := rfl
@[simp] theorem State.setPort_resetHold (s : State) (p : PortId) (x : Port) : (s.setPort p x).resetHold = s.resetHold := rfl
@[simp] theorem State.setPort_clock (s : State) (p : PortId) (x : Port) : (s.setPort p x).clock = s.clock := rfl
@[simp] theorem State.setPort_freeCount (s : State) (p : PortId) (x : Port) : (s.setPort p x).freeCount = s.freeCount := rfl
@[simp] theorem State.setPort_pending (s : State) (p : PortId) (x : Port) : (s.setPort p x).pending = s.pending := rfl

@[simp] theorem State.setOwner_transports (s : State) (t : TransportId) (o : Option PortId) : (s.setOwner t o).transports = s.transports := rfl
@[simp] theorem State.setOwner_ports (s : State) (t : TransportId) (o : Option PortId) : (s.setOwner t o).ports = s.ports := rfl
@[simp] theorem State.setOwner_arbiter (s : State) (t : TransportId) (o : Option PortId) : (s.setOwner t o).arbiter = s.arbiter := rfl
@[simp] theorem State.setOwner_vacuum (s : State) (t : TransportId) (o : Option PortId) : (s.setOwner t o).vacuum = s.vacuum := rfl
@[simp] theorem State.setOwner_tables (s : State) (t : TransportId) (o : Option PortId) : (s.setOwner t o).tables = s.tables := rfl
@[simp] theorem State.setOwner_monitor (s : State) (t : TransportId) (o : Option PortId) : (s.setOwner t o).monitor = s.monitor := rfl
@[simp] theorem State.setOwner_resetHold (s : State) (t : TransportId) (o : Option PortId) : (s.setOwner t o).resetHold = s.resetHold := rfl
@[simp] theorem State.setOwner_clock (s : State) (t : TransportId) (o : Option PortId) : (s.setOwner t o).clock = s.clock := rfl
@[simp] theorem State.setOwner_freeCount (s : State) (t : TransportId) (o : Option PortId) : (s.setOwner t o).freeCount = s.freeCount := rfl
@[simp] theorem State.setOwner_pending (s : State) (t : TransportId) (o : Option PortId) : (s.setOwner t o).pending = s.pending := rfl

@[simp] theorem State.chose_transports (s : State) : (s.chose).transports = s.transports := rfl
@[simp] theorem State.chose_ports (s : State) : (s.chose).ports = s.ports := rfl
@[simp] theorem State.chose_owners (s : State) : (s.chose).owners = s.owners := rfl
@[simp] theorem State.chose_arbiter (s : State) : (s.chose).arbiter = s.arbiter := rfl
@[simp] theorem State.chose_vacuum (s : State) : (s.chose).vacuum = s.vacuum := rfl
@[simp] theorem State.chose_tables (s : State) : (s.chose).tables = s.tables := rfl
@[simp] theorem State.chose_monitor (s : State) : (s.chose).monitor = s.monitor := rfl
@[simp] theorem State.chose_resetHold (s : State) : (s.chose).resetHold = s.resetHold := rfl
@[simp] theorem State.chose_clock (s : State) : (s.chose).clock = s.clock := rfl
@[simp] theorem State.chose_pending (s : State) : (s.chose).pending = s.pending := rfl

@[simp] theorem State.port_setTr (s : State) (t : TransportId) (x : Transport) (r : PortId) : (s.setTr t x).port r = s.port r := rfl
@[simp] theorem State.owner_setTr (s : State) (t : TransportId) (x : Transport) (u : TransportId) : (s.setTr t x).owner u = s.owner u := rfl
@[simp] theorem State.servoOf_setTr (s : State) (t : TransportId) (x : Transport) (u : TransportId) : (s.setTr t x).servoOf u = s.servoOf u := rfl
@[simp] theorem State.receiveReady_setTr (s : State) (t : TransportId) (x : Transport) (r : PortId) : (s.setTr t x).receiveReady r = s.receiveReady r := rfl

@[simp] theorem State.tr_setPort (s : State) (p : PortId) (x : Port) (u : TransportId) : (s.setPort p x).tr u = s.tr u := rfl
@[simp] theorem State.owner_setPort (s : State) (p : PortId) (x : Port) (u : TransportId) : (s.setPort p x).owner u = s.owner u := rfl
@[simp] theorem State.servoOf_setPort (s : State) (p : PortId) (x : Port) (u : TransportId) : (s.setPort p x).servoOf u = s.servoOf u := rfl

@[simp] theorem State.tr_setOwner (s : State) (t : TransportId) (o : Option PortId) (u : TransportId) : (s.setOwner t o).tr u = s.tr u := rfl
@[simp] theorem State.port_setOwner (s : State) (t : TransportId) (o : Option PortId) (r : PortId) : (s.setOwner t o).port r = s.port r := rfl
@[simp] theorem State.servoOf_setOwner (s : State) (t : TransportId) (o : Option PortId) (u : TransportId) : (s.setOwner t o).servoOf u = s.servoOf u := rfl
@[simp] theorem State.receiveReady_setOwner (s : State) (t : TransportId) (o : Option PortId) (r : PortId) : (s.setOwner t o).receiveReady r = s.receiveReady r := rfl

@[simp] theorem State.tr_chose (s : State) (u : TransportId) : (s.chose).tr u = s.tr u := rfl
@[simp] theorem State.port_chose (s : State) (r : PortId) : (s.chose).port r = s.port r := rfl
@[simp] theorem State.owner_chose (s : State) (u : TransportId) : (s.chose).owner u = s.owner u := rfl
@[simp] theorem State.servoOf_chose (s : State) (u : TransportId) : (s.chose).servoOf u = s.servoOf u := rfl
@[simp] theorem State.receiveReady_chose (s : State) (r : PortId) : (s.chose).receiveReady r = s.receiveReady r := rfl

@[simp] theorem State.tr_arbiter (s : State) (x : Arbiter) (u : TransportId) : ({ s with arbiter := x } : State).tr u = s.tr u := rfl
@[simp] theorem State.port_arbiter (s : State) (x : Arbiter) (r : PortId) : ({ s with arbiter := x } : State).port r = s.port r := rfl
@[simp] theorem State.owner_arbiter (s : State) (x : Arbiter) (u : TransportId) : ({ s with arbiter := x } : State).owner u = s.owner u := rfl
@[simp] theorem State.servoOf_arbiter (s : State) (x : Arbiter) (u : TransportId) : ({ s with arbiter := x } : State).servoOf u = s.servoOf u := rfl
@[simp] theorem State.receiveReady_arbiter (s : State) (x : Arbiter) (r : PortId) : ({ s with arbiter := x } : State).receiveReady r = s.receiveReady r := rfl
@[simp] theorem State.tr_vacuum (s : State) (x : Vacuum) (u : TransportId) : ({ s with vacuum := x } : State).tr u = s.tr u := rfl
@[simp] theorem State.port_vacuum (s : State) (x : Vacuum) (r : PortId) : ({ s with vacuum := x } : State).port r = s.port r := rfl
@[simp] theorem State.owner_vacuum (s : State) (x : Vacuum) (u : TransportId) : ({ s with vacuum := x } : State).owner u = s.owner u := rfl
@[simp] theorem State.servoOf_vacuum (s : State) (x : Vacuum) (u : TransportId) : ({ s with vacuum := x } : State).servoOf u = s.servoOf u := rfl
@[simp] theorem State.receiveReady_vacuum (s : State) (x : Vacuum) (r : PortId) : ({ s with vacuum := x } : State).receiveReady r = s.receiveReady r := rfl
@[simp] theorem State.tr_tables (s : State) (x : Tables) (u : TransportId) : ({ s with tables := x } : State).tr u = s.tr u := rfl
@[simp] theorem State.port_tables (s : State) (x : Tables) (r : PortId) : ({ s with tables := x } : State).port r = s.port r := rfl
@[simp] theorem State.owner_tables (s : State) (x : Tables) (u : TransportId) : ({ s with tables := x } : State).owner u = s.owner u := rfl
@[simp] theorem State.receiveReady_tables (s : State) (x : Tables) (r : PortId) : ({ s with tables := x } : State).receiveReady r = s.receiveReady r := rfl
@[simp] theorem State.tr_monitor (s : State) (x : Monitor) (u : TransportId) : ({ s with monitor := x } : State).tr u = s.tr u := rfl
@[simp] theorem State.port_monitor (s : State) (x : Monitor) (r : PortId) : ({ s with monitor := x } : State).port r = s.port r := rfl
@[simp] theorem State.owner_monitor (s : State) (x : Monitor) (u : TransportId) : ({ s with monitor := x } : State).owner u = s.owner u := rfl
@[simp] theorem State.servoOf_monitor (s : State) (x : Monitor) (u : TransportId) : ({ s with monitor := x } : State).servoOf u = s.servoOf u := rfl
@[simp] theorem State.receiveReady_monitor (s : State) (x : Monitor) (r : PortId) : ({ s with monitor := x } : State).receiveReady r = s.receiveReady r := rfl

end Sys2Proof.Machine
end

