-- ==== Sys2Proof/Laws/Keeps.lean ====
section
/-! SUPPORT. What every hand-off inside an event keeps: the settings that only commands change, and the standing conditions of Safety.lean. Said once as a relation between the states before and after, with the lemmas for the primitive updates. -/

namespace Sys2Proof.Machine

/-! ### The settings that no hand-off changes -/

/-- What no hand-off changes at a transport. -/
structure FixedTransport where
  lines : Lines
  selected : Fin 16
  rights : Nat

/-- What no hand-off changes at a port. -/
structure FixedPort where
  up : Bool
  unitMap : Vector (Option TransportId) 16
  heldLost : Quad Bool
  received : Nat
  checkErrors : Nat
  refusals : Nat

/-- What no hand-off changes in the state. -/
structure Fixed where
  transports : Quad FixedTransport
  ports : PerPort FixedPort
  tables : Tables
  mode : VacuumMode
  loss : Nat
  sag : Nat
  run : Nat
  lastPressure : Nat
  limit : Nat
  measure : Measure
  watched : TransportId
  filter : Filter
  resetHold : Option ResetHold
  clock : Nat
  pending : List Instr

/-- The settings of a transport. -/
def Transport.fixed (tr : Transport) : FixedTransport :=
  { lines := tr.lines, selected := tr.selected, rights := tr.counters.rights }

/-- The settings of a port. -/
def Port.fixed (x : Port) : FixedPort :=
  { up := x.up, unitMap := x.unitMap, heldLost := x.heldLost, received := x.counters.received
    checkErrors := x.counters.checkErrors, refusals := x.counters.refusals }

/-- The settings of a state. -/
def State.fixed (s : State) : Fixed :=
  { transports := { t0 := s.transports.t0.fixed, t1 := s.transports.t1.fixed, t2 := s.transports.t2.fixed
                    t3 := s.transports.t3.fixed }
    ports := { a := s.ports.a.fixed, b := s.ports.b.fixed }
    tables := s.tables, mode := s.vacuum.mode, loss := s.vacuum.loss, sag := s.vacuum.sag, run := s.vacuum.run
    lastPressure := s.vacuum.lastPressure, limit := s.arbiter.limit, measure := s.monitor.measure
    watched := s.monitor.transport, filter := s.monitor.filter, resetHold := s.resetHold, clock := s.clock
    pending := s.pending }

theorem State.fixed_setTr {s : State} {t : TransportId} {x : Transport} (h : x.fixed = (s.tr t).fixed) :
    (s.setTr t x).fixed = s.fixed := by
  cases t <;> simp_all [State.fixed, State.setTr, State.tr, Quad.get, Quad.set]

theorem State.fixed_setPort {s : State} {p : PortId} {x : Port} (h : x.fixed = (s.port p).fixed) :
    (s.setPort p x).fixed = s.fixed := by
  cases p <;> simp_all [State.fixed, State.setPort, State.port, PerPort.get, PerPort.set]

theorem State.tr_fixed {s s' : State} (h : s'.fixed = s.fixed) (t : TransportId) :
    (s'.tr t).fixed = (s.tr t).fixed := by
  have h := congrArg Fixed.transports h
  cases t <;> simp_all [State.fixed, State.tr, Quad.get]

theorem State.port_fixed {s s' : State} (h : s'.fixed = s.fixed) (p : PortId) :
    (s'.port p).fixed = (s.port p).fixed := by
  have h := congrArg Fixed.ports h
  cases p <;> simp_all [State.fixed, State.port, PerPort.get]

/-! ### The relation -/

/-- The state after keeps what the state before had. -/
structure Keeps (s s' : State) : Prop where
  fixed : s'.fixed = s.fixed
  ranges : s.InRange → s'.InRange
  braked : s.Braked → s'.Braked
  vacuum : s.vacuum.Ordered → s'.vacuum.Ordered
  granted : s.Granted → s'.Granted

theorem Keeps.refl (s : State) : Keeps s s := ⟨rfl, id, id, id, id⟩

theorem Keeps.trans {a b c : State} (h : Keeps a b) (k : Keeps b c) : Keeps a c :=
  ⟨k.fixed.trans h.fixed, fun x => k.ranges (h.ranges x), fun x => k.braked (h.braked x),
    fun x => k.vacuum (h.vacuum x), fun x => k.granted (h.granted x)⟩

theorem Keeps.tables {s s' : State} (h : Keeps s s') : s'.tables = s.tables := congrArg Fixed.tables h.fixed

theorem Keeps.foldl {α : Type} {f : State → α → State} (h : ∀ s x, Keeps s (f s x)) (xs : List α) (s : State) :
    Keeps s (xs.foldl f s) := by
  induction xs generalizing s with
  | nil => exact .refl s
  | cons x xs ih => exact (h s x).trans (ih _)

/-- A transport replaced by one that keeps all of it. -/
theorem Keeps.setTr {s : State} {t : TransportId} {x : Transport} (hf : x.fixed = (s.tr t).fixed)
    (hr : s.InRange → x.InRange) (hb : (s.tr t).Braked → x.Braked)
    (hg : x.engine.grant = (s.tr t).engine.grant) : Keeps s (s.setTr t x) where
  fixed := State.fixed_setTr hf
  ranges h := ⟨fun u => by
    rw [State.tr_setTr]; split
    · exact hr h
    · exact h.transports u, h.records⟩
  braked h u := by
    rw [State.tr_setTr]; split
    · exact hb (h t)
    · exact h u
  vacuum := id
  granted h := by
    refine ⟨h.limit, fun u => ?_, fun u => ?_, h.order, h.once⟩
    · rw [State.tr_setTr]; split
      · subst u; rw [hg]; exact h.held t
      · exact h.held u
    · rw [State.tr_setTr]; split
      · subst u; rw [hg]; exact h.requested t
      · exact h.requested u

/-- A port replaced by one with the same settings. -/
theorem Keeps.setPort {s : State} {p : PortId} {x : Port} (h : x.fixed = (s.port p).fixed) : Keeps s (s.setPort p x) :=
  ⟨State.fixed_setPort h, fun h => ⟨h.transports, h.records⟩, id, id, fun h => ⟨h.1, h.2, h.3, h.4, h.5⟩⟩

theorem Keeps.setOwner (s : State) (t : TransportId) (o : Option PortId) : Keeps s (s.setOwner t o) :=
  ⟨rfl, fun h => ⟨h.transports, h.records⟩, id, id, fun h => ⟨h.1, h.2, h.3, h.4, h.5⟩⟩

theorem Keeps.chose (s : State) : Keeps s s.chose :=
  ⟨rfl, fun h => ⟨h.transports, h.records⟩, id, id, fun h => ⟨h.1, h.2, h.3, h.4, h.5⟩⟩

/-! ### Parts of a transport that its standing conditions read -/

/-- The parts of a transport that no plain update touches. -/
structure Body where
  reels : PerReel ReelServo
  position : Position
  botEdge : Int
  eotEdge : Int
  brakes : Bool
  valve : Bool
  condition : Condition
  grant : GrantState
  fixed : FixedTransport

/-- The body of a transport. -/
def Transport.body (tr : Transport) : Body :=
  { reels := tr.servo.reels, position := tr.sense.position, botEdge := tr.sense.botRun.edge
    eotEdge := tr.sense.eotRun.edge, brakes := tr.brakesEngaged, valve := tr.valveOpen, condition := tr.condition
    grant := tr.engine.grant, fixed := tr.fixed }

theorem Transport.inRange_of_body {x y : Transport} (hb : x.body = y.body) (hq : x.queue.length ≤ y.queue.length)
    (h : y.InRange) : x.InRange := by
  simp only [Transport.body, Body.mk.injEq] at hb
  obtain ⟨h1, h2, h3, h4, -⟩ := hb
  exact ⟨h1 ▸ h.file, h1 ▸ h.machine, h2 ▸ h.position, h3 ▸ h.botEdge, h4 ▸ h.eotEdge, hq.trans h.queue⟩

theorem Transport.braked_of_body {x y : Transport} (hb : x.body = y.body)
    (hf : y.Braked → y.condition = .faulted →
      x.engine.v = 0 ∧ x.motion = none ∧ x.hold.slot1 = .free ∧ x.queue = []) (h : y.Braked) : x.Braked := by
  have hb' := hb
  simp only [Transport.body, Body.mk.injEq] at hb
  obtain ⟨h1, -, -, -, h5, h6, h7, -⟩ := hb
  refine ⟨?_, ?_, ?_, ?_, ?_⟩
  · rw [h1, h5]; exact h.demands
  · rw [h5, h6, h7]; exact h.unloaded
  · rw [h5, h7]; exact h.faultedBrakes
  · rw [h7]; exact fun c => (hf h c).1
  · rw [h7]; exact fun c => (hf h c).2

/-- An update that leaves the body and what a FAULTED transport must not have. -/
theorem Keeps.setBody {s : State} {t : TransportId} {x : Transport} (hb : x.body = (s.tr t).body)
    (hq : x.queue.length ≤ (s.tr t).queue.length)
    (hf : (s.tr t).Braked → (s.tr t).condition = .faulted →
      x.engine.v = 0 ∧ x.motion = none ∧ x.hold.slot1 = .free ∧ x.queue = []) : Keeps s (s.setTr t x) :=
  .setTr (congrArg Body.fixed hb) (fun h => Transport.inRange_of_body hb hq (h.transports t)) (Transport.braked_of_body hb hf)
    (congrArg Body.grant hb)

/-- An update that touches nothing that the standing conditions read. -/
theorem Keeps.plain {s : State} {t : TransportId} {x : Transport} (hb : x.body = (s.tr t).body)
    (hv : x.engine.v = (s.tr t).engine.v) (hm : x.motion = (s.tr t).motion)
    (h1 : x.hold.slot1 = (s.tr t).hold.slot1) (hq : x.queue = (s.tr t).queue) : Keeps s (s.setTr t x) :=
  .setBody hb (by rw [hq]) fun h c => by
    rw [hv, hm, h1, hq]; exact ⟨h.faultedStill c, h.faultedEmpty c⟩

/-- An update of the body's surroundings at a transport that is not FAULTED. -/
theorem Keeps.live {s : State} {t : TransportId} {x : Transport} (hb : x.body = (s.tr t).body)
    (hq : x.queue.length ≤ (s.tr t).queue.length) (hc : (s.tr t).condition ≠ .faulted) : Keeps s (s.setTr t x) :=
  .setBody hb hq fun _ c => absurd c hc

/-- An update of the body's surroundings at a transport with a current order. -/
theorem Keeps.ordered {s : State} {t : TransportId} {x : Transport} {m : Motion} (hb : x.body = (s.tr t).body)
    (hq : x.queue.length ≤ (s.tr t).queue.length) (hm : (s.tr t).current = some m) : Keeps s (s.setTr t x) := by
  refine .setBody hb hq fun h c => ?_
  obtain ⟨h1, h2, -⟩ := h.faultedEmpty c
  simp [Transport.current, h1, h2] at hm

theorem Transport.current_of_motion {tr : Transport} {m : Motion} (h : tr.motion = some m) : tr.current = some m := by
  simp [Transport.current, h]

theorem Transport.current_of_slot {tr : Transport} {m : Motion} (h : tr.motion = none) (h1 : tr.hold.slot1 = .saved m) :
    tr.current = some m := by
  simp [Transport.current, h, h1]

/-- An update of the body's surroundings at a transport whose slot 1 is occupied. -/
theorem Keeps.slotted {s : State} {t : TransportId} {x : Transport} (hb : x.body = (s.tr t).body)
    (hq : x.queue.length ≤ (s.tr t).queue.length) (h1 : (s.tr t).hold.slot1 ≠ .free) : Keeps s (s.setTr t x) :=
  .setBody hb hq fun h c => absurd (h.faultedEmpty c).2.1 h1

/-- The current order replaced where it stands. -/
theorem Keeps.setCurrent (s : State) (t : TransportId) (m n : Motion) (h : (s.tr t).current = some m) :
    Keeps s (s.setTr t ((s.tr t).setCurrent n)) := by
  refine .ordered ?_ ?_ h <;>
    · unfold Transport.setCurrent
      split
      · rfl
      · split <;> rfl

end Sys2Proof.Machine
end

