-- ==== Sys2Proof/Laws/KeepsOrders.lean ====
section
/-! SUPPORT. The hand-offs of the ports, the arbiter, the monitor, the order queue and the ramp engine keep the settings and the standing conditions. -/

namespace Sys2Proof.Machine

/-! ### Ports -/

theorem place_keeps (p : PortId) (f : OutFrame) (s : State) : Keeps s (place p f s) := by
  unfold place
  split
  · exact .setPort rfl
  · exact .refl s

theorem respond_keeps (h : Head) (st : Status) (b : List Byte) (s : State) : Keeps s (respond h st b s) :=
  place_keeps ..

theorem countDropped_keeps (p : PortId) (s : State) : Keeps s (countDropped p s) := .setPort rfl

theorem attend_keeps (p : PortId) (t : TransportId) (k : AttentionKind) (b : List Byte) (s : State) :
    Keeps s (attend p t k b s) := by
  unfold attend
  split
  · exact .refl s
  · split
    · exact place_keeps ..
    · exact countDropped_keeps ..

theorem attendAll_keeps (ps : List PortId) (t : TransportId) (k : AttentionKind) (b : List Byte) (s : State) :
    Keeps s (attendAll ps t k b s) := .foldl (fun s p => attend_keeps p t k b s) ps s

/-! ### Arbiter and grants -/

/-- The arbiter and one transport's grant state updated together. -/
theorem Keeps.grant {s : State} {a : Arbiter} {t : TransportId} {g : GrantState} (hl : a.limit = s.arbiter.limit)
    (h : s.Granted →
      (∀ u, a.holders.get u = true ↔ (if u = t then g else (s.tr u).engine.grant) = .held) ∧
      (∀ u, a.lists u = true ↔ (if u = t then g else (s.tr u).engine.grant) = .requested) ∧
      a.waiting.Pairwise (fun a b => a.priority ≤ b.priority) ∧
      a.waiting.Pairwise (fun a b => a.transport ≠ b.transport)) :
    Keeps s (({ s with arbiter := a } : State).setGrant t g) where
  fixed := by
    unfold State.setGrant
    dsimp only
    rw [State.fixed_setTr (by rfl)]
    simp [State.fixed, hl]
  ranges k := ⟨fun u => by
    simp only [State.setGrant, State.tr_setTr]
    split
    · have := k.transports t
      exact ⟨this.1, this.2, this.3, this.4, this.5, this.6⟩
    · exact k.transports u, k.records⟩
  braked k u := by
    simp only [State.setGrant, State.tr_setTr]
    split
    · have := k t
      exact ⟨this.1, this.2, this.3, this.4, this.5⟩
    · exact k u
  vacuum := id
  granted k := by
    obtain ⟨h1, h2, h3, h4⟩ := h k
    have e : ∀ u, ((({ s with arbiter := a } : State).setGrant t g).tr u).engine.grant =
        if u = t then g else (s.tr u).engine.grant := by
      intro u
      simp only [State.setGrant, State.tr_setTr]
      split <;> rfl
    refine ⟨hl ▸ k.limit, fun u => ?_, fun u => ?_, h3, h4⟩
    · rw [e]; exact h1 u
    · rw [e]; exact h2 u

theorem Arbiter.lists_iff (a : Arbiter) (t : TransportId) : a.lists t = true ↔ ∃ e ∈ a.waiting, e.transport = t := by
  simp [Arbiter.lists]

@[simp] theorem Arbiter.hold_lists (a : Arbiter) (t u : TransportId) : (a.hold t).lists u = a.lists u := rfl

@[simp] theorem Arbiter.unhold_lists (a : Arbiter) (t u : TransportId) : (a.unhold t).lists u = a.lists u := rfl

@[simp] theorem Arbiter.join_holders (a : Arbiter) (t : TransportId) (n : Nat) : (a.join t n).holders = a.holders := rfl

@[simp] theorem Arbiter.leave_holders (a : Arbiter) (t : TransportId) : (a.leave t).holders = a.holders := rfl

theorem mem_insertEntry (e x : WaitEntry) (l : List WaitEntry) : x ∈ insertEntry e l ↔ x = e ∨ x ∈ l := by
  induction l with
  | nil => simp [insertEntry]
  | cons y l ih =>
    unfold insertEntry
    split
    · simp only [List.mem_cons, ih]; tauto
    · simp only [List.mem_cons]

theorem insertEntry_order (e : WaitEntry) (l : List WaitEntry)
    (h : l.Pairwise (fun a b => a.priority ≤ b.priority)) :
    (insertEntry e l).Pairwise (fun a b => a.priority ≤ b.priority) := by
  induction l with
  | nil => simp [insertEntry]
  | cons y l ih =>
    obtain ⟨h1, h2⟩ := List.pairwise_cons.mp h
    unfold insertEntry
    split
    · refine List.pairwise_cons.mpr ⟨fun x hx => ?_, ih h2⟩
      rcases (mem_insertEntry ..).mp hx with rfl | hx
      · assumption
      · exact h1 x hx
    · refine List.pairwise_cons.mpr ⟨fun x hx => ?_, h⟩
      rcases List.mem_cons.mp hx with rfl | hx
      · omega
      · have := h1 x hx; omega

theorem insertEntry_once (e : WaitEntry) (l : List WaitEntry) (he : ∀ x ∈ l, x.transport ≠ e.transport)
    (h : l.Pairwise (fun a b => a.transport ≠ b.transport)) :
    (insertEntry e l).Pairwise (fun a b => a.transport ≠ b.transport) := by
  induction l with
  | nil => simp [insertEntry]
  | cons y l ih =>
    obtain ⟨h1, h2⟩ := List.pairwise_cons.mp h
    unfold insertEntry
    split
    · refine List.pairwise_cons.mpr ⟨fun x hx => ?_, ih (fun x hx => he x (by simp [hx])) h2⟩
      rcases (mem_insertEntry ..).mp hx with rfl | hx
      · exact he y (by simp)
      · exact h1 x hx
    · exact List.pairwise_cons.mpr ⟨fun x hx => (he x hx).symm, h⟩

theorem requestGrant_keeps (t : TransportId) (n : Nat) (s : State) : Keeps s (requestGrant t n s).state := by
  unfold requestGrant
  simp only [Reaction.idle]
  split
  · exact .refl s
  · rename_i hnot
    simp only [Bool.or_eq_true, not_or, Bool.not_eq_true] at hnot
    split
    · refine .grant rfl fun k => ⟨fun u => ?_, fun u => ?_, k.order, k.once⟩
      · simp only [Arbiter.hold, Quad.get_set]
        split <;> simp [k.held u]
      · by_cases hu : u = t
        · subst hu; simpa using hnot.2
        · simpa [hu] using k.requested u
    · refine .grant rfl fun k => ⟨fun u => ?_, fun u => ?_, insertEntry_order _ _ k.order, insertEntry_once _ _ ?_ k.once⟩
      · by_cases hu : u = t
        · subst hu; simpa using hnot.1
        · simpa [hu] using k.held u
      · rw [Arbiter.lists_iff]
        simp only [Arbiter.join, mem_insertEntry, exists_eq_or_imp]
        by_cases hu : u = t
        · simp [hu]
        · have := k.requested u
          rw [Arbiter.lists_iff] at this
          simp only [hu, if_false, ← this]
          exact ⟨fun h => h.resolve_left (fun h => hu h.symm), .inr⟩
      · intro x hx h
        have : s.arbiter.lists t = true := (Arbiter.lists_iff ..).mpr ⟨x, hx, h⟩
        simp [this] at hnot

theorem giveUpGrant_keeps (t : TransportId) (s : State) : Keeps s (giveUpGrant t s).state := by
  unfold giveUpGrant
  split
  · exact .refl s
  · rename_i hg
    refine .grant rfl fun k => ⟨fun u => ?_, fun u => ?_, k.order, k.once⟩
    · simp only [Arbiter.unhold, Quad.get_set]
      split <;> simp [k.held u]
    · by_cases hu : u = t
      · subst hu
        have := k.requested u
        rw [hg] at this
        simpa using this
      · simpa [hu] using k.requested u
  · rename_i hg
    refine .grant rfl fun k => ⟨fun u => ?_, fun u => ?_, k.order.sublist List.filter_sublist,
      k.once.sublist List.filter_sublist⟩
    · by_cases hu : u = t
      · subst hu
        have := k.held u
        rw [hg] at this
        simpa [Arbiter.leave] using this
      · simpa [hu, Arbiter.leave] using k.held u
    · rw [Arbiter.lists_iff]
      simp only [Arbiter.leave, List.mem_filter, bne_iff_ne]
      by_cases hu : u = t
      · simp [hu]
      · have := k.requested u
        rw [Arbiter.lists_iff] at this
        simp only [hu, if_false, ← this]
        exact ⟨fun ⟨e, h1, h2⟩ => ⟨e, h1.1, h2⟩, fun ⟨e, h1, h2⟩ => ⟨e, ⟨h1, h2 ▸ hu⟩, h2⟩⟩

theorem serveList_keeps (s : State) : Keeps s (serveList s).state := by
  unfold serveList
  dsimp only
  split
  · exact .refl s
  · rename_i e rest hw
    split
    · refine .grant rfl fun k => ⟨fun u => ?_, fun u => ?_, ?_, ?_⟩
      · simp only [Arbiter.hold, Quad.get_set]
        split <;> simp [k.held u]
      · have h := k.requested u
        have hd := k.once
        rw [Arbiter.lists_iff, hw] at h
        rw [hw] at hd
        obtain ⟨h1, -⟩ := List.pairwise_cons.mp hd
        rw [Arbiter.lists_iff]
        simp only [Arbiter.hold]
        by_cases hu : u = e.transport
        · subst hu
          simpa using fun x hx => (h1 x hx).symm
        · simp only [hu, if_false, ← h, List.mem_cons, exists_eq_or_imp]
          exact ⟨.inr, fun h => h.resolve_left (fun h => hu h.symm)⟩
      · have := k.order; rw [hw] at this; exact (List.pairwise_cons.mp this).2
      · have := k.once; rw [hw] at this; exact (List.pairwise_cons.mp this).2
    · exact .refl s

/-! ### Monitor -/

/-- A monitor with the same settings. -/
theorem Keeps.setMonitor {s : State} {m : Monitor} (h1 : m.measure = s.monitor.measure)
    (h2 : m.transport = s.monitor.transport) (h3 : m.filter = s.monitor.filter) :
    Keeps s { s with monitor := m } :=
  ⟨by simp [State.fixed, h1, h2, h3], fun h => ⟨h.transports, h.records⟩, id, id, fun h => ⟨h.1, h.2, h.3, h.4, h.5⟩⟩

theorem monitorTake_keeps (t : TransportId) (d : Direction) (s : State) : Keeps s (monitorTake t d s) := by
  unfold monitorTake
  simp only
  split
  · exact .setMonitor rfl rfl rfl
  · split
    · exact .setMonitor rfl rfl rfl
    · exact .refl s

theorem monitorChain_keeps (t : TransportId) (d : Direction) (s : State) : Keeps s (monitorChain t d s) := by
  unfold monitorChain
  simp only
  split
  · exact .setMonitor rfl rfl rfl
  · exact .refl s

theorem monitorCruise_keeps (t : TransportId) (s : State) : Keeps s (monitorCruise t s) := by
  unfold monitorCruise
  simp only
  split
  · exact .setMonitor rfl rfl rfl
  · exact .refl s

theorem monitorEnd_keeps (t : TransportId) (s : State) : Keeps s (monitorEnd t s) := by
  unfold monitorEnd
  simp only
  split
  · exact .setMonitor rfl rfl rfl
  · exact .refl s

@[simp] theorem monitorTake_transports (t : TransportId) (d : Direction) (s : State) :
    (monitorTake t d s).transports = s.transports := by
  unfold monitorTake; simp only; split
  · rfl
  · split <;> rfl

@[simp] theorem monitorChain_transports (t : TransportId) (d : Direction) (s : State) :
    (monitorChain t d s).transports = s.transports := by
  unfold monitorChain; simp only; split <;> rfl

@[simp] theorem monitorCruise_transports (t : TransportId) (s : State) :
    (monitorCruise t s).transports = s.transports := by
  unfold monitorCruise; simp only; split <;> rfl

@[simp] theorem monitorEnd_transports (t : TransportId) (s : State) : (monitorEnd t s).transports = s.transports := by
  unfold monitorEnd; simp only; split <;> rfl

@[simp] theorem place_transports (p : PortId) (f : OutFrame) (s : State) : (place p f s).transports = s.transports := by
  unfold place; split <;> rfl

@[simp] theorem respond_transports (h : Head) (st : Status) (b : List Byte) (s : State) :
    (respond h st b s).transports = s.transports := place_transports ..

/-! ### Endings -/

theorem placeEnding_keeps (t : TransportId) (o : Origin) (g : Byte) (a : Option Byte) (st : Status) (e : Option Int)
    (c : Option FaultCause) (l : Option LoadStep) (s : State) : Keeps s (placeEnding t o g a st e c l s) := by
  unfold placeEnding
  split
  · exact .refl s
  · exact place_keeps ..

@[simp] theorem placeEnding_transports (t : TransportId) (o : Origin) (g : Byte) (a : Option Byte) (st : Status)
    (e : Option Int) (c : Option FaultCause) (l : Option LoadStep) (s : State) :
    (placeEnding t o g a st e c l s).transports = s.transports := by
  unfold placeEnding; split
  · rfl
  · exact place_transports ..

theorem placeMotionEnding_keeps (t : TransportId) (m : Motion) (st : Status) (c : Option FaultCause) (s : State) :
    Keeps s (placeMotionEnding t m st c s) := placeEnding_keeps ..

@[simp] theorem placeMotionEnding_transports (t : TransportId) (m : Motion) (st : Status) (c : Option FaultCause)
    (s : State) : (placeMotionEnding t m st c s).transports = s.transports := placeEnding_transports ..

theorem placeRecords_keeps (t : TransportId) (st : Status) (c : Option FaultCause) (q : List OrderRecord) (s : State) :
    Keeps s (q.foldl (placeRecordEnding t st c) s) := .foldl (fun _ _ => placeEnding_keeps ..) q s

@[simp] theorem placeRecords_transports (t : TransportId) (st : Status) (c : Option FaultCause) (q : List OrderRecord)
    (s : State) : (q.foldl (placeRecordEnding t st c) s).transports = s.transports := by
  induction q generalizing s with
  | nil => rfl
  | cons x q ih => rw [List.foldl_cons, ih]; exact placeEnding_transports ..

/-- Equal transports. -/
theorem State.tr_congr {s s' : State} (h : s'.transports = s.transports) (t : TransportId) : s'.tr t = s.tr t := by
  simp [State.tr, h]

@[simp] theorem placeMotionEnding_tr (t u : TransportId) (m : Motion) (st : Status) (c : Option FaultCause)
    (s : State) : (placeMotionEnding t m st c s).tr u = s.tr u := State.tr_congr (placeMotionEnding_transports ..) u

@[simp] theorem placeEnding_tr (t u : TransportId) (o : Origin) (g : Byte) (a : Option Byte) (st : Status)
    (e : Option Int) (c : Option FaultCause) (l : Option LoadStep) (s : State) :
    (placeEnding t o g a st e c l s).tr u = s.tr u := State.tr_congr (placeEnding_transports ..) u

@[simp] theorem monitorEnd_tr (t u : TransportId) (s : State) : (monitorEnd t s).tr u = s.tr u :=
  State.tr_congr (monitorEnd_transports ..) u

theorem setQueue_keeps (s : State) (t : TransportId) (q : List OrderRecord)
    (hq : q.length ≤ (s.tr t).queue.length) : Keeps s (s.setQueue t q) :=
  .setBody rfl hq fun h c => ⟨h.faultedStill c, (h.faultedEmpty c).1, (h.faultedEmpty c).2.1, by
    have := (h.faultedEmpty c).2.2
    rw [this] at hq
    exact List.length_eq_zero_iff.mp (Nat.le_zero.mp hq)⟩

theorem flush_keeps (t : TransportId) (st : Status) (c : Option FaultCause) (s : State) :
    Keeps s (flush t st c s) := (placeRecords_keeps ..).trans (setQueue_keeps _ _ _ (Nat.zero_le _))

theorem Transport.emptyMotion_body (tr : Transport) : tr.emptyMotion.body = tr.body := rfl

/-- The motion context emptied, with other updates that the standing conditions do not read. -/
theorem Keeps.empty {s : State} {t : TransportId} {x : Transport} (hb : x.body = (s.tr t).body)
    (hv : x.engine.v = (s.tr t).engine.v) (hm : x.motion = none)
    (h1 : x.hold.slot1 = (s.tr t).hold.slot1) (hq : x.queue = (s.tr t).queue) : Keeps s (s.setTr t x) :=
  .setBody hb (by rw [hq]) fun h c => ⟨hv ▸ h.faultedStill c, hm, h1 ▸ (h.faultedEmpty c).2.1,
    hq ▸ (h.faultedEmpty c).2.2⟩

theorem finishOrder_keeps (t : TransportId) (m : Motion) (st : Status) (s : State) : Keeps s (finishOrder t m st s) := by
  unfold finishOrder
  exact ((placeMotionEnding_keeps ..).trans (monitorEnd_keeps ..)).trans (.empty rfl rfl rfl rfl rfl)

theorem setPhase_keeps (s : State) (t : TransportId) (p : Phase) : Keeps s (s.setPhase t p) :=
  .plain rfl rfl rfl rfl rfl

theorem endOrder_keeps (t : TransportId) (m : Motion) (st : Status) (s : State) :
    Keeps s (endOrder t m st s).state := (finishOrder_keeps ..).trans (setPhase_keeps ..)

theorem setRelease_keeps (s : State) (t : TransportId) (r : Option PendingRelease) : Keeps s (s.setRelease t r) :=
  .plain rfl rfl rfl rfl rfl

theorem completeRelease_keeps (t : TransportId) (s : State) : Keeps s (completeRelease t s) := by
  unfold completeRelease
  split
  · exact .refl s
  · exact ((Keeps.setOwner ..).trans (setRelease_keeps ..)).trans (place_keeps ..)

theorem supersedeRelease_keeps (t : TransportId) (s : State) : Keeps s (supersedeRelease t s) := by
  unfold supersedeRelease
  split
  · exact .refl s
  · exact (setRelease_keeps ..).trans (place_keeps ..)

theorem idleReport_keeps (t : TransportId) (s : State) : Keeps s (idleReport t s).state := by
  unfold idleReport
  simp only [Reaction.idle]
  split
  · exact completeRelease_keeps ..
  · exact .refl s

/-! ### Takes and chaining -/

theorem setUpMotion_keeps (t : TransportId) (x : OrderRecord) (n : Fin 16) (p : Profile) (s : State)
    (h : (s.tr t).condition ≠ .faulted) : Keeps s (setUpMotion t x n p s).state := by
  unfold setUpMotion
  dsimp only
  refine Keeps.trans ?_ (monitorTake_keeps ..)
  exact .live rfl (Nat.le_refl _) h

theorem takeRecord_keeps (t : TransportId) (x : OrderRecord) (s : State) (h : (s.tr t).condition ≠ .faulted) :
    Keeps s (takeRecord t x s).state := by
  unfold takeRecord
  simp only
  split
  · exact placeEnding_keeps ..
  · exact setUpMotion_keeps _ _ _ _ _ h
  · exact .refl s

theorem Transport.loaded_of_canTake {tr : Transport} (h : tr.canTake = true) : tr.condition = .loaded := by
  simp only [Transport.canTake, Bool.and_eq_true, beq_iff_eq] at h
  exact h.1.1.2

theorem takeTest_keeps (t : TransportId) (s : State) : Keeps s (takeTest t s).state := by
  unfold takeTest
  simp only
  split
  · exact .refl s
  · rename_i x rest hq
    split
    · rename_i h
      have hc := Transport.loaded_of_canTake h
      refine (setQueue_keeps s t rest (by simp [hq])).trans (takeRecord_keeps _ _ _ ?_)
      simp [State.setQueue, hc]
    · exact .refl s

theorem chain_keeps (t : TransportId) (m : Motion) (x : OrderRecord) (d : Nat) (s : State)
    (h : (s.tr t).motion = some m) : Keeps s (chain t m x d s) := by
  unfold chain
  dsimp only
  refine Keeps.trans ?_ (monitorChain_keeps ..)
  refine (placeMotionEnding_keeps t m .done none s).trans ?_
  refine .ordered (m := m) rfl ?_ ?_
  · simp
  · simpa using Transport.current_of_motion h

/-! ### Ramp engine -/

theorem startFromRest_keeps (t : TransportId) (s : State) : Keeps s (startFromRest t s).state := by
  unfold startFromRest
  dsimp only
  split
  · exact .refl s
  · exact .plain rfl rfl rfl rfl rfl

theorem enterWaitGrant_keeps (t : TransportId) (s : State) : Keeps s (enterWaitGrant t s).state := by
  unfold enterWaitGrant
  split
  · exact .refl s
  · exact (setPhase_keeps ..).trans (requestGrant_keeps ..)

theorem deliver_keeps (t : TransportId) (s : State) : Keeps s (deliver t s).state := by
  unfold deliver
  simp only
  split
  · exact .refl s
  · exact .plain rfl rfl rfl rfl rfl

theorem loseReady_keeps (t : TransportId) (s : State) : Keeps s (loseReady t s) := by
  unfold loseReady
  simp only
  split
  · exact (giveUpGrant_keeps ..).trans (setPhase_keeps ..)
  · exact .refl s

theorem beginDecel_keeps (t : TransportId) (ph : Phase) (s : State) : Keeps s (beginDecel t ph s).state :=
  (setPhase_keeps ..).trans (giveUpGrant_keeps ..)

theorem setEndReason_keeps (t : TransportId) (r : EndReason) (s : State) : Keeps s (setEndReason t r s) := by
  unfold setEndReason
  split
  · exact .refl s
  · rename_i m h
    exact .setCurrent s t m _ h

theorem setHaltReason_keeps (t : TransportId) (s : State) : Keeps s (setHaltReason t s) := by
  unfold setHaltReason
  split
  · exact .refl s
  · rename_i m h
    exact .setCurrent s t m _ h

theorem setOutcome_keeps (t : TransportId) (o : SearchOutcome) (s : State) : Keeps s (setOutcome t o s) :=
  .plain rfl rfl rfl rfl rfl

theorem eotStop_keeps (t : TransportId) (m : Motion) (s : State) : Keeps s (eotStop t m s).state := by
  unfold eotStop
  split
  · refine Keeps.trans ?_ (beginDecel_keeps ..)
    split
    · exact setOutcome_keeps ..
    · exact .refl s
  · exact (setEndReason_keeps ..).trans (beginDecel_keeps ..)

theorem limitTests_keeps (t : TransportId) (s : State) : Keeps s (limitTests t s).state := by
  unfold limitTests
  simp only [Reaction.idle]
  split
  · exact .refl s
  · rename_i m hm
    split
    · split
      · exact eotStop_keeps ..
      · split
        · split
          · exact chain_keeps _ _ _ _ _ hm
          · exact (setEndReason_keeps ..).trans (beginDecel_keeps ..)
        · exact .refl s
    · exact .refl s

theorem velocityUpdate_keeps (t : TransportId) (s : State) : Keeps s (velocityUpdate t s).state := by
  unfold velocityUpdate
  simp only [Reaction.idle]
  split
  · exact .refl s
  · rename_i m hm
    split
    · refine Keeps.trans ?_ (giveUpGrant_keeps ..)
      refine Keeps.trans ?_ (monitorCruise_keeps ..)
      refine Keeps.trans ?_ (setPhase_keeps ..)
      exact .ordered rfl (Nat.le_refl _) (Transport.current_of_motion hm)
    · exact .ordered rfl (Nat.le_refl _) (Transport.current_of_motion hm)

theorem restTest_keeps (t : TransportId) (s : State) : Keeps s (restTest t s).state := by
  unfold restTest
  simp only [Reaction.idle]
  split
  · exact .plain rfl rfl rfl rfl rfl
  · exact .refl s

theorem rampStep_keeps (t : TransportId) (s : State) : Keeps s (rampStep t s).state := by
  unfold rampStep
  simp only [Reaction.idle]
  split <;> exact .refl s

end Sys2Proof.Machine
end

