-- ==== Sys2Proof/Laws/KeepsMotion.lean ====
section
/-! SUPPORT. The hand-offs of the Hold Controller, Load Control, the rests and Fault Stop keep the settings and the standing conditions. -/

namespace Sys2Proof.Machine

theorem Transport.not_faulted_of_hasPhase {tr : Transport} (h : tr.hasPhase = true) : tr.condition ≠ .faulted := by
  intro c
  simp [Transport.hasPhase, Transport.searching, c] at h

theorem Transport.not_faulted_of_current {tr : Transport} {m : Motion} (h : tr.current = some m) (hb : tr.Braked) :
    tr.condition ≠ .faulted := by
  intro c
  obtain ⟨h1, h2, -⟩ := hb.faultedEmpty c
  simp [Transport.current, h1, h2] at h

/-! ### Hold Controller -/

theorem setHold_keeps {s : State} {t : TransportId} {h : Hold} (h1 : h.slot1 = (s.tr t).hold.slot1) :
    Keeps s (s.setHold t h) := .plain rfl rfl rfl h1 rfl

theorem pushContext_keeps (t : TransportId) (s : State) (h : (s.tr t).condition ≠ .faulted) :
    Keeps s (pushContext t s) := .live rfl (Nat.le_refl _) h

theorem enterService_keeps (t : TransportId) (r : Rank) (s : State) : Keeps s (enterService t r s).state :=
  setHold_keeps rfl

theorem pushRecovery_keeps (t : TransportId) (a : Rank) (s : State) : Keeps s (pushRecovery t a s) := setHold_keeps rfl

theorem addPending_keeps (t : TransportId) (r : Rank) (s : State) : Keeps s (addPending t r s).state := setHold_keeps rfl

theorem arriveHeld_keeps (t : TransportId) (r : Rank) (s : State) : Keeps s (arriveHeld t r s).state := by
  unfold arriveHeld
  dsimp only
  split
  · exact addPending_keeps ..
  · split
    · split
      · exact .refl s
      · exact pushRecovery_keeps ..
    · exact addPending_keeps ..

theorem State.setGrant_condition (s : State) (t u : TransportId) (g : GrantState) :
    ((s.setGrant t g).tr u).condition = (s.tr u).condition := by
  simp only [State.setGrant, State.tr_setTr]
  split
  · subst u; rfl
  · rfl

theorem giveUpGrant_condition (t u : TransportId) (s : State) :
    ((giveUpGrant t s).state.tr u).condition = (s.tr u).condition := by
  unfold giveUpGrant
  split
  · rfl
  · exact State.setGrant_condition ..
  · exact State.setGrant_condition ..

theorem arriveCause_keeps (t : TransportId) (r : Rank) (s : State) : Keeps s (arriveCause t r s).state := by
  unfold arriveCause
  dsimp only
  split
  · exact .refl s
  · rename_i h
    have hp : (s.tr t).hasPhase = true := by simp_all
    have hw : Keeps s (pushContext t (giveUpGrant t s).state) :=
      (giveUpGrant_keeps ..).trans (pushContext_keeps _ _ (by
        rw [giveUpGrant_condition]; exact Transport.not_faulted_of_hasPhase hp))
    split
    · exact .refl s
    · split
      · exact .refl s
      · exact hw
    · split
      · exact .refl s
      · exact hw
    · refine Keeps.trans ?_ (beginDecel_keeps ..)
      exact setHold_keeps rfl
    · refine Keeps.trans ?_ (beginDecel_keeps ..)
      exact setHold_keeps rfl
    · split
      · exact .refl s
      · exact addPending_keeps ..
    · exact addPending_keeps ..
    · exact arriveHeld_keeps ..

theorem holdAtRest_keeps (t : TransportId) (s : State) : Keeps s (holdAtRest t s).state := by
  unfold holdAtRest
  dsimp only
  split
  · exact .refl s
  · rename_i h
    have hc := Transport.not_faulted_of_hasPhase (tr := s.tr t) (by simpa using h)
    split
    · exact (pushContext_keeps t s hc).trans (setHold_keeps rfl)
    · exact (pushContext_keeps t s hc).trans (setHold_keeps rfl)
    · exact .refl s

theorem outrank_keeps (t : TransportId) (s : State) : Keeps s (outrank t s).state := by
  unfold outrank
  dsimp only
  split
  · split
    · refine Keeps.trans ?_ (pushRecovery_keeps ..)
      exact setHold_keeps rfl
    · exact .refl s
  · exact .refl s

theorem recoveryEnd_keeps (t : TransportId) (s : State) : Keeps s (recoveryEnd t s).state := by
  unfold recoveryEnd
  dsimp only
  split
  · exact .refl s
  · split <;> exact setHold_keeps rfl

theorem popSlot1_keeps (t : TransportId) (s : State) : Keeps s (popSlot1 t s).state := by
  unfold popSlot1
  dsimp only
  split
  · exact .refl s
  · rename_i h
    exact .slotted rfl (Nat.le_refl _) (by simp [h])
  · rename_i h
    exact .slotted rfl (Nat.le_refl _) (by simp [h])

theorem dropAtEnding_keeps (t : TransportId) (s : State) : Keeps s (dropAtEnding t s) := .plain rfl rfl rfl rfl rfl

theorem endCondition_keeps (t : TransportId) (r : Rank) (s : State) : Keeps s (endCondition t r s) := setHold_keeps rfl

/-! ### Load Control -/

theorem clearedPosition_inRange : clearedPosition.InRange := by
  refine ⟨?_, ?_, ?_, ?_⟩ <;> simp [clearedPosition, PositionInRange]

theorem ReelServo.stopped_inRange {x : ReelServo} (h : x.InRange) : x.stopped.InRange :=
  ⟨by simp [ReelServo.stopped], by simp [ReelServo.stopped], by simp [ReelServo.stopped], h.radiusLow, h.radiusHigh,
    by simp [ReelServo.stopped], by simp [ReelServo.stopped]⟩

theorem enterUnloaded_keeps (t : TransportId) (s : State) : Keeps s (enterUnloaded t s) := by
  refine .setTr rfl (fun h => ?_) (fun _ => ?_) rfl
  · have h := h.transports t
    exact ⟨ReelServo.stopped_inRange h.file, ReelServo.stopped_inRange h.machine, clearedPosition_inRange,
      by simp [Transport.unloaded, Sense.cleared, idleRun, PositionInRange],
      by simp [Transport.unloaded, Sense.cleared, idleRun, PositionInRange], h.queue⟩
  · exact ⟨fun _ => ⟨rfl, rfl⟩, fun _ => ⟨rfl, rfl⟩, fun _ => rfl, nofun, nofun⟩

theorem placeLoadEnding_keeps (t : TransportId) (st : Status) (c : Option FaultCause) (l : Option LoadStep)
    (s : State) : Keeps s (placeLoadEnding t st c l s) := by
  unfold placeLoadEnding
  split
  · exact .refl s
  · exact placeEnding_keeps ..

@[simp] theorem placeLoadEnding_tr (t u : TransportId) (st : Status) (c : Option FaultCause) (l : Option LoadStep)
    (s : State) : (placeLoadEnding t st c l s).tr u = s.tr u := by
  unfold placeLoadEnding
  split
  · rfl
  · exact placeEnding_tr ..

theorem idleReel_inRange {n : Nat} (h : 175 ≤ n) (k : n ≤ 525) : (idleReel n).InRange := by
  refine ⟨?_, ?_, ?_, ?_, ?_, ?_, ?_⟩ <;> simp [idleReel] <;> omega

theorem startLoad_keeps (t : TransportId) (o : Origin) (g : Byte) (s : State) : Keeps s (startLoad t o g s).state := by
  unfold startLoad
  dsimp only
  refine .setTr rfl (fun h => ?_) (fun k => ?_) rfl
  · have h := h.transports t
    exact ⟨h.file, h.machine, h.position, h.botEdge, h.eotEdge, h.queue⟩
  · exact ⟨k.demands, nofun, nofun, nofun, nofun⟩

theorem drawStart_keeps (t : TransportId) (s : State) (h : (s.tr t).condition = .loading) : Keeps s (drawStart t s) := by
  unfold drawStart
  refine .setTr rfl (fun k => ?_) (fun k => ?_) rfl
  · have r := k.records t
    have k := k.transports t
    exact ⟨idleReel_inRange r.fileLow r.fileHigh, idleReel_inRange r.machineLow r.machineHigh, clearedPosition_inRange,
      by simp [Sense.cleared, idleRun, PositionInRange],
      by simp [Sense.cleared, idleRun, PositionInRange], k.queue⟩
  · refine ⟨fun h => ?_, fun c => ?_, fun c => ?_, fun c => ?_, fun c => ?_⟩ <;> simp_all

theorem vacuumStepTest_keeps (t : TransportId) (s : State) : Keeps s (vacuumStepTest t s).state := by
  unfold vacuumStepTest
  simp only [Reaction.idle]
  split
  · rename_i h
    simp only [Bool.and_eq_true, beq_iff_eq] at h
    exact drawStart_keeps _ _ h.1.1
  · exact .refl s

theorem unreferenceAtEnding_keeps (t : TransportId) (st : Status) (s : State) :
    Keeps s (unreferenceAtEnding t st s) := by
  unfold unreferenceAtEnding
  dsimp only
  split
  · refine .setTr rfl (fun h => ?_) (fun k => ?_) rfl
    · have h := h.transports t
      exact ⟨h.file, h.machine, ⟨h.position.count, h.position.eotPoint, h.position.lastBot, h.position.lastEot⟩,
        h.botEdge, h.eotEdge, h.queue⟩
    · exact ⟨k.demands, k.unloaded, k.faultedBrakes, k.faultedStill, k.faultedEmpty⟩
  · exact .refl s

theorem endLoadLoaded_keeps (t : TransportId) (st : Status) (s : State) : Keeps s (endLoadLoaded t st s).state := by
  unfold endLoadLoaded
  dsimp only [afterEnding]
  refine (unreferenceAtEnding_keeps t st s).trans
    ((placeLoadEnding_keeps t st none none _).trans (.setTr rfl (fun h => ?_) (fun k => ?_) rfl))
  · have h := h.transports t
    exact ⟨h.file, h.machine, h.position, h.botEdge, h.eotEdge, h.queue⟩
  · exact ⟨k.demands, nofun, nofun, nofun, nofun⟩

theorem endLoadUnloaded_keeps (t : TransportId) (st : Status) (l : Option LoadStep) (s : State) :
    Keeps s (endLoadUnloaded t st l s).state := by
  unfold endLoadUnloaded
  dsimp only
  refine Keeps.trans ?_ (enterUnloaded_keeps ..)
  refine (placeLoadEnding_keeps t st none l s).trans ?_
  exact .empty rfl rfl rfl rfl rfl

theorem searchStart_keeps (t : TransportId) (s : State) : Keeps s (searchStart t s).state := by
  unfold searchStart
  dsimp only
  split
  · exact .refl s
  · rename_i h _ _
    exact .live rfl (Nat.le_refl _) (by simp_all)
  · exact endLoadLoaded_keeps ..

theorem Transport.forwardCreep_body (tr : Transport) (m : Motion) :
    (tr.forwardCreep m).body = tr.body ∧ (tr.forwardCreep m).queue = tr.queue := by
  unfold Transport.forwardCreep Transport.setCurrent
  split
  · exact ⟨rfl, rfl⟩
  · split <;> exact ⟨rfl, rfl⟩

theorem Transport.nextSubStep_body (tr : Transport) (m : Motion) :
    (tr.nextSubStep m).body = tr.body ∧ (tr.nextSubStep m).queue = tr.queue := by
  unfold Transport.nextSubStep
  split
  · exact tr.forwardCreep_body m
  · split
    · exact tr.forwardCreep_body m
    · exact ⟨rfl, rfl⟩
  · exact ⟨rfl, rfl⟩

theorem windStart_keeps (t : TransportId) (s : State) : Keeps s (windStart t s).state := by
  unfold windStart
  dsimp only
  refine .setTr rfl (fun h => ?_) (fun k => ?_) rfl
  · have h := h.transports t
    exact ⟨h.file, h.machine, h.position, h.botEdge, h.eotEdge, h.queue⟩
  · exact ⟨k.demands, nofun, nofun, nofun, nofun⟩

theorem endAtBot_keeps (t : TransportId) (m : Motion) (s : State) : Keeps s (endAtBot t m s).state := by
  unfold endAtBot
  split
  · exact windStart_keeps ..
  · exact endOrder_keeps ..

theorem searchDecided_keeps (t : TransportId) (s : State) : Keeps s (searchDecided t s).state := by
  unfold searchDecided
  dsimp only
  split
  · exact beginDecel_keeps ..
  · exact beginDecel_keeps ..
  · exact (giveUpGrant_keeps ..).trans (endLoadLoaded_keeps ..)
  · exact (giveUpGrant_keeps ..).trans (endLoadLoaded_keeps ..)
  all_goals exact .refl s

theorem creepLimited_keeps (t : TransportId) (m : Motion) (s : State) : Keeps s (creepLimited t m s).state := by
  unfold creepLimited
  split
  · exact beginDecel_keeps ..
  · exact beginDecel_keeps ..
  · exact (giveUpGrant_keeps ..).trans (endOrder_keeps ..)
  · exact (giveUpGrant_keeps ..).trans (endOrder_keeps ..)
  all_goals exact .refl s

theorem searchLimitReached_keeps (t : TransportId) (s : State) : Keeps s (searchLimitReached t s).state := by
  unfold searchLimitReached
  dsimp only
  split
  · exact .refl s
  · split
    · exact .refl s
    · split
      · exact (setOutcome_keeps ..).trans (searchDecided_keeps ..)
      · split
        · exact (setOutcome_keeps ..).trans (creepLimited_keeps ..)
        · exact .refl s

theorem searchLimitTest_keeps (t : TransportId) (s : State) : Keeps s (searchLimitTest t s).state := by
  unfold searchLimitTest
  split
  · exact searchLimitReached_keeps ..
  · exact .refl s

theorem creepBotFound_keeps (t : TransportId) (m : Motion) (s : State) : Keeps s (creepBotFound t m s).state := by
  unfold creepBotFound
  dsimp only
  refine (setEndReason_keeps t .bot s).trans ?_
  split
  · exact beginDecel_keeps ..
  · exact beginDecel_keeps ..
  · exact (giveUpGrant_keeps ..).trans (endAtBot_keeps ..)
  · exact (giveUpGrant_keeps ..).trans (endAtBot_keeps ..)
  all_goals exact .refl _

theorem botForwardToLoad_keeps (t : TransportId) (s : State) : Keeps s (botForwardToLoad t s).state := by
  unfold botForwardToLoad
  dsimp only
  split
  · exact .refl s
  · split
    · exact (setOutcome_keeps ..).trans (searchDecided_keeps ..)
    · split
      · exact creepBotFound_keeps ..
      · exact .refl s

theorem botReverseMove_keeps (t : TransportId) (m : Motion) (s : State) : Keeps s (botReverseMove t m s).state := by
  unfold botReverseMove
  split
  · exact (setEndReason_keeps ..).trans (beginDecel_keeps ..)
  · exact (setEndReason_keeps ..).trans (beginDecel_keeps ..)
  · exact .refl s
  · exact .refl s
  · exact setEndReason_keeps ..
  · exact setEndReason_keeps ..
  · exact (giveUpGrant_keeps ..).trans (endOrder_keeps ..)
  · exact (giveUpGrant_keeps ..).trans (endOrder_keeps ..)

theorem beginClearing_keeps (t : TransportId) (s : State) : Keeps s (beginClearing t s) := .plain rfl rfl rfl rfl rfl

theorem botReverse_keeps (t : TransportId) (s : State) : Keeps s (botReverse t s).state := by
  unfold botReverse
  dsimp only
  split
  · exact .refl s
  · split
    · exact botReverseMove_keeps ..
    · split
      · exact beginClearing_keeps ..
      · exact .refl s
    · split
      · exact beginClearing_keeps ..
      · exact .refl s
    all_goals exact .refl s

theorem markerLeft_keeps (t : TransportId) (s : State) : Keeps s (markerLeft t s).state := by
  unfold markerLeft
  dsimp only
  split
  · rename_i m hm _
    have hf : Keeps s (s.setTr t ((s.tr t).forwardCreep m)) :=
      .ordered ((s.tr t).forwardCreep_body m).1 (by rw [((s.tr t).forwardCreep_body m).2]) hm
    have hs : Keeps s (s.setTr t { s.tr t with load := { (s.tr t).load with step := some .reverseStop } }) :=
      .plain rfl rfl rfl rfl rfl
    split
    · exact hs.trans (beginDecel_keeps ..)
    · exact hs.trans (beginDecel_keeps ..)
    · exact .plain rfl rfl rfl rfl rfl
    · exact .plain rfl rfl rfl rfl rfl
    · exact hf
    · exact hf
    · exact hf
    · exact .refl s
  · exact .refl s

/-! ### Rests and resumption -/

theorem endAtRest_keeps (t : TransportId) (m : Motion) (st : Status) (s : State) :
    Keeps s (endAtRest t m st s).state := by
  unfold endAtRest
  dsimp only [afterEnding]
  split
  · exact finishOrder_keeps ..
  · exact ((finishOrder_keeps ..).trans (dropAtEnding_keeps ..)).trans (setPhase_keeps ..)

theorem endSearchAtRest_keeps (t : TransportId) (st : Status) (s : State) : Keeps s (endSearchAtRest t st s).state := by
  unfold endSearchAtRest
  dsimp only [Reaction.andThen]
  split
  · exact endLoadLoaded_keeps ..
  · exact (dropAtEnding_keeps ..).trans (endLoadLoaded_keeps ..)

theorem holdOrRestart_keeps (t : TransportId) (k : Task) (s : State) : Keeps s (holdOrRestart t k s).state := .refl s

theorem searchRest_keeps (t : TransportId) (m : Motion) (s : State) : Keeps s (searchRest t m s).state := by
  unfold searchRest
  dsimp only
  split
  · exact endLoadUnloaded_keeps ..
  · split
    · exact .refl s
    · split
      · exact .refl s
      · exact endSearchAtRest_keeps ..

theorem searchCountSeen_keeps (t : TransportId) (m : Motion) (s : State) : Keeps s (searchCountSeen t m s).state := by
  unfold searchCountSeen
  dsimp only
  split
  · exact endLoadUnloaded_keeps ..
  · exact endSearchAtRest_keeps ..

theorem orderRest_keeps (t : TransportId) (m : Motion) (r : EndReason) (s : State) :
    Keeps s (orderRest t m r s).state := by
  unfold orderRest
  split
  · refine Keeps.trans ?_ (windStart_keeps ..)
    split
    · exact dropAtEnding_keeps ..
    · exact .refl s
  · exact endAtRest_keeps ..

theorem sequenceRest_keeps (t : TransportId) (m : Motion) (s : State) (h : (s.tr t).motion = some m) :
    Keeps s (sequenceRest t m s).state := by
  unfold sequenceRest
  dsimp only
  split
  · exact endAtRest_keeps ..
  · refine Keeps.trans ?_ (holdOrRestart_keeps ..)
    exact .ordered ((s.tr t).nextSubStep_body m).1 (by rw [((s.tr t).nextSubStep_body m).2])
      (Transport.current_of_motion h)

theorem clearRest_keeps (t : TransportId) (m : Motion) (s : State) (h : (s.tr t).motion = some m) :
    Keeps s (clearRest t m s).state := by
  unfold clearRest
  split
  · exact searchRest_keeps ..
  · exact orderRest_keeps ..
  · exact orderRest_keeps ..
  · exact orderRest_keeps ..
  · split
    · exact holdOrRestart_keeps ..
    · exact .refl s
  · exact sequenceRest_keeps _ _ _ h
  · exact sequenceRest_keeps _ _ _ h

theorem countSeenRest_keeps (t : TransportId) (m : Motion) (s : State) : Keeps s (countSeenRest t m s).state := by
  unfold countSeenRest
  split
  · exact searchCountSeen_keeps ..
  all_goals exact endAtRest_keeps ..

theorem clearTach_keeps (t : TransportId) (s : State) : Keeps s (clearTach t s) := .plain rfl rfl rfl rfl rfl

theorem rest_keeps (t : TransportId) (s : State) : Keeps s (rest t s).state := by
  unfold rest
  dsimp only
  split
  · exact .refl s
  · rename_i m hm
    split
    · exact .refl s
    · exact (clearTach_keeps ..).trans (countSeenRest_keeps ..)
    · exact clearRest_keeps _ _ _ hm

theorem resume_keeps (t : TransportId) (s : State) : Keeps s (resume t s).state := by
  unfold resume
  dsimp only
  split
  · exact .refl s
  · split
    · split
      · exact endOrder_keeps ..
      · exact .refl s
    · split
      · exact endAtBot_keeps ..
      · split
        · exact endOrder_keeps ..
        · exact .refl s
    · split
      · exact endAtBot_keeps ..
      · split
        · exact endOrder_keeps ..
        · exact .refl s
    · split
      · exact .refl s
      · exact endLoadLoaded_keeps ..

/-! ### Fault Stop -/

theorem abortCurrent_keeps (t : TransportId) (c : FaultCause) (s : State) : Keeps s (abortCurrent t c s) := by
  unfold abortCurrent
  dsimp only
  split
  · exact placeLoadEnding_keeps ..
  · split
    · exact .refl s
    · exact placeMotionEnding_keeps ..

theorem ReelServo.zeroed_inRange {x : ReelServo} (h : x.InRange) : x.zeroed.InRange :=
  ⟨by simp [ReelServo.zeroed], by simp [ReelServo.zeroed], by simp [ReelServo.zeroed], h.radiusLow, h.radiusHigh,
    h.windowCount, h.reelCount⟩

theorem faultStopped_keeps (t : TransportId) (c : FaultCause) (x : Snapshot) (s : State) :
    Keeps s (s.setTr t ((s.tr t).faultStopped c x)) := by
  refine .setTr rfl (fun h => ?_) (fun _ => ?_) rfl
  · have h := h.transports t
    exact ⟨ReelServo.zeroed_inRange h.file, ReelServo.zeroed_inRange h.machine, h.position, h.botEdge, h.eotEdge,
      Nat.zero_le _⟩
  · exact ⟨fun _ => ⟨rfl, rfl⟩, nofun, fun _ => rfl, fun _ => rfl, fun _ => ⟨rfl, rfl, rfl⟩⟩

theorem faultStop_keeps (t : TransportId) (c : FaultCause) (s : State) : Keeps s (faultStop t c s).state := by
  unfold faultStop
  dsimp only [Reaction.andThen]
  refine Keeps.trans ?_ (giveUpGrant_keeps ..)
  refine Keeps.trans ?_ (monitorEnd_keeps ..)
  refine Keeps.trans ?_ (completeRelease_keeps ..)
  refine Keeps.trans ?_ (attendAll_keeps ..)
  exact ((abortCurrent_keeps ..).trans (flush_keeps ..)).trans (faultStopped_keeps ..)

theorem furtherFault_keeps (t : TransportId) (s : State) : Keeps s (furtherFault t s) := .plain rfl rfl rfl rfl rfl

theorem handFault_keeps (t : TransportId) (c : FaultCause) (s : State) : Keeps s (handFault t c s).state := by
  unfold handFault
  split
  · exact furtherFault_keeps ..
  · exact faultStop_keeps ..

end Sys2Proof.Machine
end

