-- ==== Sys2Proof/Laws/KeepsEvents.lean ====
section
/-! SUPPORT. The hand-offs of counts, samples and the vacuum supply keep the settings and the standing conditions; so does every hand-off, and so does an agenda brought to its end. -/

namespace Sys2Proof.Machine

/-! ### Counts and crossings -/

theorem clampPosition_inRange (c : Int) : PositionInRange (clampPosition c) := by
  simp only [PositionInRange, clampPosition, clamp, positionMin, positionMax]
  omega

theorem Position.moved_inRange {x : Position} (h : x.InRange) (d : Direction) : (x.moved d).InRange :=
  ⟨clampPosition_inRange _, h.eotPoint, h.lastBot, h.lastEot⟩

theorem MarkerRun.judged_edge (x : MarkerRun) (a : Bool) (q : Nat) : (x.judged a q).edge = x.edge := by
  unfold MarkerRun.judged
  split <;> rfl

theorem MarkerRun.advance_edge {x : MarkerRun} {c : Int} (h : PositionInRange x.edge) (hc : PositionInRange c)
    (a : Bool) (d : Direction) : PositionInRange (x.advance a d c).edge := by
  unfold MarkerRun.advance
  split
  · exact h
  · split
    · exact hc
    · exact h

theorem movedRadius_range (r : Int) (n : Nat) : 175 ≤ movedRadius r n ∧ movedRadius r n ≤ 525 := by
  simp only [movedRadius, clamp, radiusMin, radiusMax]
  omega

theorem ReelServo.closeWindow_inRange {x : ReelServo} (h : x.InRange) (kept : Bool) (k : Nat) :
    (x.closeWindow kept k).InRange := by
  have hr := movedRadius_range x.radius (measuredRadius k x.reelCount)
  refine ⟨h.demandLow, h.demandHigh, h.satRun, ?_, ?_, by simp [ReelServo.closeWindow], by simp [ReelServo.closeWindow]⟩
  · simp only [ReelServo.closeWindow]; split
    · exact hr.1
    · exact h.radiusLow
  · simp only [ReelServo.closeWindow]; split
    · exact hr.2
    · exact h.radiusHigh

theorem ReelServo.counted_inRange {x : ReelServo} (h : x.InRange) (b : Bool) : (x.counted b).InRange := by
  unfold ReelServo.counted
  split
  · exact ⟨h.demandLow, h.demandHigh, h.satRun, h.radiusLow, h.radiusHigh, by simp, by simp⟩
  · exact ⟨h.demandLow, h.demandHigh, h.satRun, h.radiusLow, h.radiusHigh, by simp [satSucc, windowCountTop], h.reelCount⟩

theorem ReelServo.afterCount_inRange {x : ReelServo} (h : x.InRange) (kept b : Bool) (k : ServoRecord) :
    (x.afterCount kept b k).InRange := by
  simp only [ReelServo.afterCount]
  split
  · exact ReelServo.closeWindow_inRange (ReelServo.counted_inRange h b) ..
  · exact ReelServo.counted_inRange h b

theorem ReelServo.afterCount_demand (x : ReelServo) (kept b : Bool) (k : ServoRecord) :
    (x.afterCount kept b k).demand = x.demand := by
  simp only [ReelServo.afterCount, ReelServo.counted]
  cases b <;> simp only [Bool.false_eq_true, if_false, if_true] <;> split <;> rfl

theorem Transport.setCurrent_body (tr : Transport) (m : Motion) :
    (tr.setCurrent m).body = tr.body ∧ (tr.setCurrent m).queue = tr.queue ∧ (tr.setCurrent m).engine = tr.engine := by
  unfold Transport.setCurrent
  split
  · exact ⟨rfl, rfl, rfl⟩
  · split <;> exact ⟨rfl, rfl, rfl⟩

theorem Transport.countR_body (tr : Transport) (d : Direction) :
    (tr.countR d).body = tr.body ∧ (tr.countR d).queue = tr.queue ∧ (tr.countR d).engine = tr.engine := by
  unfold Transport.countR
  split
  · exact ⟨rfl, rfl, rfl⟩
  · exact tr.setCurrent_body _

theorem Transport.approachTest_body (tr : Transport) (d : Direction) (a : Nat) :
    (tr.approachTest d a).body = tr.body ∧ (tr.approachTest d a).queue = tr.queue ∧
      (tr.approachTest d a).engine.v = tr.engine.v ∧ (tr.approachTest d a).motion = tr.motion ∧
      (tr.approachTest d a).hold = tr.hold := by
  unfold Transport.approachTest
  split
  · exact ⟨rfl, rfl, rfl, rfl, rfl⟩
  · split <;> exact ⟨rfl, rfl, rfl, rfl, rfl⟩

theorem TransportCounters.rejected_rights (c : TransportCounters) (b : Bool) : (c.rejected b).rights = c.rights := by
  unfold TransportCounters.rejected
  split <;> rfl

/-- The transport after a count, but for what the count does to the order and the approach. -/
def Transport.countedFirst (tr : Transport) (d : Direction) (record : ServoRecord) : Transport :=
  { tr with
    sense := tr.sense.counted tr.lines d record.q
    engine := tr.engine.counted record.tachTime
    servo := tr.servo.counted tr.beforeDraw (tr.sense.changes d) record
    counters := (tr.counters.rejected (tr.servo.reels.file.rejects (tr.sense.changes d) record)).rejected
      (tr.servo.reels.machine.rejects (tr.sense.changes d) record)
    load := tr.load.counted d }

theorem Transport.counted_eq (tr : Transport) (d : Direction) (record : ServoRecord) :
    tr.counted d record = ((tr.countedFirst d record).countR d).approachTest d record.approach := rfl

theorem countedFirst_keeps (s : State) (t : TransportId) (d : Direction) (record : ServoRecord) :
    Keeps s (s.setTr t ((s.tr t).countedFirst d record)) := by
  refine .setTr ?_ (fun h => ?_) (fun k => ?_) rfl
  · simp [Transport.fixed, Transport.countedFirst, TransportCounters.rejected_rights]
  · have h := h.transports t
    refine ⟨ReelServo.afterCount_inRange h.file .., ReelServo.afterCount_inRange h.machine ..,
      Position.moved_inRange h.position d, ?_, ?_, h.queue⟩
    · simp only [Transport.countedFirst, Sense.counted, MarkerRun.judged_edge]
      exact MarkerRun.advance_edge h.botEdge h.position.count ..
    · simp only [Transport.countedFirst, Sense.counted, MarkerRun.judged_edge]
      exact MarkerRun.advance_edge h.eotEdge h.position.count ..
  · refine ⟨fun b => ?_, k.unloaded, k.faultedBrakes, k.faultedStill, k.faultedEmpty⟩
    simpa [Transport.countedFirst, Servo.counted, ReelServo.afterCount_demand] using k.demands b

theorem counted_keeps (s : State) (t : TransportId) (d : Direction) (record : ServoRecord) :
    Keeps s (s.setTr t ((s.tr t).counted d record)) := by
  have h1 := countedFirst_keeps s t d record
  have h2 : Keeps (s.setTr t ((s.tr t).countedFirst d record))
      ((s.setTr t ((s.tr t).countedFirst d record)).setTr t (((s.tr t).countedFirst d record).countR d)) := by
    unfold Transport.countR
    split
    · rw [State.setTr_setTr]; exact .refl _
    · rename_i m hm
      have := Keeps.setCurrent (s.setTr t ((s.tr t).countedFirst d record)) t m (m.counted d) (by simpa using hm)
      simpa using this
  have h3 : Keeps (s.setTr t (((s.tr t).countedFirst d record).countR d))
      ((s.setTr t (((s.tr t).countedFirst d record).countR d)).setTr t
        ((((s.tr t).countedFirst d record).countR d).approachTest d record.approach)) := by
    have e := Transport.approachTest_body (((s.tr t).countedFirst d record).countR d) d record.approach
    refine .plain ?_ ?_ ?_ ?_ ?_ <;> rw [State.tr_setTr_self]
    · exact e.1
    · exact e.2.2.1
    · exact e.2.2.2.1
    · rw [e.2.2.2.2]
    · exact e.2.1
  rw [State.setTr_setTr] at h2 h3
  exact (h1.trans h2).trans h3

theorem applyCount_keeps (t : TransportId) (d : Direction) (s : State) : Keeps s (applyCount t d s).state := by
  unfold applyCount
  dsimp only
  split
  · exact (counted_keeps ..).trans (.chose _)
  · exact counted_keeps ..

theorem closeWindow_keeps (t : TransportId) (x : Reel) (s : State) : Keeps s (closeWindow t x s) := by
  unfold closeWindow
  dsimp only
  refine .setTr ?_ (fun h => ?_) (fun k => ?_) rfl
  · simp [Transport.fixed, TransportCounters.rejected_rights]
  · have h := h.transports t
    cases x
    · exact ⟨ReelServo.closeWindow_inRange h.file .., h.machine, h.position, h.botEdge, h.eotEdge, h.queue⟩
    · exact ⟨h.file, ReelServo.closeWindow_inRange h.machine .., h.position, h.botEdge, h.eotEdge, h.queue⟩
  · refine ⟨fun b => ?_, k.unloaded, k.faultedBrakes, k.faultedStill, k.faultedEmpty⟩
    cases x <;> exact k.demands b

theorem shifted_inRange (e c : Int) : PositionInRange (shifted e c) := clampPosition_inRange _

/-- The position record replaced by one in range. -/
theorem Keeps.setPosition {s : State} {t : TransportId} {p : Position}
    (h : (s.tr t).InRange → p.InRange) : Keeps s (s.setTr t ((s.tr t).setPosition p)) := by
  refine .setTr rfl (fun k => ?_) (fun k => ?_) rfl
  · have k := k.transports t
    exact ⟨k.file, k.machine, h k, k.botEdge, k.eotEdge, k.queue⟩
  · exact ⟨k.demands, k.unloaded, k.faultedBrakes, k.faultedStill, k.faultedEmpty⟩

theorem Position.referencedAt_inRange {x : Position} (e : Int) : (x.referencedAt e).InRange := by
  refine ⟨shifted_inRange .., fun y h => ?_, fun c h => ?_, fun c h => ?_⟩
  · simp only [Position.referencedAt, Option.map_eq_some_iff] at h
    obtain ⟨z, -, rfl⟩ := h
    exact shifted_inRange ..
  · simp only [Position.referencedAt, Option.some.injEq] at h
    subst h
    simp [PositionInRange]
  · simp only [Position.referencedAt, Option.map_eq_some_iff] at h
    obtain ⟨z, -, rfl⟩ := h
    exact shifted_inRange ..

theorem crossing_keeps (t : TransportId) (m : Marker) (s : State) : Keeps s (crossing t m s).state := by
  unfold crossing
  dsimp only [Reaction.idle]
  split
  · refine Keeps.trans ?_ (botForwardToLoad_keeps ..)
    exact .setPosition fun _ => Position.referencedAt_inRange _
  · refine Keeps.trans ?_ (botReverse_keeps ..)
    refine .setPosition fun h => ⟨h.position.count, h.position.eotPoint, fun c hc => ?_, h.position.lastEot⟩
    simp only [Position.botReversed, Option.some.injEq] at hc
    subst hc
    exact h.botEdge
  · refine Keeps.trans ?_ (attendAll_keeps ..)
    refine .setPosition fun h => ⟨h.position.count, fun e he => ?_, h.position.lastBot, fun c hc => ?_⟩
    · simp only [Position.eotPassed, Option.some.injEq] at he
      subst he
      exact h.eotEdge
    · simp only [Position.eotPassed, Option.some.injEq] at hc
      subst hc
      exact h.eotEdge
  · refine .setPosition fun h => ⟨h.position.count, nofun, h.position.lastBot, fun c hc => ?_⟩
    simp only [Position.eotReturned, Option.some.injEq] at hc
    subst hc
    exact h.eotEdge

/-! ### Servo samples -/

theorem slewed_inRange {last : Int} (h1 : -2047 ≤ last) (h2 : last ≤ 2047) (target : Int) (slew : Nat) :
    -2047 ≤ slewed last target slew ∧ slewed last target slew ≤ 2047 := by
  simp only [slewed, clampDemand, clamp, demandTop]
  omega

theorem ReelServo.driven_inRange {x : ReelServo} (h : x.InRange) (m : ServoMode) (target : Int) (slew : Nat) :
    (x.driven m target slew).InRange := by
  unfold ReelServo.driven
  split
  · exact ReelServo.zeroed_inRange h
  · have hs := slewed_inRange h.demandLow h.demandHigh target slew
    refine ⟨hs.1, hs.2, ?_, h.radiusLow, h.radiusHigh, h.windowCount, h.reelCount⟩
    simp only [nextSatRun]
    split
    · simp [satSucc, smallCountTop]
    · simp

theorem driveOutputs_keeps (t : TransportId) (s : State) : Keeps s (driveOutputs t s).state := by
  unfold driveOutputs
  refine .setTr rfl (fun h => ?_) (fun k => ?_) rfl
  · have h := h.transports t
    exact ⟨ReelServo.driven_inRange h.file .., ReelServo.driven_inRange h.machine .., h.position, h.botEdge, h.eotEdge,
      h.queue⟩
  · refine ⟨fun b => ?_, k.unloaded, k.faultedBrakes, k.faultedStill, k.faultedEmpty⟩
    have hm : (s.tr t).servoMode = .zero := by
      have : (s.tr t).brakesEngaged = true := b
      simp [Transport.servoMode, this]
    simp [Transport.servoDriven, hm, ReelServo.driven, ReelServo.zeroed]

theorem Hold.sampled_slot1 (h : Hold) (b : Band) : (h.sampled b).slot1 = h.slot1 := by
  unfold Hold.sampled
  dsimp only
  split <;> split <;> rfl

theorem bandTests_keeps (t : TransportId) (s : State) : Keeps s (bandTests t s).state := by
  unfold bandTests
  refine .plain rfl rfl rfl ?_ rfl
  simp only [Transport.bandTested]
  split
  · exact Hold.sampled_slot1 ..
  · rfl

theorem servoSample_keeps (t : TransportId) (x : LoopReading) (s : State) : Keeps s (servoSample t x s).state := by
  unfold servoSample
  dsimp only
  split
  · refine Keeps.trans ?_ (.chose _)
    exact .plain rfl rfl rfl rfl rfl
  · exact .plain rfl rfl rfl rfl rfl

/-! ### Vacuum supply -/

/-- A vacuum record with the same settings. -/
theorem Keeps.setVacuum {s : State} {v : Vacuum} (h1 : v.mode = s.vacuum.mode) (h2 : v.loss = s.vacuum.loss)
    (h3 : v.sag = s.vacuum.sag) (h4 : v.run = s.vacuum.run) (h5 : v.lastPressure = s.vacuum.lastPressure)
    (hr : (s.vacuum.ready = true → s.vacuum.blower = .normal) → v.ready = true → v.blower = .normal) :
    Keeps s { s with vacuum := v } :=
  ⟨by simp [State.fixed, h1, h2, h3, h4, h5], fun h => ⟨h.transports, h.records⟩, id,
    fun h => ⟨by simpa [h2, h3] using h.lossSag, by simpa [h3, h4] using h.sagRun, hr h.ready⟩,
    fun h => ⟨h.1, h.2, h.3, h.4, h.5⟩⟩

theorem reportReadyFalse_keeps (s : State) : Keeps s (reportReadyFalse s) :=
  .foldl (fun s t => loseReady_keeps t s) transportIds s

theorem setBlower_keeps (b : Blower) (s : State) : Keeps s (setBlower b s) := by
  unfold setBlower
  dsimp only
  split
  · exact .refl s
  · split
    · refine Keeps.trans ?_ (reportReadyFalse_keeps _)
      exact .setVacuum rfl rfl rfl rfl rfl (fun _ => nofun)
    · exact .setVacuum rfl rfl rfl rfl rfl (fun _ => nofun)

theorem reviewVacuum_keeps (s : State) : Keeps s (reviewVacuum s) := by
  unfold reviewVacuum
  dsimp only
  refine (setBlower_keeps (blowerFor s.vacuum.mode s.allUnloaded s.quiet s.vacuum.blower) s).trans ?_
  exact .setVacuum rfl rfl rfl rfl rfl id

theorem economyExpiry_keeps (s : State) : Keeps s (economyExpiry s) := by
  unfold economyExpiry
  dsimp only
  refine (setBlower_keeps .economy s).trans ?_
  exact .setVacuum rfl rfl rfl rfl rfl id

theorem pressure_keeps (t : TransportId) (f : Finding) (s : State) : Keeps s (pressure t f s).state := by
  unfold pressure
  dsimp only
  split
  · exact .refl s
  · have h : Keeps s (if (s.tr t).hasPhase && !f.belowSag then endCondition t .sag s else s) := by
      split
      · exact endCondition_keeps ..
      · exact .refl s
    split
    · exact h.trans (loseReady_keeps ..)
    · exact h

theorem readyTrue_keeps (t : TransportId) (s : State) : Keeps s (readyTrue t s).state := .refl s

theorem settleComplete_keeps (s : State) : Keeps s (settleComplete s).state := by
  unfold settleComplete
  split
  · rename_i h
    simp only [Bool.and_eq_true, beq_iff_eq] at h
    refine Keeps.trans (b := { s with vacuum := { s.vacuum with settle := some settleGoal, ready := true } }) ?_ ?_
    · exact .setVacuum rfl rfl rfl rfl rfl (fun _ _ => h.1)
    · exact ⟨rfl, fun h => ⟨h.transports, h.records⟩, id, id, fun h => ⟨h.1, h.2, h.3, h.4, h.5⟩⟩
  · exact .refl s

/-! ### Every hand-off -/

/-- Every hand-off keeps the settings and the standing conditions. -/
theorem handle_keeps (k : Task) (s : State) : Keeps s (handle k s).state := by
  cases k with
  | takeTest t => exact takeTest_keeps ..
  | idleReport t => exact idleReport_keeps ..
  | vacuumReview => exact reviewVacuum_keeps ..
  | startFromRest t => exact startFromRest_keeps ..
  | enterWaitGrant t => exact enterWaitGrant_keeps ..
  | serve => exact serveList_keeps ..
  | deliver t => exact deliver_keeps ..
  | rampStep t => exact rampStep_keeps ..
  | limitTests t => exact limitTests_keeps ..
  | velocityUpdate t => exact velocityUpdate_keeps ..
  | restTest t => exact restTest_keeps ..
  | rest t => exact rest_keeps ..
  | arrive t r => exact arriveCause_keeps ..
  | enterService t r => exact enterService_keeps ..
  | holdAtRest t => exact holdAtRest_keeps ..
  | outrank t => exact outrank_keeps ..
  | recoveryEnd t => exact recoveryEnd_keeps ..
  | popSlot1 t => exact popSlot1_keeps ..
  | resume t => exact resume_keeps ..
  | fault t c => exact handFault_keeps ..
  | vacuumStepTest t => exact vacuumStepTest_keeps ..
  | searchStart t => exact searchStart_keeps ..
  | crossing t m => exact crossing_keeps ..
  | searchLimitTest t => exact searchLimitTest_keeps ..
  | driveOutputs t => exact driveOutputs_keeps ..
  | bandTests t => exact bandTests_keeps ..
  | pressure t f => exact pressure_keeps ..
  | readyTrue t => exact readyTrue_keeps ..
  | answer h st b => exact respond_keeps ..

/-- An agenda brought to its end keeps them. -/
theorem runTasks_keeps {n : Nat} {l : List Task} {s s' : State} (h : runTasks n l s = .next s') : Keeps s s' := by
  induction n generalizing l s with
  | zero =>
    cases l with
    | nil => cases h; exact .refl _
    | cons k l => cases h
  | succ n ih =>
    cases l with
    | nil => cases h; exact .refl _
    | cons k l => exact (handle_keeps k _).trans (ih h)

/-- An event brought to its end keeps what its first state had. -/
theorem finish_keeps {r : Reaction} {s' : State} (h : finish r = .next s') : Keeps r.state s' := runTasks_keeps h

theorem Keeps.safe {s s' : State} (h : Keeps s s') (k : s.Safe) : s'.Safe :=
  ⟨h.ranges k.ranges, h.braked k.braked, h.vacuum k.vacuum, h.granted k.granted⟩

end Sys2Proof.Machine
end

