-- ==== Sys2Proof/Laws/Arrival.lean ====
section
/-! SUPPORT. What the arrival of a frame can do, said once, and how an event comes to its end. -/

namespace Sys2Proof.Machine

/-! ### The end of an event -/

@[simp] theorem runTasks_nil (n : Nat) (s : State) : runTasks n [] s = .next s := by cases n <;> rfl

@[simp] theorem runTasks_succ (n : Nat) (k : Task) (l : List Task) (s : State) :
    runTasks (n + 1) (k :: l) s = runTasks n ((handle k s).now ++ l ++ (handle k s).later) (handle k s).state := rfl

@[simp] theorem finish_idle (s : State) : finish (Reaction.idle s) = .next s := rfl

theorem finish_one (s : State) (k : Task) :
    finish { state := s, now := [k] } =
      runTasks 4095 ((handle k s).now ++ [] ++ (handle k s).later) (handle k s).state := rfl

@[simp] theorem answerDone_idle (h : Head) (s : State) :
    answerDone h (Reaction.idle s) = .next (respond h .done [] s) := rfl

/-! ### Discarding and counting -/

theorem countReceived_up (p r : PortId) (s : State) : ((countReceived p s).port r).up = (s.port r).up := by
  simp only [countReceived, State.port_setPort]
  split
  · subst r; rfl
  · rfl

theorem countReceived_tx (p r : PortId) (s : State) : ((countReceived p s).port r).tx = (s.port r).tx := by
  simp only [countReceived, State.port_setPort]
  split
  · subst r; rfl
  · rfl

theorem countReceived_map (p r : PortId) (s : State) : ((countReceived p s).port r).unitMap = (s.port r).unitMap := by
  simp only [countReceived, State.port_setPort]
  split
  · subst r; rfl
  · rfl

@[simp] theorem countReceived_transports (p : PortId) (s : State) : (countReceived p s).transports = s.transports := rfl
@[simp] theorem countReceived_tr (p : PortId) (s : State) (t : TransportId) : (countReceived p s).tr t = s.tr t := rfl
@[simp] theorem countReceived_owner (p : PortId) (s : State) (t : TransportId) :
    (countReceived p s).owner t = s.owner t := rfl
@[simp] theorem countReceived_tables (p : PortId) (s : State) : (countReceived p s).tables = s.tables := rfl
@[simp] theorem countReceived_vacuum (p : PortId) (s : State) : (countReceived p s).vacuum = s.vacuum := rfl
@[simp] theorem countReceived_arbiter (p : PortId) (s : State) : (countReceived p s).arbiter = s.arbiter := rfl
@[simp] theorem countReceived_monitor (p : PortId) (s : State) : (countReceived p s).monitor = s.monitor := rfl
@[simp] theorem countReceived_owners (p : PortId) (s : State) : (countReceived p s).owners = s.owners := rfl
@[simp] theorem countReceived_resetHold (p : PortId) (s : State) : (countReceived p s).resetHold = s.resetHold := rfl
@[simp] theorem countReceived_clock (p : PortId) (s : State) : (countReceived p s).clock = s.clock := rfl
@[simp] theorem countReceived_pending (p : PortId) (s : State) : (countReceived p s).pending = s.pending := rfl
@[simp] theorem countReceived_servoOf (p : PortId) (s : State) (t : TransportId) :
    (countReceived p s).servoOf t = s.servoOf t := rfl

@[simp] theorem countReceived_addressed (p : PortId) (s : State) (h : Head) :
    (countReceived p s).addressed h = s.addressed h := by
  simp only [State.addressed, countReceived_map, countReceived_tr]
  rfl

/-- The response to a frame on an UP port joins the tail of that port's queue (R160). -/
theorem respond_eq {h : Head} {s : State} (hu : (s.port h.port).up = true) (st : Status) (b : List Byte) :
    respond h st b s = s.setPort h.port { s.port h.port with
      tx := (s.port h.port).tx ++ [{ kind := .response, unit := h.unit, tag := h.tag, code := st.code, body := b }] } := by
  simp [respond, place, hu]

/-! ### Arrival -/

theorem up_of_ready {s : State} {p : PortId} (h : s.receiveReady p = true) : (s.port p).up = true := by
  simp only [State.receiveReady, Bool.and_eq_true] at h
  exact h.1.1

theorem no_hold_of_ready {s : State} {p : PortId} (h : s.receiveReady p = true) : s.resetHold = none := by
  simp only [State.receiveReady, Bool.and_eq_true, Option.isNone_iff_eq_none] at h
  exact h.2

/-- A frame that finds receive-ready high, with a body of at most 60 bytes, is counted and served. -/
theorem arrival_taken {s : State} {p : PortId} {b : List Byte} (serve : State → Result)
    (h : s.receiveReady p = true) (hb : b.length ≤ 60) : arrival p b serve s = serve (countReceived p s) := by
  have hl : ¬ maxBody < b.length := by simp only [maxBody]; omega
  simp [arrival, up_of_ready h, no_hold_of_ready h, h, hl]

/-- What the arrival of a frame can do. -/
theorem arrival_cases {p : PortId} {b : List Byte} {serve : State → Result} {s s' : State}
    (h : arrival p b serve s = .next s') :
    s' = s ∨ s' = countCheckError p s ∨ serve (countReceived p s) = .next s' := by
  unfold arrival at h
  split at h
  · cases h; exact .inl rfl
  · split at h
    · cases h; exact .inr (.inl rfl)
    · exact .inr (.inr h)

/-- A frame with a unit that passes the unit and the ownership check is served. -/
theorem unitFrame_served {h : Head} {c : OrderClass} {t : TransportId} {s : State}
    (serve : TransportId → State → Result) (ha : s.addressed h = some t) (hc : c.passes (s.owner t) h.port = true) :
    unitFrame h c serve s = serve t s := by
  simp [unitFrame, ha, hc]

/-- What the checks of a frame with a unit can do. -/
theorem unitFrame_cases {h : Head} {c : OrderClass} {serve : TransportId → State → Result} {s s' : State}
    (k : unitFrame h c serve s = .next s') :
    s' = refuse h .unitAbsent [] s ∨
      ∃ t, s.addressed h = some t ∧
        (s' = refuseNotOwner h t [] s ∨ c.passes (s.owner t) h.port = true ∧ serve t s = .next s') := by
  unfold unitFrame at k
  split at k
  · cases k; exact .inl rfl
  · rename_i t ht
    refine .inr ⟨t, ht, ?_⟩
    split at k
    · rename_i hc; exact .inr ⟨hc, k⟩
    · cases k; exact .inl rfl

/-- An order that passes the checks of the Port Controller is served. -/
theorem orderFrame_served {h : Head} {b : List Byte} {c : OrderClass} {o : Bool} {t : TransportId} {s : State}
    (serve : TransportId → State → Result) (hr : s.receiveReady h.port = true) (hb : b.length ≤ 60)
    (ha : s.addressed h = some t) (hc : c.passes (s.owner t) h.port = true)
    (ho : (s.tr t).sense.offline = false ∨ o = true) :
    orderFrame h b c o serve s = serve t (countReceived h.port s) := by
  unfold orderFrame
  rw [arrival_taken _ hr hb, unitFrame_served _ (by simpa using ha) (by simpa using hc)]
  rcases ho with ho | ho <;> simp [ho]

/-- A servo-record frame that passes the checks of the Port Controller is served. -/
theorem servoFrame_served {h : Head} {b : List Byte} {c : OrderClass} {t : TransportId} {s : State}
    (serve : TransportId → State → Result) (hr : s.receiveReady h.port = true) (hb : b.length ≤ 60)
    (ha : s.addressed h = some t) (hc : c.passes (s.owner t) h.port = true) :
    servoFrame h b c serve s = serve t (countReceived h.port s) := by
  unfold servoFrame
  rw [arrival_taken _ hr hb, unitFrame_served _ (by simpa using ha) (by simpa using hc)]

/-- A part-wide frame with unit 255 is served. -/
theorem partFrame_served {h : Head} {b : List Byte} {s : State} (serve : State → Result)
    (hr : s.receiveReady h.port = true) (hb : b.length ≤ 60) (hu : h.unit = 255) :
    partFrame h b serve s = serve (countReceived h.port s) := by
  unfold partFrame
  rw [arrival_taken _ hr hb]
  simp [hu]

end Sys2Proof.Machine
end

