-- ==== Sys2Proof/Laws/Grants.lean ====
section
/-! SUPPORT. What the arbiter does when it serves its list and the heads start (R123 to R125): each head costs six hand-offs and leaves `State.started`. -/

namespace Sys2Proof.Machine

@[simp] theorem stopDistance_zero (p : Profile) : stopDistance p 0 = 0 := by simp [stopDistance]

theorem signed_eq_velocityOf (d : Direction) (v : Nat) : signed d v = velocityOf d v := by cases d <;> rfl

/-- Short of the EOT limit the test of R47 does not pass. -/
theorem eotLimitReached_eq_false {s : State} {t : TransportId} {m : Motion} {v : Nat}
    (h : s.ShortOfEot t m.direction (stopDistance m.copy v)) :
    eotLimitReached m (s.tr t).sense.position (s.servoOf t).eotAllowance v = false := by
  unfold eotLimitReached
  split
  · rename_i e hd hp hn
    exact decide_eq_false (by have := h hd hp e hn; omega)
  · rfl

/-- A grant delivered to a transport that starts is its first ramp step (R125). -/
theorem runTasks_deliver {s : State} {t : TransportId} {m : Motion} (h : s.StartsOnGrant t m) (n : Nat) (l : List Task) :
    runTasks (n + 5) (.deliver t :: l) (({ s with arbiter := s.arbiter.hold t } : State).setGrant t .held) =
      runTasks n l (s.started t) := by
  have hd : distanceReached m 0 = false := by
    unfold distanceReached
    split
    · rename_i r _ hr
      simpa using h.distance r hr
    · rfl
  have he : eotLimitReached m (s.tr t).sense.position (s.servoOf t).eotAllowance 0 = false :=
    eotLimitReached_eq_false (by simpa using h.tape)
  have h1 : m.copy.aAcc ≠ 0 := by have := h.copy.1; omega
  have h2 : ¬ m.copy.vTop ≤ m.copy.aAcc := by have := h.copy.2; omega
  have h3 : 0 < m.copy.vTop := by have := h.copy.2; omega
  have h4 : min m.copy.aAcc m.copy.vTop = m.copy.aAcc := by omega
  simp [runTasks_succ, handle, deliver, State.setGrant, h.motion, startSpeed, h.kind, rampStep, Transport.hasPhase,
    h.condition, Phase.moving, limitTests, h.cause, he, hd, h.still, Transport.position, Reaction.idle, velocityUpdate,
    nextSpeed, h1, h2, h3, h4, h.tach, restTest, State.started, Arbiter.hold, signed_eq_velocityOf, ServoRecord.tachTime, ms,
    Nat.mul_comm]

theorem State.tr_started_ne {s : State} {t u : TransportId} (h : u ≠ t) : (s.started t).tr u = s.tr u := by
  unfold State.started
  split
  · rfl
  · exact State.tr_setTr_ne _ _ h

/-- What `started` does to the arbiter: the transport joins the holders. -/
theorem State.started_arbiter {s : State} {t : TransportId} {m : Motion} (h : (s.tr t).motion = some m) :
    (s.started t).arbiter = s.arbiter.hold t := by
  simp [State.started, h, Arbiter.hold]

/-- Putting a transport that holds no grant among the holders makes them one more. -/
theorem holderCount_hold {a : Arbiter} {t : TransportId} (h : a.holders.get t = false) :
    (a.hold t).holderCount = a.holderCount + 1 := by
  cases t <;> simp_all [Arbiter.holderCount, Arbiter.hold, Quad.set, Quad.get] <;> omega

@[simp] theorem State.started_tables (s : State) (t : TransportId) : (s.started t).tables = s.tables := by
  unfold State.started
  split <;> rfl

theorem State.StartsOnGrant.of_tr {s w : State} {t : TransportId} {m : Motion} (h : s.StartsOnGrant t m)
    (e : w.tr t = s.tr t) (k : w.tables = s.tables) : w.StartsOnGrant t m where
  motion := e ▸ h.motion
  kind := h.kind
  condition := e ▸ h.condition
  distance := h.distance
  tape := by simpa [State.ShortOfEot, State.servoOf, e, k] using h.tape
  still := e ▸ h.still
  tach := e ▸ h.tach
  cause := e ▸ h.cause
  copy := h.copy

/-- Serving a list is serving its head and then the others. -/
theorem State.served_cons (s : State) (e : WaitEntry) (heads rest : List WaitEntry) {m : Motion}
    (hm : (s.tr e.transport).motion = some m) :
    s.served (e :: heads) rest =
      (({ s with arbiter := { s.arbiter with waiting := heads ++ rest } } : State).started e.transport).served heads rest := by
  have key : ({ s with arbiter := { s.arbiter with waiting := rest } } : State).started e.transport =
      let u := ({ s with arbiter := { s.arbiter with waiting := heads ++ rest } } : State).started e.transport
      { u with arbiter := { u.arbiter with waiting := rest } } := by
    simp [State.started, hm]
    rfl
  exact congrArg (heads.foldl fun x e => x.started e.transport) key

/-- The arbiter serves its list: the heads that find room start, first to last, and the rest stays (R123, R124). -/
theorem runTasks_serve (heads rest : List WaitEntry) (n : Nat) (l : List Task) (s : State) (h : s.Serves heads rest) :
    runTasks (n + 6 * heads.length + 1) (.serve :: l) s = runTasks n l (s.served heads rest) := by
  induction heads generalizing s with
  | nil =>
    have hw : s.arbiter.waiting = rest := h.list
    have hs : s.served [] rest = s := by simp [State.served, ← hw]
    have hr : serveList s = Reaction.idle s := by
      unfold serveList
      dsimp only
      split
      · rfl
      · rename_i e r hc
        rw [if_neg]
        obtain hf | hf := h.full
        · rw [hf] at hw; rw [hw] at hc; cases hc
        · simp only [List.length_nil, Nat.add_zero] at hf
          simp [Arbiter.room, hf.1]
          exact hf.2
    simp [handle, hr, hs, Reaction.idle]
  | cons e heads ih =>
    obtain ⟨m, hm⟩ := h.starts e List.mem_cons_self
    have hfree := h.free e List.mem_cons_self
    have hw : s.arbiter.waiting = e :: (heads ++ rest) := h.list
    have hroom : s.arbiter.room = true := by
      simp only [Arbiter.room, Bool.or_eq_true, beq_iff_eq, decide_eq_true_eq]
      obtain h0 | h0 | h0 := h.room
      · exact .inl h0
      · cases h0
      · rw [List.length_cons] at h0
        have : s.arbiter.holderCount = s.holderCount := rfl
        omega
    let u : State := { s with arbiter := { s.arbiter with waiting := heads ++ rest } }
    have hu : u.StartsOnGrant e.transport m := hm.of_tr rfl rfl
    have ho := List.nodup_cons.mp h.once
    have hne : ∀ x ∈ heads, x.transport ≠ e.transport := fun x hx hc => ho.1 (hc ▸ List.mem_map_of_mem hx)
    have ha := State.started_arbiter hu.motion
    have hc : (u.started e.transport).holderCount = s.holderCount + 1 := by
      show (u.started e.transport).arbiter.holderCount = _
      rw [ha]; exact holderCount_hold hfree
    have next : (u.started e.transport).Serves heads rest := {
      list := by rw [ha]; rfl
      starts := fun x hx => by
        obtain ⟨k, hk⟩ := h.starts x (List.mem_cons_of_mem _ hx)
        exact ⟨k, hk.of_tr (State.tr_started_ne (hne x hx)) (State.started_tables _ _)⟩
      free := fun x hx => by
        rw [ha]
        exact (Quad.get_set_ne _ _ (hne x hx)).trans (h.free x (List.mem_cons_of_mem _ hx))
      once := ho.2
      room := by
        rw [hc, ha]
        obtain h0 | h0 | h0 := h.room
        · exact .inl h0
        · cases h0
        · exact .inr (.inr (by rw [List.length_cons] at h0; simp only [Arbiter.hold]; show _ ≤ s.arbiter.limit; omega))
      full := by
        rw [hc, ha]
        refine h.full.imp_right (fun hf => ⟨hf.1, ?_⟩)
        rw [List.length_cons] at hf
        show s.arbiter.limit ≤ _
        omega }
    have hstep : serveList s =
        { state := ({ u with arbiter := u.arbiter.hold e.transport } : State).setGrant e.transport .held
          now := [.deliver e.transport, .serve] } := by
      simp only [serveList, hw, hroom, if_true]
      rfl
    rw [State.served_cons s e heads rest hm.motion, ← ih _ next]
    rw [show n + 6 * (e :: heads).length + 1 = (n + 6 * heads.length + 1) + 5 + 1 by rw [List.length_cons]; omega]
    rw [runTasks_succ]
    simp only [handle, hstep, List.append_nil]
    exact runTasks_deliver hu _ _

end Sys2Proof.Machine
end

