-- ==== Sys2Proof/Laws/Events.lean ====
section
/-! SUPPORT. What a ramp step that comes to rest, a servo sample and an applied capstan count come down to: the state after the part of the event that always happens, and the hand-offs that are left. -/

namespace Sys2Proof.Machine

/-- A ramp step in DECEL or HOLD DECEL that leaves the velocity at 0 stops both timers and hands on the rest (R50, R51). -/
theorem exec_rampStep_rests {s : State} {t : TransportId} {m : Motion} (hm : (s.tr t).motion = some m)
    (hs : (s.tr t).engine.stepTimer = true) (hh : (s.tr t).hasPhase = true)
    (hp : (s.tr t).phase = .decel ∨ (s.tr t).phase = .holdDecel) (hv : (s.tr t).engine.v.natAbs ≤ m.copy.aDec) :
    exec (.rampStep t) s = runTasks 4093 [.rest t] (s.setTr t { s.tr t with
      engine := { (s.tr t).engine with v := 0, stepTimer := false, tachTimer := none } }) := by
  have h0 : (s.tr t).engine.v.natAbs - m.copy.aDec = 0 := by omega
  obtain hp | hp := hp <;>
    simp [exec, execRampStep, finish, agendaBound, rampStep, hh, hp, hs, Phase.moving, handle, limitTests, hm, Reaction.idle,
      velocityUpdate, nextSpeed, h0, signed_eq_velocityOf, restTest, velocityOf]

/-- The transport after the column checks and the outputs of a servo sample (R4 to R6, R65 to R70). -/
def Transport.driven (tr : Transport) (x : LoopReading) (record : ServoRecord) : Transport :=
  { tr.sampled x with servo := (tr.sampled x).servoDriven record }

/-- A servo sample at which no column run and no saturation run is full leaves the band tests' hand-offs (R74, R75). -/
theorem exec_servoSample_runs {s : State} {t : TransportId} {x : LoopReading}
    (hc : columnCause ((s.tr t).sampled x).sense.columns.file ((s.tr t).sampled x).sense.columns.machine = none)
    (hs : ((s.tr t).sampled x).servoSaturates (s.servoOf t) = false) :
    exec (.servoSample t x) s = runTasks 4094
      (bandTasks t ((s.tr t).driven x (s.servoOf t)).servo.band
        (((s.tr t).driven x (s.servoOf t)).bandTested (s.servoOf t)) (s.servoOf t))
      (s.setTr t (((s.tr t).driven x (s.servoOf t)).bandTested (s.servoOf t))) := by
  simp [exec, execServoSample, finish, agendaBound, servoSample, hc, hs, sampleTasks, handle, driveOutputs, Reaction.idle,
    bandTests, Transport.driven]

/-- A count that leaves the search counter below its limit, or counts in no search, has no effect by that limit (R148,
R153). -/
theorem searchLimitTest_idle {s : State} {t : TransportId}
    (h : (s.tr t).load.step = some .search ∨ (s.tr t).load.step = some .forwardCreep →
      (s.tr t).load.searchCount < (s.servoOf t).searchLimit) : searchLimitTest t s = Reaction.idle s := by
  unfold searchLimitTest
  split
  · rename_i hr
    have h1 : (s.tr t).load.step ≠ some .search := fun k => absurd (h (.inl k)) (by omega)
    have h2 : (s.tr t).load.step ≠ some .forwardCreep := fun k => absurd (h (.inr k)) (by omega)
    cases hm : (s.tr t).current <;> simp [searchLimitReached, hm, Transport.searching, h1, h2]
  · rfl

/-- An applied count that qualifies no crossing: what it moves, and the test of the search limit (R2). -/
theorem exec_capstanCount_plain {s : State} {t : TransportId} {a b : Bool} {d : Direction}
    (hd : countDirection (s.tr t).lines a b = some d) (hc : (s.tr t).condition ≠ .unloaded)
    (hq : ∀ m, (s.tr t).sense.qualifiesAt { (s.tr t).lines with cta := a, ctb := b } d (s.servoOf t).q m = false) :
    exec (.capstanCount t a b) s = runTasks 4096 [.searchLimitTest t] (s.setTr t
      (({ s.tr t with lines := { (s.tr t).lines with cta := a, ctb := b } } : Transport).counted d (s.servoOf t))) := by
  have h1 := hq .bot
  have h2 := hq .eot
  simp only [exec, execCapstanCount, hd, setPhases, State.tr_setTr_self, beq_iff_eq, hc, if_false, applyCount,
    State.servoOf_setTr, State.setTr_setTr, h1, h2, crossingOrder, finish, agendaBound, List.map_nil, List.nil_append,
    Bool.and_self, Bool.false_eq_true, if_false, List.append_nil]

end Sys2Proof.Machine
end

