-- ==== Sys2Proof/Laws/Receiver.lean ====
section
/-! SUPPORT. What a received byte does to the state (R158, R183), and what a halted search and an entry to UNLOADED leave (R150, R106). -/

namespace Sys2Proof.Machine

/-- A byte on an UP port goes through its receiver. -/
theorem State.receive_up {s : State} {p : PortId} (h : (s.port p).up = true) (x : Byte) :
    s.receive p x = { s.setPort p { s.port p with rx := (receiveByte p (s.port p).rx x).1 } with
      pending := s.pending ++ (receiveByte p (s.port p).rx x).2.toList } := if_pos h

/-- A byte on a DOWN port is not taken. -/
theorem State.receive_down {s : State} {p : PortId} (h : (s.port p).up = false) (x : Byte) : s.receive p x = s := by
  simp [State.receive, h]

/-- A byte changes the receiver of its port and the queue of waiting commands, and nothing else. -/
theorem State.receive_frame (s : State) (p : PortId) (x : Byte) :
    s.receive p x = { s with
      ports := s.ports.set p { s.port p with rx := ((s.receive p x).port p).rx }, pending := (s.receive p x).pending } := by
  unfold State.receive
  split
  · simp [State.setPort, State.port]
  · exact congrArg (fun q => { s with ports := q }) (PerPort.set_get s.ports p).symm

@[simp] theorem State.receive_transports (s : State) (p : PortId) (x : Byte) : (s.receive p x).transports = s.transports := by
  rw [State.receive_frame]

@[simp] theorem State.receive_tables (s : State) (p : PortId) (x : Byte) : (s.receive p x).tables = s.tables := by
  rw [State.receive_frame]

@[simp] theorem State.receive_owners (s : State) (p : PortId) (x : Byte) : (s.receive p x).owners = s.owners := by
  rw [State.receive_frame]

/-- A second HALT before the rest of a halted search has no effect (R150). -/
theorem haltLoading_halted {t : TransportId} {s : State} (hs : (s.tr t).searching = true)
    (hh : (s.tr t).searchHalted = true) : haltLoading t s = Reaction.idle s := by
  have hp : (s.tr t).phase = .decel := by
    simp only [Transport.searchHalted, Bool.and_eq_true, beq_iff_eq] at hh
    exact hh.1
  simp [haltLoading, hs, hh, hp, Phase.moving]

@[simp] theorem Transport.unloaded_hold (tr : Transport) : tr.unloaded.hold = idleHold := rfl
@[simp] theorem Transport.unloaded_load (tr : Transport) : tr.unloaded.load = idleLoad := rfl
@[simp] theorem Transport.unloaded_phase (tr : Transport) : tr.unloaded.phase = .stopped := rfl
@[simp] theorem Transport.unloaded_condition (tr : Transport) : tr.unloaded.condition = .unloaded := rfl

end Sys2Proof.Machine
end

