-- ==== Sys2Proof/Tests/Slice0.lean ====
section
/-! SUPPORT. Tests: the checks of WellFormed, frames written out from chapter 12, one or two fields after single commands with values from the spec's tables and worked examples, and a state that meets the hypotheses of each statement. -/

namespace Sys2Proof.Tests

open Sys2Proof Sys2Proof.Machine

set_option Elab.async false

/-! ### Small states -/

/-- A value of the state that a command leaves. -/
def after {α : Type} (r : Result) (f : State → α) : Option α :=
  match r with
  | .next s => some (f s)
  | .fault _ => none
  | .refused _ => none

/-- Port A, unit 0, tag 7. -/
def unit0 : Head := { port := .a, unit := 0, tag := 7 }

/-- Port A, unit 255, tag 7. -/
def wide : Head := { port := .a, unit := 255, tag := 7 }

/-- The state after reset with T0 replaced. -/
def at0 (x : Transport) : State := State.reset.setTr .t0 x

/-- T0 after reset. -/
def unloaded : Transport := resetTransport initialLines defaultServo none

/-- A column that has held a loop. -/
def seenColumn : Column := { tapeSeen := true, zeroRun := 0, upperRun := 0, lowerRun := 0 }

/-- A LOADED transport at rest with its loops at the setpoint. -/
def resting : Transport :=
  { unloaded with
    condition := .loaded, brakesEngaged := false, valveOpen := true
    sense := { unloaded.sense with
      depths := { file := 128, machine := 128 }, columns := { file := seenColumn, machine := seenColumn } }
    servo := { unloaded.servo with mode := .track, band := .inRecovery } }

/-- A forward MOVE of 300 counts on profile 0 from port A with tag 9. -/
def move300 : Motion :=
  { kind := .move, tag := 9, origin := .port .a, direction := .forward, profileNo := 0, copy := profile0, r := some 300
    endReason := none, arrivalUnit := none }

/-- `resting` with that MOVE in a phase at a velocity. -/
def running (ph : Phase) (v : Int) : Transport :=
  { resting with
    phase := ph, motion := some move300
    engine := { idleEngine with v := v, workTop := some 62500, stepTimer := true, tachTimer := some 5000 } }

/-- `running` with another motion. -/
def withMotion (ph : Phase) (v : Int) (m : Motion) : Transport := { running ph v with motion := some m }

/-- A queued MOVE as it stands in the queue. -/
def queuedMove : OrderRecord :=
  { kind := .move, origin := .port .a, tag := 3, direction := some .forward, profile := none, distance := some 100
    arrivalUnit := none }

/-- A LOADING transport in a step with its timer running. -/
def loadingIn (step : SeqStep) : Transport :=
  { unloaded with
    condition := .loading
    load := { idleLoad with
      sequence := .load, record := some { origin := .port .a, tag := 5 }, step := some step, timer := some 1000 } }

/-- A servo reading of both columns with no end switch active. -/
def depths (f m : Byte) : LoopReading := { flp := f, mlp := m, fue := false, fle := false, mue := false, mle := false }

/-- A fault snapshot. -/
def someSnapshot : Snapshot := resting.takeSnapshot .tachLoss

/-- A FAULTED transport. -/
def faultedBy (c : FaultCause) : Transport :=
  { resting with
    condition := .faulted, brakesEngaged := true, faultCause := some c, snapshot := some someSnapshot
    servo := { resting.servo with mode := .zero } }

/-! ### WellFormed -/

theorem test_long_body_is_refused : (Instr.move unit0 (List.replicate 61 0)).wellFormed = false := by decide

theorem test_known_code_is_no_unknown_code : (Instr.unknownCodeFrame unit0 .order 0x11).wellFormed = false := by decide

theorem test_code_of_the_other_kind_is_unknown :
    (Instr.unknownCodeFrame unit0 .order 0x48).wellFormed = true := by decide

theorem test_body_of_60_fits : (Instr.loadServo unit0 (List.replicate 60 0)).wellFormed = true := by decide

/-! ### Frames (R182, R183, R185, R187); check bytes worked out by hand from R183 -/

theorem test_no_word_spells_a_command : decodeTableWord 16 0x11 = none := rfl

theorem test_stop_frame :
    receiveBytes .a none [0xA5, 0x01, 0x00, 0x07, 0x11, 0x00, 0x0E, 0x8F] = (none, [.stop unit0]) := by decide +kernel

theorem test_move_frame :
    receiveBytes .a none [0xA5, 0x01, 0x00, 0x07, 0x01, 0x06, 0x00, 0x02, 0x00, 0x00, 0x01, 0x2C, 0xC9, 0x47] =
      (none, [.move unit0 [0x00, 0x02, 0x00, 0x00, 0x01, 0x2C]]) := by decide +kernel

theorem test_set_grant_limit_frame :
    receiveBytes .a none [0xA5, 0x02, 0xFF, 0x07, 0x48, 0x01, 0x03, 0x39, 0x8C] = (none, [.setGrantLimit wide [0x03]]) := by
  decide +kernel

theorem test_reserve_frame :
    receiveBytes .b none [0xA5, 0x01, 0x01, 0x09, 0x16, 0x00, 0xFA, 0xAD] =
      (none, [.reserve { port := .b, unit := 1, tag := 9 }]) := by decide +kernel

theorem test_read_servo_frame :
    receiveBytes .b none [0xA5, 0x02, 0x02, 0x08, 0x44, 0x00, 0xD0, 0x4E] =
      (none, [.readServo { port := .b, unit := 2, tag := 8 }]) := by decide +kernel

theorem test_rewind_frame :
    receiveBytes .a none [0xA5, 0x01, 0x02, 0x03, 0x02, 0x01, 0x0F, 0x38, 0x51] =
      (none, [.rewind { port := .a, unit := 2, tag := 3 } [0x0F]]) := by decide +kernel

theorem test_bad_check_fails :
    receiveBytes .a none [0xA5, 0x01, 0x00, 0x07, 0x11, 0x00, 0x0E, 0x8E] = (none, [.frameCheckFailure .a .badCrc]) := by
  decide +kernel

theorem test_long_frame_fails_at_its_length_byte :
    receiveBytes .a none [0xA5, 0x01, 0x00, 0x07, 0x01, 0x3D] = (none, [.frameCheckFailure .a .longBody]) := by
  decide +kernel

theorem test_unknown_code_frame :
    receiveBytes .a none [0xA5, 0x01, 0x03, 0x05, 0x7F, 0x00, 0xD3, 0x16] =
      (none, [.unknownCodeFrame { port := .a, unit := 3, tag := 5 } .order 0x7F]) := by decide +kernel

/-! ### Counts and samples -/

/-- R1: from both phases low, CTA rising is FORWARD and CTB rising is REVERSE. -/
theorem test_capstan_count_directions :
    after (exec (.capstanCount .t0 true false) (at0 resting)) (fun s => (s.tr .t0).position.count) = some 1 ∧
    after (exec (.capstanCount .t0 false true) (at0 resting)) (fun s => (s.tr .t0).position.count) = some (-1) := by
  decide +kernel

/-- R24: a forward count leaves 299 of 300. -/
theorem test_capstan_count_counts_r :
    after (exec (.capstanCount .t0 true false) (at0 (running .cruise 62500)))
      (fun s => ((s.tr .t0).motion.map Motion.r)) = some (some (some 299)) := by decide +kernel

theorem test_reel_count :
    after (exec (.reelCount .t0 .file) (at0 resting)) (fun s => (s.tr .t0).servo.reels.file.reelCount) = some 1 := by
  decide +kernel

/-- `running` with the reel estimates of the worked example of chapter 4. -/
def streaming (v : Int) (file machine : Int) : Transport :=
  { running .cruise v with
    servo := { resting.servo with
      reels := { file := { idleReel 342 with demand := file }, machine := { idleReel 250 with demand := machine } } } }

/-- Chapter 4, Reel Demands Through a Start, sample 3: outputs 167 and 188. -/
theorem test_servo_sample_3 :
    after (exec (.servoSample .t0 (depths 122 136)) (at0 (streaming 37500 103 124)))
      (fun s => ((s.tr .t0).servo.reels.file.demand, (s.tr .t0).servo.reels.machine.demand)) = some (167, 188) := by
  decide +kernel

/-- The same example, the later sample: outputs 282 and 264. -/
theorem test_servo_sample_later :
    after (exec (.servoSample .t0 (depths 118 131)) (at0 (streaming 62500 250 200)))
      (fun s => ((s.tr .t0).servo.reels.file.demand, (s.tr .t0).servo.reels.machine.demand)) = some (282, 264) := by
  decide +kernel

/-- Chapter 4, Windows During a Forward Stream, window 2: n 110 takes 342 to 333. -/
theorem test_radius_window_2 :
    after (exec (.radiusWindowClose .t0 .file) (at0 { resting with
      servo := { resting.servo with reels := { resting.servo.reels with file := { idleReel 342 with reelCount := 110 } } } }))
      (fun s => (s.tr .t0).servo.reels.file.radius) = some 333 := by decide +kernel

/-- The same example, window 5: n 205 takes 176 to the clamp at 175. -/
theorem test_radius_window_5 :
    after (exec (.radiusWindowClose .t0 .file) (at0 { resting with
      servo := { resting.servo with reels := { resting.servo.reels with file := { idleReel 176 with reelCount := 205 } } } }))
      (fun s => (s.tr .t0).servo.reels.file.radius) = some 175 := by decide +kernel

/-- Chapter 3, a 300-Count MOVE, step 18: 56,250 becomes 59,375. Step 19: the distance test passes at R 152, and 59,375
becomes 56,250 in DECEL. -/
theorem test_ramp_steps_18_and_19 :
    after (exec (.rampStep .t0) (at0 (withMotion .accel 56250 { move300 with r := some 167 })))
      (fun s => ((s.tr .t0).engine.v, (s.tr .t0).phase)) = some (59375, .accel) ∧
    after (exec (.rampStep .t0) (at0 (withMotion .accel 59375 { move300 with r := some 152 })))
      (fun s => ((s.tr .t0).engine.v, (s.tr .t0).phase)) = some (56250, .decel) := by decide +kernel

/-- R137: the first sample at or above RUN starts the settle timer at 0. -/
theorem test_pressure_sample_starts_settling :
    after (exec (.pressureSample 170) { State.reset with vacuum := { resetVacuum with blower := .normal } })
      (fun s => (s.vacuum.settle, s.vacuum.ready)) = some (some 0, false) := by decide +kernel

/-- R138: a sample below SAG loses READY. -/
theorem test_pressure_sample_below_sag :
    after (exec (.pressureSample 139) { State.reset with
      vacuum := { resetVacuum with blower := .normal, ready := true, settle := some 300 } })
      (fun s => (s.vacuum.settle, s.vacuum.ready)) = some (none, false) := by decide +kernel

/-! ### Lines and panel -/

theorem test_marker_input_change :
    after (exec (.markerInputChange .t0 .bot true) (at0 resting)) (fun s => (s.tr .t0).lines.bots) = some true := by
  decide +kernel

/-- R12: an opened cover at a LOADED transport is COVER OPEN. -/
theorem test_cover_change :
    after (exec (.coverChange .t0 true) (at0 resting)) (fun s => ((s.tr .t0).condition, (s.tr .t0).faultCause)) =
      some (.faulted, some .coverOpen) := by decide +kernel

theorem test_reel_present_change :
    after (exec (.reelPresentChange .t0 .machine false) (at0 unloaded)) (fun s => (s.tr .t0).lines.machineReel) =
      some false := by decide +kernel

theorem test_transport_present_change :
    after (exec (.transportPresentChange .t0 false) (at0 unloaded)) (fun s => (s.tr .t0).lines.present) = some false := by
  decide +kernel

/-- R14, R186: ONLINE CHANGE carries the transport and 1 for OFFLINE. -/
theorem test_online_switch_change :
    after (exec (.onlineSwitchChange .t0 true) (at0 resting))
      (fun s => ((s.tr .t0).sense.offline, (s.port .b).tx.map OutFrame.body)) = some (true, [[0, 1]]) := by decide +kernel

/-- An OFFLINE transport. -/
def offline (x : Transport) : Transport :=
  { x with lines := { x.lines with offlineSwitch := true }, sense := { x.sense with offline := true } }

theorem test_panel_load_press :
    after (exec (.panelLoadPress .t0) (at0 (offline unloaded)))
      (fun s => ((s.tr .t0).condition, (s.tr .t0).load.step, s.vacuum.blower)) =
      some (.loading, some .vacuum, .normal) := by decide +kernel

/-- R151: a REWIND of an unreferenced transport begins with REVERSE. -/
theorem test_panel_rewind_press :
    after (exec (.panelRewindPress .t0) (at0 (offline resting)))
      (fun s => ((s.tr .t0).phase, (s.tr .t0).load.step)) = some (.waitVacuum, some .reverse) := by decide +kernel

theorem test_panel_unload_press :
    after (exec (.panelUnloadPress .t0) (at0 (offline resting)))
      (fun s => (s.tr .t0).motion.map Motion.kind) = some (some .unload) := by decide +kernel

/-! ### Links -/

theorem test_carrier_up :
    after (exec (.carrierUp .b) (State.reset.setPort .b (resetPort false))) (fun s => (s.port .b).up) = some true := by
  decide +kernel

theorem test_carrier_down :
    after (exec (.carrierDown .a) State.reset) (fun s => (s.port .a).up) = some false := by decide +kernel

/-- R158, R183: half a STOP, the line down and up, and the other half complete no frame. -/
theorem test_carrier_down_abandons_a_frame :
    (after (exec (.carrierDown .a) ([0xA5, 0x01, 0x00, 0x07].foldl (fun s b => s.receive .a b) State.reset))
      (fun s => after (exec (.carrierUp .a) s)
        (fun s => ([0x11, 0x00, 0x0E, 0x8F].foldl (fun s b => s.receive .a b) s).pending))) = some (some []) := by
  decide +kernel

/-- A port with one frame in its queue. -/
def oneFrame : Port := { resetPort true with tx := [{ kind := .response, unit := 0, tag := 1, code := 0, body := [] }] }

theorem test_transmission_end :
    after (exec (.transmissionEnd .a) (State.reset.setPort .a oneFrame)) (fun s => (s.port .a).tx.length) = some 0 := by
  decide +kernel

theorem test_frame_check_failure :
    after (exec (.frameCheckFailure .a .badCrc) State.reset) (fun s => (s.port .a).counters.checkErrors) = some 1 := by
  decide +kernel

theorem test_unknown_code :
    after (exec (.unknownCodeFrame unit0 .order 0x7F) State.reset) (fun s => (s.port .a).tx.map OutFrame.code) =
      some [0x2C] := by decide +kernel

/-! ### Orders -/

/-- R27: the taken MOVE waits for vacuum with its distance. -/
theorem test_move :
    after (exec (.move unit0 [0, 2, 0, 0, 1, 0x2C]) (at0 resting))
      (fun s => ((s.tr .t0).phase, (s.tr .t0).motion.map Motion.r, s.owner .t0)) =
      some (.waitVacuum, some (some 300), some .a) := by decide +kernel

/-- R21: a distance of 0 is a bad field. -/
theorem test_move_of_no_distance :
    after (exec (.move unit0 [0, 2, 0, 0, 0, 0]) (at0 resting)) (fun s => (s.port .a).tx.map OutFrame.code) =
      some [0x26] := by decide +kernel

/-- R21: profile 0 is not of the REWIND class. -/
theorem test_rewind_on_profile_0 :
    after (exec (.rewind unit0 [0]) (at0 resting)) (fun s => (s.port .a).tx.map OutFrame.code) = some [0x25] := by
  decide +kernel

theorem test_unload_when_unloaded :
    after (exec (.unload unit0) State.reset) (fun s => (s.port .a).tx.map OutFrame.code) = some [0x23] := by decide +kernel

theorem test_load :
    after (exec (.load unit0) State.reset) (fun s => ((s.tr .t0).condition, (s.tr .t0).load.timer)) =
      some (.loading, some 10000000) := by decide +kernel

theorem test_stop :
    after (exec (.stop unit0) (at0 (running .cruise 62500))) (fun s => ((s.tr .t0).phase, (s.tr .t0).motion.bind Motion.endReason)) =
      some (.decel, some .stop) := by decide +kernel

/-- R34, R37: the queued record ends ABORTED before the DONE of the HALT. -/
theorem test_halt :
    after (exec (.halt unit0) (at0 { running .cruise 62500 with queue := [queuedMove] }))
      (fun s => ((s.tr .t0).phase, (s.port .a).tx.map OutFrame.code)) = some (.decel, [0x10, 0x00]) := by decide +kernel

theorem test_pause :
    after (exec (.pause unit0) (at0 (running .cruise 62500))) (fun s => ((s.tr .t0).phase, (s.tr .t0).hold.cause)) =
      some (.holdDecel, some .pause) := by decide +kernel

theorem test_continue :
    after (exec (.continueOrder unit0) (at0 { resting with paused := true })) (fun s => (s.tr .t0).paused) = some false := by
  decide +kernel

theorem test_select_profile :
    after (exec (.selectProfile unit0 [15]) (at0 resting)) (fun s => (s.tr .t0).selected) = some 15 := by decide +kernel

theorem test_reserve :
    after (exec (.reserve unit0) State.reset) (fun s => s.owner .t0) = some (some .a) := by decide +kernel

/-- R186: every answer to RELEASE carries the transport. -/
theorem test_release :
    after (exec (.release unit0) (State.reset.setOwner .t0 (some .a)))
      (fun s => (s.owner .t0, (s.port .a).tx.map OutFrame.body)) = some (none, [[0]]) := by decide +kernel

/-- R169: the transport of a DOWN port is taken, and its loss is held for that port. -/
theorem test_force_release :
    after (exec (.forceRelease unit0) ((State.reset.setPort .b (resetPort false)).setOwner .t0 (some .b)))
      (fun s => (s.owner .t0, (s.port .b).heldLost.t0)) = some (some .a, true) := by decide +kernel

theorem test_clear_fault_after_tach_loss :
    after (exec (.clearFault unit0) (at0 (faultedBy .tachLoss))) (fun s => ((s.tr .t0).condition, (s.tr .t0).brakesEngaged)) =
      some (.loaded, false) := by decide +kernel

theorem test_clear_fault_after_tape_break :
    after (exec (.clearFault unit0) (at0 (faultedBy .tapeBreak))) (fun s => ((s.tr .t0).condition, (s.tr .t0).valveOpen)) =
      some (.unloaded, false) := by decide +kernel

/-- R189: condition LOADED in bits 0 to 2 and phase STOPPED in bits 3 to 6 make 10; the velocity 62,500 is 00 F4 24. -/
theorem test_sense :
    after (exec (.sense unit0) (at0 resting)) (fun s => (s.port .a).tx.map (fun f => f.body.head?)) = some [some 10] ∧
    after (exec (.sense unit0) (at0 (running .cruise 62500)))
      (fun s => (s.port .a).tx.map (fun f => (f.body.drop 23).take 3)) = some [[0x00, 0xF4, 0x24]] := by decide +kernel

theorem test_read_snapshot :
    after (exec (.readSnapshot unit0) State.reset) (fun s => (s.port .a).tx.map OutFrame.body) = some [[]] ∧
    after (exec (.readSnapshot unit0) (at0 (faultedBy .tachLoss))) (fun s => (s.port .a).tx.map (fun f => f.body.length)) =
      some [42] := by decide +kernel

/-! ### Management -/

theorem test_load_profile :
    after (exec (.loadProfile wide [1, 1, 0x00, 0xF4, 0x24, 0x0C, 0x35, 0x0C, 0x35, 0x00, 0xFA, 4, 0, 0]) State.reset)
      (fun s => s.tables.profiles.get 1) = some (some profile0) := by decide +kernel

/-- R191: profile 0 is 62,500 = 00F424h, 3,125 = 0C35h twice, 250 = 00FAh, priority 4. -/
theorem test_read_profile :
    after (exec (.readProfile wide [0]) State.reset) (fun s => (s.port .a).tx.map OutFrame.body) =
      some [[0, 1, 0x00, 0xF4, 0x24, 0x0C, 0x35, 0x0C, 0x35, 0x00, 0xFA, 4, 0, 0]] := by decide +kernel

theorem test_lock_bank :
    after (exec (.lockBank wide [1]) State.reset) (fun s => (s.tables.lock0, s.tables.lock1)) = some (false, true) := by
  decide +kernel

/-- R191: a servo record has 44 bytes, of which the last is the wind time in 100 ms. -/
theorem test_read_servo :
    after (exec (.readServo unit0) State.reset) (fun s => (s.port .a).tx.map (fun f => (f.body.length, f.body.getLast?))) =
      some [(44, some 30)] := by decide +kernel

theorem test_load_servo :
    after (exec (.loadServo unit0 { defaultServo with kp := 41 }.bytes) State.reset) (fun s => (s.servoOf .t0).kp) =
      some 41 := by decide +kernel

theorem test_set_unit_map :
    after (exec (.setUnitMap wide (3 :: List.replicate 15 0xFF)) State.reset)
      (fun s => ((s.port .a).unitMap.get 0, (s.port .a).unitMap.get 1)) = some (some .t3, none) := by decide +kernel

theorem test_read_unit_map :
    after (exec (.readUnitMap wide) State.reset) (fun s => (s.port .a).tx.map (fun f => f.body.take 5)) =
      some [[0, 1, 2, 3, 0xFF]] := by decide +kernel

theorem test_set_vacuum :
    after (exec (.setVacuum wide [0, 60, 140, 160]) (at0 resting)) (fun s => (s.vacuum.mode, s.vacuum.blower)) =
      some (.normal, .normal) := by decide +kernel

theorem test_set_grant_limit :
    after (exec (.setGrantLimit wide [3]) State.reset) (fun s => s.arbiter.limit) = some 3 := by decide +kernel

/-- R190 with the values of R131 and R142. -/
theorem test_sense_string :
    after (exec (.senseString wide) State.reset) (fun s => (s.port .a).tx.map OutFrame.body) =
      some [[2, 0, 0, 0, 0, 0, 0, 2, 0, 60, 140, 160, 0, 0, 0, 0, 0, 0]] := by decide +kernel

theorem test_set_monitor :
    after (exec (.setMonitor wide [1, 2, 0]) State.reset) (fun s => (s.monitor.measure, s.monitor.transport, s.monitor.filter)) =
      some (.startLatency, .t2, .forward) := by decide +kernel

theorem test_read_monitor :
    after (exec (.readMonitor wide) State.reset) (fun s => (s.port .a).tx.map OutFrame.body) =
      some [[0, 0, 2, 0, 0, 0, 0, 0, 0, 0]] := by decide +kernel

/-- R181: the frame that asks is counted already. -/
theorem test_read_counters :
    after (exec (.readCounters wide [0]) State.reset) (fun s => (s.port .a).tx.map (fun f => f.body.take 2)) =
      some [[0, 1]] := by decide +kernel

/-! ### Resets and expiries -/

theorem test_hard_reset :
    after (exec .hardReset (at0 resting)) (fun s => (s.tr .t0).condition) = some .unloaded := by decide +kernel

theorem test_part_reset :
    after (exec (.partReset wide) (at0 resting)) (fun s => ((s.tr .t0).condition, s.receiveReady .b, (s.port .a).tx.length)) =
      some (.unloaded, false, 0) := by decide +kernel

theorem test_part_reset_hold_expiry :
    after (exec .partResetHoldExpiry { State.reset with resetHold := some { port := .a, tag := 7, timer := 0 } })
      (fun s => (s.receiveReady .b, (s.port .a).tx.map OutFrame.unit)) = some (true, [255]) := by decide +kernel

theorem test_tach_loss_detection :
    after (exec (.tachLossDetection .t0) (at0 (running .cruise 62500)))
      (fun s => ((s.tr .t0).phase, (s.tr .t0).engine.tach)) = some (.decel, .detected) := by decide +kernel

/-- `resting` with the loop-guard timer running. -/
def guarded : Transport := { resting with servo := { resting.servo with loopGuard := some 1, band := .outsideGuard } }

theorem test_loop_guard_timer_expiry :
    after (exec (.loopGuardTimerExpiry .t0) (at0 guarded)) (fun s => (s.tr .t0).faultCause) = some (some .recoveryTimeout) := by
  decide +kernel

/-- A transport HELD by LOOP GUARD over a saved MOVE. -/
def heldByGuard : Transport :=
  { resting with
    phase := .held
    hold := { idleHold with
      slot1 := .saved move300, inService := noRanks.put .loopGuard true, active := some .loopGuard, settle := 19
      timer := some 1 } }

theorem test_recovery_timer_expiry :
    after (exec (.recoveryTimerExpiry .t0) (at0 heldByGuard)) (fun s => (s.port .a).tx.map OutFrame.code) =
      some [0x10, 0x02] := by decide +kernel

/-- A quiet string in AUTO with the economy timer running. -/
def quietString : State :=
  { at0 resting with
    vacuum := { resetVacuum with blower := .normal, ready := true, settle := some 300, economy := some 1 } }

theorem test_economy_timer_expiry :
    after (exec .economyTimerExpiry quietString) (fun s => (s.vacuum.blower, s.vacuum.ready)) = some (.economy, false) := by
  decide +kernel

/-- R149, R188: LOAD FAILED with the step VACUUM, which is 1. -/
theorem test_vacuum_step_expiry :
    after (exec (.vacuumStepExpiry .t0) (at0 (loadingIn .vacuum)))
      (fun s => (s.port .a).tx.map (fun f => (f.code, f.body.getLast?))) = some [(0x2B, some 1)] := by decide +kernel

theorem test_draw_limit_expiry :
    after (exec (.drawLimitExpiry .t0) (at0 (loadingIn .draw)))
      (fun s => (s.port .a).tx.map (fun f => (f.code, f.body.getLast?))) = some [(0x2B, some 2)] := by decide +kernel

/-- An UNLOAD in its WIND step. -/
def winding : Transport :=
  { resting with
    condition := .unloading, valveOpen := false, motion := some { move300 with kind := .unload, r := none }
    load := { idleLoad with sequence := .unload, step := some .wind, timer := some 1 }
    servo := { resting.servo with mode := .wind } }

/-- R155: DONE for the UNLOAD, then NOT LOADED for the record behind it. -/
theorem test_unload_wind_expiry :
    after (exec (.unloadWindExpiry .t0) (at0 { winding with queue := [queuedMove] }))
      (fun s => ((s.tr .t0).condition, (s.port .a).tx.map OutFrame.code)) = some (.unloaded, [0x00, 0x23]) := by decide +kernel

theorem test_ready_becomes_true :
    after (exec .readyBecomesTrue { at0 (loadingIn .vacuum) with vacuum := { resetVacuum with blower := .normal } })
      (fun s => (s.vacuum.ready, (s.tr .t0).valveOpen)) = some (true, true) := by decide +kernel

/-- A marker run under way. -/
def onMarker (m : Marker) (d : Direction) (x : Transport) : Transport :=
  { x with sense := (x.sense.setRun m { count := 39, direction := d, edge := 229, qualified := false }) }

/-- Chapter 1, Qualifying BOT During the LOAD Search: the count 269 with the edge stamp 229 becomes 40. -/
theorem test_marker_crossing :
    after (exec (.markerCrossingQualified .t0 .bot)
      (at0 ((onMarker .bot .forward resting).setPosition { clearedPosition with count := 269 })))
      (fun s => ((s.tr .t0).position.count, (s.tr .t0).position.referenced)) = some (40, true) := by decide +kernel

theorem test_tape_break :
    after (exec (.tapeBreak .t0 .file) (at0 resting)) (fun s => (s.tr .t0).faultCause) = some (some .tapeBreak) := by
  decide +kernel

theorem test_column_end :
    after (exec (.columnEnd .t0 .machine .upper) (at0 resting)) (fun s => (s.tr .t0).faultCause) = some (some .columnEnd) := by
  decide +kernel

theorem test_drive_saturation :
    after (exec (.driveSaturation .t0 .file) (at0 (running .cruise 62500))) (fun s => (s.tr .t0).faultCause) =
      some (some .driveSaturation) := by decide +kernel

theorem test_recovery_settled :
    after (exec (.recoverySettled .t0) (at0 heldByGuard)) (fun s => ((s.tr .t0).phase, (s.tr .t0).motion)) =
      some (.waitVacuum, some move300) := by decide +kernel

/-- The motion of a LOAD search. -/
def searchMove : Motion := { move300 with kind := .load, r := none, copy := profile0.forSearch 12500 }

/-- A LOADING transport searching for BOT. -/
def searching (ph : Phase) (v : Int) : Transport :=
  { withMotion ph v searchMove with
    condition := .loading
    load := { idleLoad with sequence := .load, record := some { origin := .port .a, tag := 5 }, step := some .search } }

/-- R150: a second HALT before the rest of a halted search has no effect, so a LOOP GUARD pending since stays. -/
theorem test_second_halt_of_a_search :
    after (exec (.halt unit0) (at0 { withMotion .decel 3125 { searchMove with endReason := some .halt } with
        condition := .loading, load := (searching .decel 3125).load, hold := { idleHold with pending := noRanks.put .loopGuard true } }))
      (fun s => ((s.tr .t0).hold.pending.loopGuard, (s.port .a).tx.map OutFrame.code)) = some (true, [0x00]) := by decide +kernel

/-- R60, R30: an UNLOAD with end reason BOT that rests with COUNT SEEN ends AT BOT and stays LOADED. R93, R103, R150: the
rest of a halted search leaves nothing pending. -/
theorem test_rests_without_wind_or_hold :
    after (exec (.rampStep .t0) (at0 { withMotion .decel 3125 { move300 with kind := .unload, r := none, endReason := some .bot } with
        engine := { (running .decel 3125).engine with tach := .countSeen } }))
      (fun s => ((s.tr .t0).condition, (s.port .a).tx.map OutFrame.code)) = some (.loaded, [0x02]) ∧
    after (exec (.rampStep .t0) (at0 { withMotion .decel 3125 { searchMove with endReason := some .halt } with
        condition := .loading, load := (searching .decel 3125).load, hold := { idleHold with pending := noRanks.put .loopGuard true } }))
      (fun s => ((s.tr .t0).condition, (s.tr .t0).hold)) = some (.unloaded, idleHold) := by decide +kernel

theorem test_search_limit_reached :
    after (exec (.searchLimitReached .t0) (at0 (searching .cruise 12500)))
      (fun s => ((s.tr .t0).phase, (s.tr .t0).load.outcome)) = some (.decel, .limit) := by decide +kernel

/-- R148, R149: at the limit in a waiting phase the LOAD ends NO BOT at once, LOADED and unreferenced. -/
theorem test_search_limit_in_a_wait :
    after (exec (.searchLimitReached .t0) (at0
        ((searching .waitVacuum 0).setPosition { clearedPosition with referenced := true, count := 40 })))
      (fun s => ((s.tr .t0).condition, (s.tr .t0).position.referenced, (s.tr .t0).position.count,
        (s.port .a).tx.map OutFrame.code)) = some (.loaded, false, 40, [0x04]) := by decide +kernel

/-! ### States that meet the hypotheses of the statements, clause by clause -/

/-- A frame of Port A is taken in these states. -/
theorem takes_at0 (x : Transport) {b : List Byte} (h : b.length ≤ 60) : (at0 x).Takes .a b := ⟨rfl, h⟩

/-- Port A may send to T0, which no one owns. -/
theorem maySend_at0 {x : Transport} (h : x.lines.present = true) : (at0 x).MaySend unit0 .t0 :=
  ⟨by
    show (if x.lines.present = true then some TransportId.t0 else none) = some .t0
    rw [if_pos h], .inl rfl⟩

/-- Port A may order T0, which no one owns and which is ONLINE. -/
theorem mayOrder_at0 {x : Transport} (h : x.lines.present = true) (ho : x.sense.offline = false) :
    (at0 x).MayOrder unit0 .t0 := ⟨maySend_at0 h, ho⟩

/-- This transport with its position past EOT by this distance. -/
def pastEot (n : Int) (x : Transport) : Transport :=
  { x with sense := { x.sense with position := { x.sense.position with pastEot := true, eotPoint := some 0, count := n } } }

/-- This transport with its position referenced at this count. -/
def referencedAt (n : Int) (x : Transport) : Transport :=
  { x with sense := { x.sense with position := { x.sense.position with referenced := true, count := n } } }

/-- The EOT allowance met, just not met, and the stop at BOT. -/
theorem limitMet_pastEot (x : Transport) : (at0 (pastEot 90000 x)).LimitMet .t0 .forward 3 :=
  .inl ⟨rfl, rfl, rfl, 0, rfl, by show (90000 : Int) ≤ 90000 - 0; decide⟩

theorem limitMet_atBot (x : Transport) : (at0 (referencedAt 0 x)).LimitMet .t0 .reverse 2 :=
  .inr ⟨rfl, rfl, rfl, Int.le_refl 0⟩

theorem limitFree_forward {s : State} {t : TransportId} (h : (s.tr t).sense.position.pastEot = false) (code : Byte) :
    ¬ s.LimitMet t .forward code := by
  rintro (⟨_, _, k, _⟩ | ⟨k, _⟩)
  · rw [h] at k; cases k
  · cases k

theorem limitFree_shortOfEot (x : Transport) (code : Byte) : ¬ (at0 (pastEot 89999 x)).LimitMet .t0 .forward code := by
  rintro (⟨_, _, _, e, he, k⟩ | ⟨k, _⟩)
  · cases he; exact absurd (show (90000 : Int) ≤ 89999 - 0 from k) (by decide)
  · cases k

/-- T0 holds no grant and asks for none. -/
theorem free_at0 {x : Transport} (h : x.engine.grant = .none) : (at0 x).FreeToLetGo .t0 :=
  ⟨by rw [show (at0 x).tr .t0 = x from rfl, h]; decide, by rw [show (at0 x).tr .t0 = x from rfl, h]; intro k; cases k⟩

theorem witness_EmptyQueueStepIsOneMicrosecond : State.reset.pending = [] := rfl

theorem witness_LockedBankNeverChanges :
    (Instr.reserve unit0) ≠ .hardReset ∧ ∃ s, exec (.reserve unit0) State.reset = .next s := ⟨nofun, _, rfl⟩

theorem witness_TablesChangeOnlyByTheirCommands : ∃ s, exec (.reserve unit0) State.reset = .next s ∧
    (∀ h b, Instr.reserve unit0 ≠ .loadProfile h b) ∧ (∀ h b, Instr.reserve unit0 ≠ .lockBank h b) ∧
    (∀ h b, Instr.reserve unit0 ≠ .loadServo h b) ∧ Instr.reserve unit0 ≠ .hardReset := ⟨_, rfl, nofun, nofun, nofun, nofun⟩

theorem witness_FrameBytesDecodeToTheirCommand :
    (Instr.stop unit0).wellFormed = true ∧ (Instr.stop unit0).framePort? = some .a := ⟨rfl, rfl⟩

/-- Profile 0 of the table is legal. -/
theorem profile0_legal : profile0.Legal where
  top := by decide
  acc := by decide
  dec := by decide
  period := by decide
  priority := by decide
  startStop := fun _ => rfl
  rewind := nofun

theorem witness_LoadProfileStoresTheEntry : (∀ p, some profile0 = some p → p.Legal) ∧ wide.unit = 255 ∧
    State.reset.Takes .a (profileBytes 1 (some profile0)) ∧ State.reset.tables.locked 1 = false :=
  ⟨fun _ h => Option.some.inj h ▸ profile0_legal, rfl, ⟨rfl, by decide +kernel⟩, by decide +kernel⟩

/-- The state after reset with bank 0 locked. -/
def lockedState : State := { State.reset with tables := { defaultTables with lock0 := true } }

theorem witness_LoadProfileRefusals :
    (State.reset.Takes .a (profileBytes 1 (some { profile0 with vTop := 999 })) ∧ ¬ ({ profile0 with vTop := 999 } : Profile).Legal) ∧
    (lockedState.Takes .a (profileBytes 1 (some profile0)) ∧ profile0.Legal ∧ lockedState.tables.locked 1 = true) :=
  ⟨⟨⟨rfl, by decide +kernel⟩, fun h => absurd h.top.1 (by decide)⟩, ⟨rfl, by decide +kernel⟩, profile0_legal, by decide +kernel⟩

theorem witness_ReadProfileReturnsTheEntry :
    State.reset.Takes .a [15] ∧ (15 : Byte).toNat < 16 ∧ State.reset.Takes .a [16] ∧ 16 ≤ (16 : Byte).toNat :=
  ⟨⟨rfl, by decide⟩, by decide, ⟨rfl, by decide⟩, by decide⟩

theorem witness_LockBankLocksTheNamedBank : State.reset.Takes .a [0] ∧ State.reset.Takes .a [1] ∧ State.reset.Takes .a [2] ∧
    1 < (2 : Byte).toNat := ⟨⟨rfl, by decide⟩, ⟨rfl, by decide⟩, ⟨rfl, by decide⟩, by decide⟩

theorem witness_ServoRecordLoadsAndReads :
    (State.reset.Takes .a defaultServo.bytes ∧ State.reset.addressed unit0 = some .t0 ∧ State.reset.owner .t0 = none ∧
      defaultServo.valid = true ∧ 100 ∣ defaultServo.windTime ∧ (State.reset.tr .t0).condition = .unloaded) ∧
    ((at0 (running .cruise 62500)).Takes .a defaultServo.bytes ∧ (at0 (running .cruise 62500)).MaySend unit0 .t0 ∧
      ((at0 (running .cruise 62500)).tr .t0).phase ≠ .stopped) :=
  ⟨⟨⟨rfl, by decide +kernel⟩, rfl, rfl, by decide +kernel, ⟨30, rfl⟩, rfl⟩, takes_at0 _ (by decide +kernel), maySend_at0 rfl,
    by decide +kernel⟩

theorem witness_UnitMapSetsAndReads : wide.unit = 255 ∧ State.reset.Takes .a (unitMapBytes defaultUnitMap) :=
  ⟨rfl, rfl, by decide +kernel⟩

theorem witness_SetVacuumSetsModeThresholdsAndBlower :
    State.reset.Takes .a [BitVec.ofNat 8 VacuumMode.auto.code, 59, 60, 61] ∧ (59 : Byte).toNat < (60 : Byte).toNat ∧
    (60 : Byte).toNat < (61 : Byte).toNat ∧ State.reset.allUnloaded = true ∧ (at0 resting).allUnloaded = false ∧
    State.reset.Takes .a [BitVec.ofNat 8 VacuumMode.auto.code, 60, 60, 61] :=
  ⟨⟨rfl, by decide⟩, by decide, by decide, by decide +kernel, by decide +kernel, rfl, by decide⟩

theorem witness_SetGrantLimitSetsTheLimit : State.reset.Takes .a [4] ∧ (4 : Byte).toNat ≤ 4 ∧
    State.reset.arbiter.waiting = [] ∧ State.reset.Takes .a [5] ∧ 4 < (5 : Byte).toNat :=
  ⟨⟨rfl, by decide⟩, by decide, rfl, ⟨rfl, by decide⟩, by decide⟩

theorem witness_SenseStringReportsArbiterAndVacuum : wide.unit = 255 ∧ State.reset.Takes .a [] := ⟨rfl, rfl, by decide⟩

theorem witness_MonitorSetsAndReads :
    State.reset.Takes .a [BitVec.ofNat 8 Measure.motionCount.code, transportByte .t3, BitVec.ofNat 8 Filter.both.code] :=
  ⟨rfl, by decide⟩

theorem witness_ReadCountersReportsAndClears :
    State.reset.Takes .a [0] ∧ State.reset.Takes .a [1] ∧ State.reset.Takes .a [2] ∧ 1 < (2 : Byte).toNat :=
  ⟨⟨rfl, by decide⟩, ⟨rfl, by decide⟩, ⟨rfl, by decide⟩, by decide⟩

theorem witness_PartResetLeavesThePartReset : wide.unit = 255 ∧ (at0 resting).Takes .a [] := ⟨rfl, takes_at0 _ (by decide)⟩

/-- A standing PART RESET hold. -/
def resetHeld : State := { State.reset with resetHold := some { port := .a, tag := 7, timer := 100000 } }

theorem witness_PartResetHoldExpiryAnswersDone :
    resetHeld.resetHold = some { port := .a, tag := 7, timer := 100000 } ∧ (resetHeld.port .a).up = true := ⟨rfl, rfl⟩

theorem witness_BlowerFollowsTheTransports : State.reset.allUnloaded = true ∧ (at0 resting).allUnloaded = false ∧
    (at0 resting).vacuum.mode = .auto ∧ (reviewVacuum (at0 resting)).vacuum.blower ≠ (at0 resting).vacuum.blower ∧
    (reviewVacuum State.reset).vacuum.blower = State.reset.vacuum.blower := by decide +kernel

/-- A port with 16 frames waiting. -/
def fullPort : Port := { resetPort true with tx := List.replicate 16 { kind := .response, unit := 0, tag := 0, code := 0, body := [] } }

theorem witness_FramesNotTakenOnlyCountAnError : (Instr.stop unit0).framePort? = some .a ∧
    ((State.reset.setPort .a (resetPort false)).port .a).up = false ∧ resetHeld.resetHold ≠ none ∧
    ((State.reset.setPort .a fullPort).port .a).up = true ∧ (State.reset.setPort .a fullPort).resetHold = none ∧
    16 ≤ ((State.reset.setPort .a fullPort).port .a).tx.length := by decide +kernel

theorem witness_ReportsAnswerOnceAndChangeNothing : ([15] : List Byte).length ≤ 60 ∧
    State.reset.receiveReady wide.port = true ∧ (State.reset.setPort .a fullPort).receiveReady unit0.port = false := by
  decide +kernel

theorem witness_RefusalsBeforeOwnership : State.reset.Takes .a (List.replicate 60 0) ∧ State.reset.Takes .a [] ∧
    State.reset.addressed { port := .a, unit := 4, tag := 7 } = none ∧
    (at0 (offline unloaded)).MaySend unit0 .t0 ∧ ((at0 (offline unloaded)).tr .t0).sense.offline = true ∧ unit0.unit ≠ 255 :=
  ⟨⟨rfl, by decide⟩, ⟨rfl, by decide⟩, rfl, maySend_at0 rfl, rfl, by decide⟩

/-- Port A, unit 1, tag 7. -/
def unit1 : Head := { port := .a, unit := 1, tag := 7 }

/-- The state after reset with T1 owned by Port B. -/
def ownedByB : State := State.reset.setOwner .t1 (some .b)

theorem witness_NotOwnerRefusedAndCounted : ownedByB.Takes .a [0, 0, 0, 0, 0, 0] ∧ ownedByB.addressed unit1 = some .t1 ∧
    ownedByB.owner .t1 = some .b ∧ PortId.b ≠ unit1.port := ⟨⟨rfl, by decide⟩, rfl, rfl, by decide⟩

/-- The state of a motion that holds its grant, with no one waiting. -/
def granted : State :=
  { at0 { running .accel 3125 with engine := { (running .accel 3125).engine with grant := .held } } with
    arbiter := resetArbiter.hold .t0 }

theorem witness_StopDeceleratesAMotion :
    ((at0 (running .cruise 62500)).Takes .a [] ∧ (at0 (running .cruise 62500)).MaySend unit0 .t0 ∧
      ((at0 (running .cruise 62500)).tr .t0).motion = some move300 ∧ (at0 (running .cruise 62500)).FreeToLetGo .t0) ∧
    (granted.FreeToLetGo .t0 ∧ (granted.tr .t0).engine.grant = .held) ∧
    ((at0 (running .holdDecel 62500)).tr .t0).phase = .holdDecel ∧ (State.reset.tr .t0).condition ≠ .loaded ∧
    ((at0 resting).tr .t0).phase = .stopped ∧ ((at0 (running .decel 3125)).tr .t0).phase = .decel ∧
    ((at0 (faultedBy .tachLoss)).tr .t0).condition = .faulted :=
  ⟨⟨takes_at0 _ (by decide), maySend_at0 rfl, rfl, free_at0 rfl⟩, ⟨⟨by decide, fun _ => rfl⟩, rfl⟩, rfl, by decide +kernel, rfl,
    rfl, rfl⟩

/-- A MOVE at rest in WAIT VACUUM. -/
def waitingForVacuum : Transport := { resting with phase := .waitVacuum, motion := some move300 }

/-- The vacuum supply while READY. -/
def readyVacuum : Vacuum := { resetVacuum with blower := .normal, settle := some 300, ready := true }

/-- A motion at rest that waits for its grant. -/
def waitingForGrant : Transport :=
  { resting with phase := .waitGrant, motion := some move300, engine := { idleEngine with grant := .requested } }

theorem witness_StopEndsAWaitingOrder :
    ((at0 { waitingForGrant with phase := .waitVacuum, engine := idleEngine }).Takes .a [] ∧
      (at0 { waitingForGrant with phase := .waitVacuum, engine := idleEngine }).MaySend unit0 .t0) ∧
    (at0 waitingForGrant).Takes .a [] ∧ (at0 waitingForGrant).MaySend unit0 .t0 ∧ waitingForGrant.condition = .loaded ∧
    waitingForGrant.motion = some move300 ∧ move300.origin = .port .a ∧ waitingForGrant.queue = [] ∧
    waitingForGrant.release = none ∧ waitingForGrant.phase = .waitGrant ∧ waitingForGrant.engine.grant = .requested :=
  ⟨⟨takes_at0 _ (by decide), maySend_at0 rfl⟩, takes_at0 _ (by decide), maySend_at0 rfl, rfl, rfl, rfl, rfl, rfl, rfl, rfl⟩

/-- Port B has a RELEASE of T0 pending. -/
def releasing (x : Transport) : Transport := { x with release := some { port := .b, tag := 4 } }

theorem witness_StopEndsAWaitingOrder_release :
    (at0 (releasing waitingForGrant)).Takes .a [] ∧ (at0 (releasing waitingForGrant)).MaySend unit0 .t0 ∧
    (releasing waitingForGrant).motion = some move300 ∧ (releasing waitingForGrant).queue = [] ∧
    (releasing waitingForGrant).phase = .waitGrant ∧ (releasing waitingForGrant).release ≠ none :=
  ⟨takes_at0 _ (by decide), maySend_at0 rfl, rfl, rfl, rfl, by decide⟩

theorem witness_HaltStopsAMotionAndFlushesTheQueue :
    (at0 { running .cruise 62500 with queue := [queuedMove] }).Takes .a [] ∧
    (at0 { running .cruise 62500 with queue := [queuedMove] }).MaySend unit0 .t0 ∧
    (at0 { running .cruise 62500 with queue := [queuedMove] }).FreeToLetGo .t0 ∧ (running .cruise 62500).condition = .loaded ∧
    (running .cruise 62500).motion = some move300 := ⟨takes_at0 _ (by decide), maySend_at0 rfl, free_at0 rfl, rfl, rfl⟩

/-- A LOAD search that a HALT has stopped, in its deceleration. -/
def haltedSearch : Transport := { searching .decel 3125 with motion := some { searchMove with endReason := some .halt } }

theorem witness_HaltStopsAMotionAndFlushesTheQueue_atRest :
    ((at0 waitingForGrant).Takes .a [] ∧ (at0 waitingForGrant).MaySend unit0 .t0 ∧
      waitingForGrant.current = some move300 ∧ waitingForGrant.release = none ∧ waitingForGrant.engine.grant ≠ .held) ∧
    ((at0 heldByGuard).MaySend unit0 .t0 ∧ heldByGuard.condition = .loaded ∧ heldByGuard.phase = .held ∧
      heldByGuard.current = some move300 ∧ heldByGuard.engine.grant ≠ .held) ∧
    ((at0 resting).MaySend unit0 .t0 ∧ resting.current = none ∧ resting.release = none ∧ resting.engine.grant = .none ∧
      resting.phase = .stopped) :=
  ⟨⟨takes_at0 _ (by decide), maySend_at0 rfl, rfl, rfl, by decide⟩, ⟨maySend_at0 rfl, rfl, rfl, rfl, by decide⟩,
    maySend_at0 rfl, rfl, rfl, rfl, rfl⟩

theorem witness_HaltStopsAMotionAndFlushesTheQueue_loading :
    ((at0 (searching .accel 3125)).Takes .a [] ∧ (at0 (searching .accel 3125)).MaySend unit0 .t0 ∧
      (searching .accel 3125).condition = .loading ∧ (searching .accel 3125).load.step = some .search ∧
      (searching .accel 3125).motion = some searchMove ∧ (at0 (searching .accel 3125)).FreeToLetGo .t0) ∧
    ((at0 haltedSearch).MaySend unit0 .t0 ∧ haltedSearch.condition = .loading ∧ haltedSearch.phase = .decel ∧
      haltedSearch.motion = some { searchMove with endReason := some .halt }) ∧
    ((at0 (loadingIn .vacuum)).MaySend unit0 .t0 ∧ (loadingIn .vacuum).condition = .loading ∧
      (loadingIn .vacuum).load.step ≠ some .search ∧ (loadingIn .vacuum).engine.grant ≠ .held) ∧
    ((at0 winding).MaySend unit0 .t0 ∧ winding.condition = .unloading ∧ winding.engine.grant ≠ .requested ∧
      winding.motion = some { move300 with kind := .unload, r := none }) :=
  ⟨⟨takes_at0 _ (by decide), maySend_at0 rfl, rfl, rfl, rfl, free_at0 rfl⟩, ⟨maySend_at0 rfl, rfl, rfl, rfl⟩,
    ⟨maySend_at0 rfl, rfl, by decide, by decide⟩, maySend_at0 rfl, rfl, by decide, rfl⟩

theorem witness_HaltStopsAMotionAndFlushesTheQueue_release :
    ((at0 (releasing resting)).Takes .a [] ∧ (at0 (releasing resting)).MaySend unit0 .t0 ∧
      (releasing resting).condition = .loaded ∧ (releasing resting).current = none) ∧
    ((at0 (releasing (loadingIn .draw))).MaySend unit0 .t0 ∧ (releasing (loadingIn .draw)).condition = .loading ∧
      (releasing (loadingIn .draw)).engine.grant ≠ .held) :=
  ⟨⟨takes_at0 _ (by decide), maySend_at0 rfl, rfl, rfl⟩, maySend_at0 rfl, rfl, by decide⟩

theorem witness_StopDeceleratesAMotion_held :
    ((at0 heldByGuard).Takes .a [] ∧ (at0 heldByGuard).MaySend unit0 .t0 ∧ heldByGuard.condition = .loaded ∧
      heldByGuard.phase = .held ∧ heldByGuard.hold.slot1 = .saved move300 ∧ heldByGuard.motion = none) ∧
    ∀ m, ({ heldByGuard.hold with slot1 := .emptyContext } : Hold).slot1 ≠ .saved m :=
  ⟨⟨takes_at0 _ (by decide), maySend_at0 rfl, rfl, rfl, rfl, rfl⟩, nofun⟩

theorem witness_PauseHoldsAMotion :
    ((at0 resting).Takes .a [] ∧ (at0 resting).MayOrder unit0 .t0 ∧ resting.condition = .loaded ∧ resting.phase = .stopped) ∧
    ((at0 (running .cruise 62500)).MayOrder unit0 .t0 ∧ (at0 (running .cruise 62500)).FreeToLetGo .t0 ∧
      (running .cruise 62500).hold.cause ≠ some .pause ∧ (running .cruise 62500).hold.inService.pause = false ∧
      (running .cruise 62500).hold.pending.pause = false) ∧ (at0 (running .decel 3125)).MayOrder unit0 .t0 ∧
    ((at0 unloaded).MayOrder unit0 .t0 ∧ unloaded.condition = .unloaded) ∧
    ((at0 (loadingIn .vacuum)).MayOrder unit0 .t0 ∧ (loadingIn .vacuum).condition = .loading) ∧
    (at0 (faultedBy .tachLoss)).MayOrder unit0 .t0 ∧ (faultedBy .tachLoss).condition = .faulted :=
  ⟨⟨takes_at0 _ (by decide), mayOrder_at0 rfl rfl, rfl, rfl⟩, ⟨mayOrder_at0 rfl rfl, free_at0 rfl, by decide, rfl, rfl⟩,
    mayOrder_at0 rfl rfl, ⟨mayOrder_at0 rfl rfl, rfl⟩, ⟨mayOrder_at0 rfl rfl, rfl⟩, mayOrder_at0 rfl rfl, rfl⟩

theorem witness_PauseHoldsAMotion_waits :
    ((at0 waitingForGrant).Takes .a [] ∧ (at0 waitingForGrant).MayOrder unit0 .t0 ∧ waitingForGrant.condition = .loaded ∧
      waitingForGrant.phase = .waitGrant ∧ waitingForGrant.motion = some move300 ∧ waitingForGrant.engine.grant ≠ .held ∧
      waitingForGrant.hold = idleHold) ∧ (at0 waitingForVacuum).MayOrder unit0 .t0 :=
  ⟨⟨takes_at0 _ (by decide), mayOrder_at0 rfl rfl, rfl, rfl, rfl, by decide, rfl⟩, mayOrder_at0 rfl rfl⟩

theorem witness_PauseHoldsAMotion_held :
    ((at0 heldByGuard).Takes .a [] ∧ (at0 heldByGuard).MayOrder unit0 .t0 ∧ heldByGuard.condition = .loaded ∧
      heldByGuard.phase = .held ∧ heldByGuard.hold.cause ≠ some .pause ∧ heldByGuard.hold.inService.pause = false) ∧
    (at0 { resting with phase := .held, hold := { idleHold with slot1 := .saved move300, inService := { noRanks with pause := true }
                                                                active := some .pause } }).MayOrder unit0 .t0 :=
  ⟨⟨takes_at0 _ (by decide), mayOrder_at0 rfl rfl, rfl, rfl, by decide, rfl⟩, mayOrder_at0 rfl rfl⟩

/-- A transport HELD by VACUUM SAG over a saved PAUSE. -/
def sagOverPause : Hold :=
  { idleHold with
    slot1 := .saved move300, slot2 := some { rank := .pause, settle := 0 }, active := some .sag
    inService := { sag := true, loopGuard := false, pause := true } }

/-- A transport HELD by PAUSE alone over a saved MOVE. -/
def heldByPause : Transport :=
  { resting with
    phase := .held
    hold := { idleHold with slot1 := .saved move300, active := some .pause, inService := { noRanks with pause := true } } }

theorem witness_ContinueRemovesPause :
    ((at0 resting).Takes .a [] ∧ (at0 resting).MayOrder unit0 .t0 ∧ resting.condition ≠ .faulted ∧ resting.queue = [] ∧
      resting.hold.active ≠ some .pause ∧ resting.hold.slot2 = none) ∧
    ((at0 { resting with phase := .held, hold := sagOverPause }).MayOrder unit0 .t0 ∧ sagOverPause.active ≠ some .pause ∧
      ∃ x, sagOverPause.slot2 = some x ∧ x.rank = .pause) ∧
    ((at0 heldByPause).MayOrder unit0 .t0 ∧ heldByPause.condition = .loaded ∧ heldByPause.paused = false ∧
      heldByPause.motion = none ∧ (at0 heldByPause).vacuum.ready = false ∧ move300.kind = .move ∧
      move300.endReason ≠ some .bot ∧ (∀ code, ¬ (at0 heldByPause).LimitMet .t0 move300.direction code) ∧
      ∀ r, move300.r = some r → 0 < r) ∧ (at0 (faultedBy .tachLoss)).MayOrder unit0 .t0 :=
  ⟨⟨takes_at0 _ (by decide), mayOrder_at0 rfl rfl, by decide, rfl, by decide, rfl⟩,
    ⟨mayOrder_at0 rfl rfl, by decide, _, rfl, rfl⟩,
    ⟨mayOrder_at0 rfl rfl, rfl, rfl, rfl, rfl, rfl, by decide, limitFree_forward rfl,
      fun _ h => Option.some.inj h ▸ by decide⟩, mayOrder_at0 rfl rfl⟩

theorem witness_SelectProfileSetsTheSelection :
    ((at0 resting).Takes .a [15] ∧ (at0 resting).MayOrder unit0 .t0 ∧ resting.condition ≠ .faulted ∧ (15 : Byte).toNat < 16) ∧
    ((at0 resting).Takes .a [16] ∧ 16 ≤ (16 : Byte).toNat) ∧ (at0 resting).Takes .a [] ∧
    (at0 (faultedBy .tachLoss)).MayOrder unit0 .t0 :=
  ⟨⟨takes_at0 _ (by decide), mayOrder_at0 rfl rfl, by decide, by decide⟩, ⟨takes_at0 _ (by decide), by decide⟩,
    takes_at0 _ (by decide), mayOrder_at0 rfl rfl⟩

theorem witness_ReserveAndForceRelease :
    (State.reset.Takes .a [] ∧ State.reset.addressed unit1 = some .t1 ∧ State.reset.owner .t1 = none) ∧
    (ownedByB.owner .t1 = some .b ∧ PortId.b ≠ unit1.port ∧ (ownedByB.port .b).up = true) ∧
    ((ownedByB.setPort .b (resetPort false)).Takes .a [] ∧ (ownedByB.setPort .b (resetPort false)).addressed unit1 = some .t1 ∧
      (ownedByB.setPort .b (resetPort false)).owner .t1 = some .b ∧
      ((ownedByB.setPort .b (resetPort false)).port .b).up = false ∧
      ((ownedByB.setPort .b (resetPort false)).tr .t1).condition = .unloaded ∧
      ((ownedByB.setPort .b (resetPort false)).tr .t1).release = none) :=
  ⟨⟨⟨rfl, by decide⟩, rfl, rfl⟩, ⟨rfl, by decide, rfl⟩, ⟨rfl, by decide⟩, rfl, rfl, rfl, rfl, rfl⟩

/-- T0 in this state belongs to port B, which is DOWN. -/
def ownedByDown (x : Transport) : State := ((at0 x).setPort .b (resetPort false)).setOwner .t0 (some .b)

/-- The conditions that a FORCE RELEASE of T0 by port A has in each clause. -/
theorem mayForce_ownedByDown {x : Transport} (h : x.lines.present = true) :
    (ownedByDown x).Takes .a [] ∧ (ownedByDown x).addressed unit0 = some .t0 ∧ (ownedByDown x).owner .t0 = some .b ∧
      PortId.b ≠ unit0.port ∧ ((ownedByDown x).port .b).up = false ∧ (ownedByDown x).tr .t0 = x :=
  ⟨⟨rfl, by decide⟩, by
    show (if x.lines.present = true then some TransportId.t0 else none) = some .t0
    rw [if_pos h], rfl, by decide, rfl, rfl⟩

theorem witness_ReserveAndForceRelease_halts :
    ((ownedByDown (releasing (running .cruise 62500))).tr .t0 = releasing (running .cruise 62500) ∧
      (releasing (running .cruise 62500)).motion = some move300 ∧
      (ownedByDown (releasing (running .cruise 62500))).FreeToLetGo .t0) ∧
    ((ownedByDown waitingForGrant).tr .t0 = waitingForGrant ∧ waitingForGrant.engine.grant ≠ .held ∧
      waitingForGrant.current ≠ none) ∧
    ((ownedByDown resting).tr .t0 = resting ∧ resting.condition = .loaded ∧ resting.engine.grant = .none) ∧
    ((ownedByDown (searching .accel 3125)).tr .t0 = searching .accel 3125 ∧ (searching .accel 3125).condition = .loading ∧
      (searching .accel 3125).motion = some searchMove ∧ (ownedByDown (searching .accel 3125)).FreeToLetGo .t0 ∧
      haltedSearch.phase = .decel) ∧
    ((ownedByDown (loadingIn .vacuum)).tr .t0 = loadingIn .vacuum ∧ (loadingIn .vacuum).load.step ≠ some .search) ∧
    ((ownedByDown winding).tr .t0 = winding ∧ winding.condition = .unloading ∧ winding.engine.grant ≠ .requested) :=
  ⟨⟨rfl, rfl, by decide, by decide⟩, ⟨rfl, by decide, by decide⟩, ⟨rfl, rfl, rfl⟩,
    ⟨rfl, rfl, rfl, ⟨by decide, by decide⟩, rfl⟩, ⟨rfl, by decide⟩, rfl, rfl, by decide⟩

/-- A motion owned by Port A with a queue of this length behind it. -/
def ownedMotion (n : Nat) : State :=
  (at0 { running .cruise 62500 with queue := List.replicate n queuedMove }).setOwner .t0 (some .a)

theorem witness_ReleaseAnswersOrWaits :
    (State.reset.Takes .a [] ∧ State.reset.addressed unit0 = some .t0 ∧ (State.reset.tr .t0).release = none ∧
      State.reset.owner .t0 = none) ∧
    ((State.reset.setOwner .t0 (some .a)).owner .t0 = some .a ∧
      ((State.reset.setOwner .t0 (some .a)).tr .t0).condition = .unloaded) ∧
    ((ownedMotion 6).Takes .a [] ∧ (ownedMotion 6).owner .t0 = some .a ∧ ((ownedMotion 6).tr .t0).phase ≠ .stopped ∧
      ((ownedMotion 6).tr .t0).queue.length = 6 ∧ ((ownedMotion 6).tr .t0).motion.isSome) ∧
    ((ownedMotion 5).Takes .a [] ∧ (ownedMotion 5).owner .t0 = some .a ∧ ((ownedMotion 5).tr .t0).phase ≠ .stopped ∧
      ((ownedMotion 5).tr .t0).queue.length = 5) ∧ ownedByB.owner .t1 = some .b :=
  ⟨⟨⟨rfl, by decide⟩, rfl, rfl, rfl⟩, ⟨rfl, rfl⟩, ⟨⟨rfl, by decide⟩, rfl, by decide +kernel, rfl, rfl⟩,
    ⟨⟨rfl, by decide⟩, rfl, by decide +kernel, rfl⟩, rfl⟩

/-- A second RELEASE, while one is pending: of an idle transport, of a busy one and of one with 7 orders. -/
theorem witness_ReleaseAnswersOrWaits_pending :
    (((at0 (releasing resting)).setOwner .t0 (some .a)).Takes .a [] ∧
      ((at0 (releasing resting)).setOwner .t0 (some .a)).addressed unit0 = some .t0 ∧ (releasing resting).release ≠ none ∧
      (releasing resting).condition = .loaded ∧ (releasing resting).phase = .stopped ∧ (releasing resting).queue = []) ∧
    ((releasing (running .cruise 62500)).release ≠ none ∧ (releasing (running .cruise 62500)).phase ≠ .stopped ∧
      (releasing (running .cruise 62500)).queue = [] ∧
      ({ releasing (running .cruise 62500) with queue := List.replicate 6 queuedMove } : Transport).queue.length = 6) :=
  ⟨⟨⟨rfl, by decide⟩, rfl, by decide, rfl, rfl, rfl⟩, by decide, by decide, rfl, rfl⟩

/-- R167: a second RELEASE answers the earlier one SUPERSEDED and is pending itself. -/
theorem test_release_again :
    after (exec (.release unit0) ((at0 (releasing (running .cruise 62500))).setOwner .t0 (some .a)))
      (fun s => ((s.tr .t0).release, (s.port .b).tx.map OutFrame.code, (s.port .a).tx.map OutFrame.code)) =
      some (some { port := .a, tag := unit0.tag }, [0x06], []) := by decide +kernel

theorem witness_ClearFaultByCause :
    ((at0 (faultedBy .tapeBreak)).Takes .a [] ∧ (at0 (faultedBy .tapeBreak)).MayOrder unit0 .t0 ∧
      (faultedBy .tapeBreak).condition = .faulted ∧ (faultedBy .tapeBreak).faultCause = some .tapeBreak) ∧
    ((at0 (faultedBy .tachLoss)).MayOrder unit0 .t0 ∧ (faultedBy .tachLoss).faultCause = some .tachLoss ∧
      (faultedBy .tachLoss).sense.coverOpen = false ∧ (faultedBy .tachLoss).queue = []) :=
  ⟨⟨takes_at0 _ (by decide), mayOrder_at0 rfl rfl, rfl, rfl⟩, mayOrder_at0 rfl rfl, rfl, rfl, rfl⟩

/-- This transport with its cover OPEN. -/
def coverOpened (x : Transport) : Transport := { x with sense := { x.sense with coverOpen := true } }

/-- A cause that leaves the transport LOADED, with the cover OPEN. -/
theorem witness_ClearFaultByCause_open :
    (at0 (coverOpened (faultedBy .tachLoss))).MayOrder unit0 .t0 ∧ (coverOpened (faultedBy .tachLoss)).condition = .faulted ∧
    (coverOpened (faultedBy .tachLoss)).faultCause = some .tachLoss ∧
    (coverOpened (faultedBy .tachLoss)).sense.coverOpen = true ∧
    (at0 (coverOpened (faultedBy .tachLoss))).FreeToLetGo .t0 := ⟨mayOrder_at0 rfl rfl, rfl, rfl, rfl, free_at0 rfl⟩

theorem witness_SenseAndSnapshotReport : (at0 resting).Takes .a [] ∧ (at0 resting).addressed unit0 = some .t0 ∧
    resting.snapshot = none ∧ (faultedBy .tachLoss).snapshot = some someSnapshot ∧
    (faultedBy .tachLoss).condition = .faulted := ⟨takes_at0 _ (by decide), rfl, rfl, rfl, rfl⟩

theorem witness_QueuedOrderJoinsTheTail :
    (QueuedOrder.move .forward none (some 16777215)).Legal ∧
    (at0 (running .cruise 62500)).Takes .a (QueuedOrder.move .forward none (some 16777215)).body ∧
    (at0 (running .cruise 62500)).MayOrder unit0 .t0 ∧
    (QueuedOrder.move .forward none (some 16777215)).Served (at0 (running .cruise 62500)) .t0 profile0 ∧
    QueuedOrder.unload.Served (at0 (running .cruise 62500)) .t0 profile15 ∧ (running .cruise 62500).phase ≠ .stopped ∧
    (running .cruise 62500).release = none ∧
    (at0 { running .cruise 62500 with release := some { port := .a, tag := 2 } }).MayOrder unit0 .t0 :=
  ⟨⟨by decide, by decide⟩, takes_at0 _ (by decide), mayOrder_at0 rfl rfl, ⟨rfl, trivial⟩, ⟨rfl, rfl⟩, by decide, rfl,
    mayOrder_at0 rfl rfl⟩

theorem witness_QueuedOrderIsTakenAtRest :
    (resting.condition = .loaded ∧ resting.phase = .stopped ∧ resting.motion = none ∧ resting.paused = false ∧
      resting.servo.band ≠ .outsideGuard ∧ resting.queue = [] ∧ (at0 resting).vacuum.ready = false ∧
      resting.release = none ∧ resting.engine.v = 0) ∧
    (at0 resting).Takes .a (QueuedOrder.move .reverse none none).body ∧ (at0 resting).MayOrder unit0 .t0 ∧
    (QueuedOrder.move .reverse none none).Legal ∧ (QueuedOrder.move .reverse none none).Served (at0 resting) .t0 profile0 ∧
    (QueuedOrder.rewind none).Served (at0 resting) .t0 profile15 ∧ resting.position.referenced = false ∧
    ((offline resting).sense.offline = true ∧ (offline resting).lines.present = true ∧
      (at0 (offline resting)).tables.profiles.get 15 = some profile15 ∧ profile15.cls = .rewind) :=
  ⟨⟨rfl, rfl, rfl, rfl, by decide, rfl, rfl, rfl, rfl⟩, takes_at0 _ (by decide), mayOrder_at0 rfl rfl, trivial,
    ⟨rfl, trivial⟩, ⟨rfl, rfl⟩, rfl, rfl, rfl, rfl, rfl⟩

theorem witness_QueuedOrderIsTakenAtRest_limits :
    (at0 (pastEot 90000 resting)).LimitMet .t0 .forward 3 ∧ (at0 (referencedAt 0 resting)).LimitMet .t0 .reverse 2 ∧
    (∀ code, ¬ (at0 (pastEot 89999 resting)).LimitMet .t0 .forward code) ∧
    (at0 (pastEot 90000 resting)).MayOrder unit0 .t0 ∧ (pastEot 90000 resting).servo.band ≠ .outsideGuard ∧
    (pastEot 90000 resting).engine.v = 0 ∧ (pastEot 90000 resting).hold.slot1 = .free ∧
    (QueuedOrder.move .forward none (some 100)).Legal ∧
    (QueuedOrder.move .forward none (some 100)).Served (at0 (pastEot 90000 resting)) .t0 profile0 :=
  ⟨limitMet_pastEot _, limitMet_atBot _, limitFree_shortOfEot _, mayOrder_at0 rfl rfl, by decide, rfl,
    rfl, ⟨by decide, by decide⟩, ⟨rfl, trivial⟩⟩

/-- READY with the blower NORMAL, beside an empty waiting list: with room, and without. -/
theorem witness_QueuedOrderIsTakenAtRest_ready :
    (readyVacuum.ready = true ∧ readyVacuum.blower = .normal ∧ readyVacuum.mode ≠ .economy ∧ resting.engine.grant = .none ∧
      (at0 resting).arbiter.waiting = [] ∧ (at0 resting).arbiter.holders.get .t0 = false ∧
      (at0 resting).holderCount < (at0 resting).arbiter.limit ∧ resting.engine.v = 0 ∧ resting.engine.tach = .clear ∧
      0 < profile0.aAcc ∧ profile0.aAcc < profile0.vTop ∧ profile15.aAcc < profile15.creep.getD profile15.vTop) ∧
    ({ resetArbiter with limit := 1, holders := resetArbiter.holders.set .t1 true } : Arbiter).limit ≤
      ({ resetArbiter with limit := 1, holders := resetArbiter.holders.set .t1 true } : Arbiter).holderCount := by
  decide +kernel

/-- A paused transport whose head names an EMPTY profile, with another MOVE behind it and without. -/
theorem witness_QueuedOrderIsTakenAtRest_continue :
    (at0 { resting with paused := true, queue := [{ queuedMove with profile := some 3 }] }).EndsAtTake .t0
      { queuedMove with profile := some 3 } 0x25 ∧
    (at0 { resting with paused := true, queue := [{ queuedMove with profile := some 3 }, queuedMove] }).EndsAtTake .t0
      { queuedMove with profile := some 3 } 0x25 ∧
    (at0 (pastEot 90000 resting)).EndsAtTake .t0 queuedMove 3 ∧
    (at0 { resting with paused := true, queue := [{ queuedMove with profile := some 3 }, queuedMove] }).MayOrder unit0 .t0 ∧
    (at0 resting).Takes .a [] ∧ resting.hold = idleHold ∧ (at0 resting).vacuum.ready = false ∧
    defaultTables.profiles.get (queuedMove.profile.getD resting.selected) = some profile0 ∧
    ∀ code, ¬ (at0 resting).LimitMet .t0 .forward code :=
  ⟨.inl ⟨rfl, .inl rfl⟩, .inl ⟨rfl, .inl rfl⟩, .inr ⟨rfl, by decide, limitMet_pastEot _⟩, mayOrder_at0 rfl rfl,
    takes_at0 _ (by decide), rfl, rfl, rfl, limitFree_forward rfl⟩

theorem witness_QueuedOrderRefusals :
    ((at0 (loadingIn .vacuum)).MayOrder unit0 .t0 ∧ (loadingIn .vacuum).condition = .loading) ∧
    ((at0 unloaded).MayOrder unit0 .t0 ∧ unloaded.condition = .unloaded) ∧
    ((at0 (faultedBy .tachLoss)).MayOrder unit0 .t0 ∧ (faultedBy .tachLoss).condition = .faulted) ∧
    ((at0 resting).Takes .a (QueuedOrder.rewind (some 0)).body ∧
      ∀ p, ¬ (QueuedOrder.rewind (some 0)).Served (at0 resting) .t0 p) ∧
    (QueuedOrder.unload.Served (at0 { resting with queue := List.replicate 6 queuedMove }) .t0 profile15 ∧
      6 ≤ ({ resting with queue := List.replicate 6 queuedMove } : Transport).queue.length) :=
  ⟨⟨mayOrder_at0 rfl rfl, rfl⟩, ⟨mayOrder_at0 rfl rfl, rfl⟩, ⟨mayOrder_at0 rfl rfl, rfl⟩,
    ⟨takes_at0 _ (by decide), fun p h => by
      have h1 : some profile0 = some p := h.1
      have h2 : p.cls = .rewind := h.2
      rw [← Option.some.inj h1] at h2; cases h2⟩, ⟨rfl, rfl⟩, by decide⟩

/-- One body for each bad field: no byte, a direction of 2, a profile number of 16, a distance of 0, and bodies one byte
short of their presence bits; and a REWIND of profile 16. -/
theorem witness_QueuedOrderRefusals_fields :
    (∀ b ∈ [[], [0], [2, 0], [0, 1], [0, 2, 0, 0, 0], [0, 1, 16], [0, 2, 0, 0, 0, 0], ([16] : List Byte)], b.length ≤ 60) ∧
    (at0 resting).Takes .a [0, 2, 0, 0, 0, 0] ∧ (at0 resting).MayOrder unit0 .t0 ∧ resting.condition = .loaded ∧
    1 < (2 : Byte).toNat ∧ 15 < (16 : Byte).toNat ∧ (1 : Byte).getLsbD 0 = true ∧ (2 : Byte).getLsbD 1 = true ∧
    ([0, 0, 0] : List Byte).length < 4 ∧ (([0, 0, 0, 0] : List Byte).drop 1).take 3 = [0, 0, 0] :=
  ⟨by decide, takes_at0 _ (by decide), mayOrder_at0 rfl rfl, rfl, by decide, by decide, rfl, rfl, by decide, rfl⟩

theorem witness_LoadBeginsTheVacuumStep :
    (State.reset.Takes .a [] ∧ (at0 unloaded).MayOrder unit0 .t0 ∧ unloaded.condition = .unloaded ∧
      unloaded.sense.coverOpen = false ∧ unloaded.lines.fileReel = true ∧ unloaded.lines.machineReel = true ∧
      (at0 unloaded).tables.profiles.get 0 ≠ none ∧ (at0 unloaded).vacuum.ready = false) ∧
    (at0 { unloaded with lines := { initialLines with fileReel := false } }).MayOrder unit0 .t0 ∧
    (({ State.reset with tables := { defaultTables with profiles := Vector.replicate 16 none } } : State).tables.profiles.get 0 =
      none) ∧ (at0 (faultedBy .tachLoss)).MayOrder unit0 .t0 ∧ (at0 resting).MayOrder unit0 .t0 ∧
    ((offline unloaded).sense.offline = true ∧ (offline unloaded).lines.present = true ∧
      (offline unloaded).condition = .unloaded) :=
  ⟨⟨⟨rfl, by decide⟩, mayOrder_at0 rfl rfl, rfl, rfl, rfl, rfl, by decide +kernel, rfl⟩, mayOrder_at0 rfl rfl, by decide +kernel,
    mayOrder_at0 rfl rfl, mayOrder_at0 rfl rfl, rfl, rfl, rfl⟩

/-- A count with CTA rising from both phases low, so FORWARD, at a transport where it qualifies no crossing and reaches no
search limit. -/
theorem witness_CapstanCountIsApplied :
    (unloaded.condition = .unloaded ∧ (false = resting.lines.cta ↔ false = resting.lines.ctb)) ∧
    (¬ (true = resting.lines.cta ↔ false = resting.lines.ctb) ∧ resting.condition ≠ .unloaded ∧ resting.lines.bots = false ∧
      resting.lines.eots = false ∧ resting.load.step = none) ∧
    ((searching .cruise 12500).condition = .loading ∧ (searching .cruise 12500).load.step = some .search ∧
      (searching .cruise 12500).load.searchCount + 1 < (defaultServo.searchLimit : Int)) ∧
    (heldByPause.motion = none ∧ heldByPause.hold.slot1 = .saved move300) ∧
    (resting.servo.reels.file.windowCount + 1 < ((at0 resting).servoOf .t0).window ∧
      ((at0 resting).servoOf .t0).window ≤ min 16384 (4095 + 1)) := by decide +kernel

/-- A transport over an active marker input, its run as in `onMarker`. -/
def overMarker (m : Marker) (d : Direction) (x : Transport) : Transport :=
  onMarker m d { x with lines := x.lines.setMarker m true }

/-- A forward count starts a run, starts the reverse run of 39 again, and makes the forward run of 39 one of Q. -/
theorem witness_CapstanCountIsApplied_runs :
    (({ resting with lines := resting.lines.setMarker .bot true } : Transport).lines.bots = true ∧
      resting.sense.botRun.count = 0 ∧ 1 < ((at0 resting).servoOf .t0).q) ∧
    ((overMarker .eot .reverse resting).lines.eots = true ∧ (overMarker .eot .reverse resting).sense.eotRun.direction ≠ .forward) ∧
    ((overMarker .bot .forward resting).sense.botRun.direction = .forward ∧
      ((at0 resting).servoOf .t0).q ≤ (overMarker .bot .forward resting).sense.botRun.count + 1 ∧
      (overMarker .bot .forward resting).sense.botRun.qualified = false ∧ (overMarker .bot .forward resting).lines.eots = false ∧
      (overMarker .bot .forward resting).current = none) := by decide +kernel

/-- The count that finds BOT in a search at its limit. -/
theorem witness_CapstanCountIsApplied_found :
    ((overMarker .bot .forward (searching .cruise 12500)).condition = .loading ∧
      (overMarker .bot .forward (searching .cruise 12500)).load.step = some .search ∧
      (overMarker .bot .forward (searching .cruise 12500)).motion = some searchMove ∧
      (overMarker .bot .forward (searching .cruise 12500)).sense.botRun.qualified = false ∧
      (overMarker .bot .forward (searching .cruise 12500)).lines.eots = false) ∧
    (at0 (overMarker .bot .forward (searching .cruise 12500))).FreeToLetGo .t0 := ⟨by decide +kernel, free_at0 rfl⟩

/-- A referenced REWIND in REVERSE one count above the approach distance. -/
def approaching : Transport :=
  { (withMotion .cruise (-62500) { move300 with kind := .rewind, direction := .reverse, r := none, copy := profile15 }).setPosition
      { clearedPosition with referenced := true, count := 30001 } with
    load := { idleLoad with sequence := .rewind, step := some .reverse } }

theorem witness_CapstanCountIsApplied_approach : approaching.load.step = some .reverse ∧
    approaching.sense.position.referenced = true ∧ approaching.sense.position.count - 1 ≤ (defaultServo.approach : Int) ∧
    approaching.current ≠ none := by decide +kernel

/-- A cover opened in the VACUUM step of a LOAD. -/
def faultedInVacuum : Transport :=
  { faultedBy .coverOpen with valveOpen := false, snapshot := some ((loadingIn .vacuum).takeSnapshot .coverOpen) }

/-- R3, R81: a plausible window that fills in the VACUUM step leaves the estimate of 480, one that fills at a LOADED
transport moves it to 412, a quarter of the way to 205. -/
theorem witness_RadiusWindowCountsAndCloses_beforeDraw :
    ((loadingIn .vacuum).condition = .loading ∧ (loadingIn .vacuum).load.step = some .vacuum) ∧
    (faultedInVacuum.condition = .faulted ∧ faultedInVacuum.valveOpen = false ∧
      faultedInVacuum.snapshot.map Snapshot.condition = some .loading) ∧
    ([loadingIn .vacuum, faultedInVacuum, resting].map (fun x =>
      ({ idleReel 480 with reelCount := 163 } : ReelServo).closeWindow x.beforeDraw defaultServo.kRad |>.radius)) =
        [480, 480, 412] := by decide +kernel

theorem witness_RadiusWindowCountsAndCloses : resting.condition ≠ .unloaded ∧ unloaded.condition = .unloaded ∧
    (2 * defaultServo.kRad + 50) / (2 * 50) > 560 ∧ 160 ≤ (2 * defaultServo.kRad + 205) / (2 * 205) ∧
    (2 * defaultServo.kRad + 205) / (2 * 205) ≤ 560 := by decide +kernel

theorem witness_ServoSampleDrivesTheReels :
    (resting.condition = .loaded ∧ resting.brakesEngaged = false ∧ bandOf defaultServo { file := 122, machine := 136 } =
      .inRecovery ∧ (122 : Byte) ≠ 0 ∧ resting.hold.active ≠ some .loopGuard ∧ resting.servo.band ≠ .outsideGuard) ∧
    (unloaded.condition = .unloaded ∧ unloaded.brakesEngaged = true) ∧
    (({ loadingIn .draw with brakesEngaged := false } : Transport).condition = .loading ∧
      (loadingIn .draw).load.step = some .draw ∧ bandOf defaultServo { file := 1, machine := 1 } ≠ .inRecovery ∧
      defaultServo.drawDemand ≤ 2047) ∧
    (winding.condition = .unloading ∧ winding.load.step = some .wind ∧ winding.brakesEngaged = false ∧
      defaultServo.windDemand ≤ 2047) := by decide +kernel

/-- A reading OUTSIDE GUARD on both sides. -/
def farOut : LoopReading := depths 10 250

theorem witness_ServoSampleDrivesTheReels_guard :
    (bandOf defaultServo { file := farOut.flp.toNat, machine := farOut.mlp.toNat } = .outsideGuard ∧ farOut.flp ≠ 0 ∧
      farOut.mlp ≠ 0 ∧ farOut.fue = false ∧ farOut.fle = false ∧ farOut.mue = false ∧ farOut.mle = false) ∧
    (∀ v ∈ [(0 : Int), 62500], ((v * defaultServo.gFF).tdiv (16 * resting.servo.reels.file.radius) +
        ((defaultServo.kp : Int) * ((defaultServo.setpoint : Int) - farOut.flp.toNat)).tdiv 4).natAbs ≤ 2047 ∧
      ((v * defaultServo.gFF).tdiv (16 * resting.servo.reels.machine.radius) +
        ((defaultServo.kp : Int) * ((farOut.mlp.toNat : Int) - defaultServo.setpoint)).tdiv 4).natAbs ≤ 2047) ∧
    (resting.phase = .stopped ∧ resting.hold.active ≠ some .loopGuard ∧ resting.hold = idleHold) ∧
    ((running .cruise 62500).phase = .cruise ∧ (running .cruise 62500).hold = idleHold) ∧
    (running .decel 62500).hold = idleHold ∧
    (waitingForGrant.phase = .waitGrant ∧ waitingForGrant.motion = some move300 ∧ waitingForGrant.engine.grant ≠ .held) ∧
    (heldByPause.phase = .held ∧ heldByPause.hold.active = some .pause ∧ heldByPause.hold.slot2 = none) ∧
    (sagOverPause.active = some .sag ∧ sagOverPause.inService.loopGuard = false ∧ sagOverPause.slot2 ≠ none ∧
      idleHold.cause = none ∧ idleHold.inService.loopGuard = false ∧ idleHold.pending.loopGuard = false) := by decide +kernel

theorem witness_ServoSampleDrivesTheReels_grant : (at0 (running .cruise 62500)).FreeToLetGo .t0 ∧
    (at0 { heldByPause with hold := { heldByPause.hold with slot2 := some { rank := .pause, settle := 0 } } }).FreeToLetGo
      .t0 := ⟨free_at0 rfl, free_at0 rfl⟩

/-- A loop back within the guard band, with a MOVE, a REWIND and an UNLOAD at the head of the queue. -/
theorem witness_ServoSampleDrivesTheReels_take :
    (resting.condition = .loaded ∧ resting.phase = .stopped ∧ resting.motion = none ∧ resting.paused = false ∧
      resting.brakesEngaged = false ∧ resting.hold.active ≠ some .loopGuard ∧ (at0 resting).vacuum.ready = false) ∧
    (∀ k ∈ [OrderKind.move, .rewind, .unload], k ≠ .load ∧
      defaultTables.profiles.get (if k = .unload then 15 else
        if k = .rewind then 15 else resting.selected) = some (if k = .move then profile0 else profile15)) ∧
    profile15.cls = .rewind ∧ (∀ code, ¬ (at0 resting).LimitMet .t0 .forward code) :=
  ⟨by decide +kernel, by decide +kernel, rfl, fun code => limitFree_forward rfl code⟩

/-- A reading IN RECOVERY on both sides. -/
def wellIn : LoopReading := depths 100 150

theorem witness_ServoSampleDrivesTheReels_search :
    (({ loadingIn .draw with brakesEngaged := false } : Transport).condition = .loading ∧
      (loadingIn .draw).load.step = some .draw ∧
      (loadingIn .draw).load.record = some { origin := .port .a, tag := 5 } ∧ (at0 (loadingIn .draw)).vacuum.ready = false ∧
      defaultTables.profiles.get 0 = some profile0 ∧ defaultServo.drawDemand ≤ 2047) ∧
    (wellIn.flp ≠ 0 ∧ wellIn.mlp ≠ 0 ∧ wellIn.fue = false ∧ wellIn.mle = false ∧
      bandOf defaultServo { file := wellIn.flp.toNat, machine := wellIn.mlp.toNat } = .inRecovery) := by decide +kernel

/-- DRAW beside an EMPTY profile 0, with the position referenced. -/
theorem witness_ServoSampleDrivesTheReels_badProfile :
    ({ defaultTables with profiles := defaultTables.profiles.set 0 none } : Tables).profiles.get 0 = none ∧
    (referencedAt 5 (loadingIn .draw)).condition = .loading ∧ (loadingIn .draw).hold.slot1 = .free ∧
    (loadingIn .draw).queue = [] := by decide +kernel

/-- `resting` with a loop gain that clamps the target of a shallow loop, and this saturation run of the file reel. -/
def strongGain (run : Nat) : State :=
  { at0 { resting with servo := { resting.servo with
      reels := { resting.servo.reels with file := { resting.servo.reels.file with satRun := run } } } } with
    tables := { defaultTables with servo := { defaultTables.servo with t0 := { defaultServo with kp := 255 } } } }

/-- A first zero reading, a first active end switch and a clamped target, none of them the last of its run. -/
theorem witness_ServoSampleDrivesTheReels_runs :
    (resting.condition = .loaded ∧ resting.phase = .stopped ∧ resting.queue = [] ∧ resting.brakesEngaged = false ∧
      resting.hold.active ≠ some .loopGuard ∧ resting.sense.columns.file.tapeSeen = true ∧
      resting.sense.columns.machine.tapeSeen = true) ∧
    (resting.sense.columns.file.zeroRun + 1 < 2 ∧ resting.sense.columns.machine.upperRun + 1 < 2) ∧
    (2047 < ((((strongGain 0).servoOf .t0).kp : Int) *
        ((((strongGain 0).servoOf .t0).setpoint : Int) - (depths 0 128).flp.toNat)).tdiv 4 ∧
      ((strongGain 0).tr .t0).engine.v = 0 ∧
      min 255 (((strongGain 0).tr .t0).servo.reels.file.satRun + 1) < ((strongGain 0).servoOf .t0).satLimit) := by decide +kernel

/-- LOOP GUARD in service over a PAUSE in slot 2, one sample before it settles. -/
def guardOverPause : Transport :=
  { heldByGuard with
    hold := { heldByGuard.hold with
      inService := noRanks.put .loopGuard true |>.put .pause true, slot2 := some { rank := .pause, settle := 0 } } }

theorem witness_ServoSampleDrivesTheReels_recovery :
    (heldByGuard.condition = .loaded ∧ heldByGuard.phase = .held ∧ heldByGuard.brakesEngaged = false ∧
      heldByGuard.hold.active = some .loopGuard ∧ heldByGuard.hold.inService.loopGuard = true) ∧
    (((heldByGuard.engine.v * defaultServo.gFF).tdiv (16 * heldByGuard.servo.reels.file.radius) +
        ((defaultServo.kpRec : Int) * ((defaultServo.setpoint : Int) - wellIn.flp.toNat)).tdiv 4).natAbs ≤ 2047 ∧
      ((heldByGuard.engine.v * defaultServo.gFF).tdiv (16 * heldByGuard.servo.reels.machine.radius) +
        ((defaultServo.kpRec : Int) * ((wellIn.mlp.toNat : Int) - defaultServo.setpoint)).tdiv 4).natAbs ≤ 2047) ∧
    (defaultServo.recoverySettle ≤ min 255 (heldByGuard.hold.settle + 1) ∧ heldByGuard.hold.pending = noRanks ∧
      heldByGuard.hold.slot2 = none ∧ heldByGuard.hold.slot1 = .saved move300 ∧ (at0 heldByGuard).vacuum.ready = false ∧
      move300.kind = .move ∧ move300.direction = .forward ∧ move300.endReason = none ∧ move300.r = some 300 ∧
      heldByGuard.sense.position.pastEot = false) ∧
    (guardOverPause.hold.slot2 = some { rank := .pause, settle := 0 } ∧ guardOverPause.hold.pending = noRanks ∧
      defaultServo.recoverySettle ≤ min 255 (guardOverPause.hold.settle + 1)) := by decide +kernel

/-- A motion that meets no limit at its next step. -/
theorem runsOn (ph : Phase) (v : Int) (h : (stopDistance profile0 v.natAbs : Int) < 300) :
    (at0 (running ph v)).RunsOn .t0 move300 where
  motion := rfl
  condition := .inl rfl
  timer := rfl
  cause := rfl
  tape := nofun
  distance := fun _ _ hr => Option.some.inj hr ▸ h

theorem witness_RampStepFollowsTheWorkingTopSpeed :
    ((at0 (running .accel 0)).RunsOn .t0 move300 ∧ 0 + profile0.aAcc < 62500) ∧
    ((at0 (running .accel 59375)).RunsOn .t0 move300 ∧ 62500 ≤ 59375 + profile0.aAcc ∧
      (at0 (running .accel 59375)).FreeToLetGo .t0) ∧
    ((at0 (running .cruise 62500)).RunsOn .t0 move300 ∧ (running .cruise 62500).engine.v = velocityOf .forward 62500) ∧
    (at0 (running .cruise 62501)).RunsOn .t0 move300 :=
  ⟨⟨runsOn _ _ (by decide), by decide⟩, ⟨runsOn _ _ (by decide), by decide, free_at0 rfl⟩, ⟨runsOn _ _ (by decide), rfl⟩,
    runsOn _ _ (by decide)⟩

/-- The list's entry of a transport. -/
def entryOf (t : TransportId) : WaitEntry := { transport := t, priority := 4, joined := 0 }

/-- T1 waits for a grant in this state. -/
def withWaiter (s : State) : State :=
  { s.setTr .t1 waitingForGrant with arbiter := { s.arbiter with waiting := [entryOf .t1] } }

theorem withWaiter_starts (s : State) : (withWaiter s).StartsOnGrant .t1 move300 where
  motion := rfl
  kind := rfl
  condition := rfl
  distance := fun _ h => Option.some.inj h ▸ by decide
  tape := nofun
  still := rfl
  tach := rfl
  cause := rfl
  copy := by decide

/-- The list of `withWaiter` is served whole where T1 finds room. -/
theorem withWaiter_serves (s : State) (h : s.arbiter.holders.get .t1 = false)
    (hr : s.arbiter.limit = 0 ∨ s.holderCount < s.arbiter.limit) : (withWaiter s).Serves [entryOf .t1] [] where
  list := rfl
  starts := fun e he => ⟨move300, by rw [List.mem_singleton.mp he]; exact withWaiter_starts s⟩
  free := fun e he => by rw [List.mem_singleton.mp he]; exact h
  once := by decide
  room := hr.imp_right .inr
  full := .inl rfl

theorem witness_SetGrantLimitSetsTheLimit_serves :
    ({ withWaiter State.reset with arbiter := { (withWaiter State.reset).arbiter with limit := 1 } } : State).Serves
      [entryOf .t1] [] ∧
    ({ withWaiter granted with arbiter := { (withWaiter granted).arbiter with limit := 1 } } : State).Serves
      [] [entryOf .t1] :=
  ⟨withWaiter_serves { State.reset with arbiter := { State.reset.arbiter with limit := 1 } } rfl (.inr (by decide)),
    { list := rfl, starts := nofun, free := nofun, once := by decide, room := .inr (.inl rfl), full := .inr ⟨by decide, by decide⟩ }⟩

/-- `granted` one step before its top speed. -/
def nearTop : State :=
  { at0 { running .accel 59375 with engine := { (running .accel 59375).engine with grant := .held } } with
    arbiter := resetArbiter.hold .t0 }

theorem witness_RampStepFollowsTheWorkingTopSpeed_serves : ((withWaiter nearTop).tr .t0).engine.grant = .held ∧
    (withWaiter nearTop).RunsOn .t0 move300 ∧ ((((withWaiter nearTop).setTr .t0 { (withWaiter nearTop).tr .t0 with
        phase := .cruise
        engine := { ((withWaiter nearTop).tr .t0).engine with v := 62500 } }).released .t0).Serves [entryOf .t1] []) :=
  ⟨rfl,
    { motion := rfl, condition := .inl rfl, timer := rfl, cause := rfl, tape := nofun
      distance := fun _ _ hr => Option.some.inj hr ▸ by decide },
    withWaiter_serves ((nearTop.setTr .t0 { nearTop.tr .t0 with
        phase := .cruise, engine := { (nearTop.tr .t0).engine with v := 62500 } }).released .t0) rfl (.inr (by decide))⟩

theorem witness_RampStepComesToRest :
    ((running .decel 3126).motion = some move300 ∧ (running .decel 3126).condition = .loaded ∧
      (running .decel 3126).engine.stepTimer = true ∧ move300.kind ≠ .load ∧ profile0.aDec < 3126) ∧
    ((withMotion .decel 3125 { move300 with endReason := some .distance }).engine.tach = .clear ∧ 3125 ≤ profile0.aDec ∧
      (running .decel 3125).queue = [] ∧ (running .decel 3125).release = none) ∧
    (({ running .holdDecel 3125 with hold := { idleHold with cause := some .sag } } : Transport).hold.cause = some .sag ∧
      (at0 (running .holdDecel 3125)).vacuum.ready = false ∧ (running .holdDecel 3125).hold = idleHold ∧
      move300.direction = .forward ∧ move300.r = some 300 ∧ (running .holdDecel 3125).sense.position.pastEot = false ∧
      (running .holdDecel 3125).load.outcome = .none) := by decide +kernel

/-- A REWIND or UNLOAD at its last step of a deceleration, in a sub-step. -/
def sequenceStep (k : OrderKind) (r : Option EndReason) (step : SeqStep) : Transport :=
  { withMotion .decel 2500 { move300 with kind := k, r := none, copy := profile15, endReason := r } with
    load := { idleLoad with sequence := if k == .unload then .unload else .rewind, step := some step } }

/-- A REWIND that ends AT BOT, an UNLOAD that goes on to WIND, one stopping between sub-steps, and one at the limit. -/
theorem witness_RampStepComesToRest_sequence :
    ((sequenceStep .rewind (some .bot) .forwardCreep).motion.bind Motion.endReason = some .bot ∧
      (sequenceStep .rewind (some .bot) .forwardCreep).engine.v.natAbs ≤ profile15.aDec ∧
      (sequenceStep .rewind (some .bot) .forwardCreep).queue = [] ∧
      (sequenceStep .rewind (some .bot) .forwardCreep).release = none) ∧
    ((sequenceStep .unload (some .bot) .forwardCreep).condition = .loaded ∧
      (sequenceStep .unload (some .bot) .forwardCreep).engine.tach = .clear) ∧
    ((sequenceStep .rewind none .reverseStop).hold.cause = none ∧ (sequenceStep .rewind none .reverseStop).hold.pending = noRanks ∧
      (sequenceStep .rewind none .reverseStop).load.outcome ≠ .limit ∧
      (at0 (sequenceStep .rewind none .reverseStop)).vacuum.ready = false) ∧
    ({ (sequenceStep .rewind none .forwardCreep).load with outcome := .limit } : LoadControl).outcome = .limit ∧
    ({ (running .decel 3125).engine with tach := .countSeen } : Engine).tach = .countSeen := by decide +kernel

/-- A search at its last step with BOT FOUND, one with no outcome, and one halted. -/
theorem witness_RampStepComesToRest_search :
    ((searching .decel 3125).condition = .loading ∧ (searching .decel 3125).load.step = some .search ∧
      (searching .decel 3125).motion = some searchMove ∧ searchMove.kind = .load ∧ searchMove.endReason ≠ some .halt ∧
      (searching .decel 3125).hold.slot1 = .free ∧ (searching .decel 3125).queue = [] ∧
      (searching .decel 3125).release = none ∧ 3125 ≤ searchMove.copy.aDec ∧ (searching .decel 3125).engine.tach = .clear ∧
      (searching .decel 3125).engine.stepTimer = true) ∧
    ({ (searching .decel 3125).load with outcome := .botFound } : LoadControl).outcome ≠ .none ∧
    ((searching .decel 3125).load.outcome = .none ∧ (at0 (searching .decel 3125)).vacuum.ready = false) ∧
    (haltedSearch.motion.bind Motion.endReason = some .halt ∧ haltedSearch.engine.tach ≠ .detected ∧
      haltedSearch.release = none) := by decide +kernel

theorem witness_RampStepComesToRest_release :
    (releasing (running .decel 3125)).release ≠ none ∧ (releasing (running .decel 3125)).queue = [] ∧
    (∀ code, ¬ (at0 (running .holdDecel 3125)).LimitMet .t0 move300.direction code) ∧
    (referencedAt 5 (searching .decel 3125)).condition = .loading :=
  ⟨by decide, rfl, limitFree_forward rfl, rfl⟩

theorem witness_DistanceTestStopsOrChains :
    ((withMotion .cruise 62500 { move300 with r := some 171 }).motion = some { move300 with r := some 171 } ∧
      (171 : Int) ≤ (stopDistance profile0 62500 : Int) ∧ profile0.aDec < 62500 ∧ (running .cruise 62500).queue = [] ∧
      (running .cruise 62500).hold.cause = none) ∧
    (queuedMove.kind = .move ∧ queuedMove.distance = some 100 ∧ queuedMove.direction = some move300.direction ∧
      queuedMove.profile.getD resting.selected = move300.profileNo ∧ move300.endReason = none ∧ resting.paused = false ∧
      resting.hold.inService = noRanks ∧ resting.hold.pending = noRanks) := by decide +kernel

/-- The first position of the EOT stop at 62,500 c/s (R55), of a MOVE and of the search; and a head that may not be
chained. -/
theorem witness_DistanceTestStopsOrChains_eot :
    ((pastEot 89829 (running .cruise 62500)).motion = some move300 ∧ move300.direction = .forward ∧
      (pastEot 89829 (running .cruise 62500)).sense.position.eotPoint = some 0 ∧
      (defaultServo.eotAllowance : Int) - (stopDistance profile0 62500 : Int) ≤ 89829 - 0 ∧
      ¬ (defaultServo.eotAllowance : Int) - (stopDistance profile0 62500 : Int) ≤ 89828 - 0) ∧
    ((pastEot 89829 (searching .cruise 62500)).condition = .loading ∧
      (pastEot 89829 (searching .cruise 62500)).load.step = some .search ∧
      (pastEot 89829 (searching .cruise 62500)).motion = some searchMove ∧ searchMove.copy.aDec < 62500) ∧
    (({ queuedMove with direction := some .reverse } : OrderRecord).direction = some .reverse ∧
      Direction.reverse ≠ move300.direction) := by decide +kernel

theorem witness_DistanceTestStopsOrChains_grant : (at0 (pastEot 89829 (running .cruise 62500))).FreeToLetGo .t0 ∧
    (at0 (running .cruise 62500)).ShortOfEot .t0 .forward 171 := ⟨free_at0 rfl, nofun⟩

theorem witness_StopDistanceIsTheSumOfTwoFloors : 0 < profile0.aDec := by decide

/-- The vacuum supply's values after reset are in order. -/
theorem resetVacuum_ordered : resetVacuum.Ordered := ⟨by decide, by decide, nofun⟩

theorem witness_PressureSampleSettlesAndFaults : State.reset.allUnloaded = true ∧
    (resetVacuum.Ordered ∧ resetVacuum.sag ≤ (140 : Byte).toNat ∧ ∀ t, ((at0 resting).tr t).hold.pending.sag = false) ∧
    ((59 : Byte).toNat < resetVacuum.loss ∧ resting.condition = .loaded ∧ (at0 resting).FreeToLetGo .t0 ∧
      ∀ u, u ≠ TransportId.t0 → ((at0 resting).tr u).condition = .unloaded) :=
  ⟨by decide +kernel, ⟨resetVacuum_ordered, by decide, fun t => by cases t <;> rfl⟩, by decide, rfl, free_at0 rfl,
    fun u h => by cases u <;> first | exact absurd rfl h | rfl⟩

/-- `quietString` without READY, T0 replaced. -/
def blowing (x : Transport) : State := { at0 x with vacuum := { resetVacuum with blower := .normal } }

theorem witness_ReadyAndEconomyEvents :
    (quietString.vacuum.economy ≠ none ∧ quietString.vacuum.blower ≠ .economy) ∧
    ((blowing unloaded).vacuum.blower = .normal ∧ (blowing unloaded).vacuum.ready = false ∧
      (blowing unloaded).allUnloaded = true) ∧
    ((loadingIn .vacuum).hold = idleHold ∧ (loadingIn .vacuum).load.step = some .vacuum) ∧
    (waitingForVacuum.hold = idleHold ∧ waitingForVacuum.motion = some move300 ∧ waitingForVacuum.engine.grant = .none ∧
      (blowing waitingForVacuum).arbiter.limit = 2 ∧ (blowing waitingForVacuum).arbiter.holders.get .t0 = false ∧
      (blowing waitingForVacuum).arbiter.waiting = [] ∧ waitingForVacuum.engine.v = 0 ∧ 0 < profile0.aAcc ∧
      profile0.aAcc < profile0.vTop) ∧
    (({ resetArbiter with limit := 1, holders := resetArbiter.holders.set .t3 true } : Arbiter).holders.get .t0 = false) := by
  decide +kernel

theorem witness_ReadyAndEconomyEvents_transports :
    (∀ t, (quietString.tr t).phase ≠ .waitGrant) ∧
    ∀ u, u ≠ TransportId.t0 → ((blowing waitingForVacuum).tr u).condition = .unloaded :=
  ⟨fun t => by cases t <;> decide +kernel, fun u h => by cases u <;> first | exact absurd rfl h | rfl⟩

/-- One transport beside UNLOADED ones, with this vacuum supply. -/
def alone (v : Vacuum) (x : Transport) : State := { at0 x with vacuum := v }

/-- The vacuum supply one sample before READY. -/
def settlingVacuum : Vacuum := { resetVacuum with blower := .normal, settle := some 290 }

theorem witness_LoadBeginsTheVacuumStep_ready :
    (alone readyVacuum unloaded).Takes .a [] ∧ (alone readyVacuum unloaded).MayOrder unit0 .t0 ∧
    unloaded.condition = .unloaded ∧ readyVacuum.ready = true ∧ readyVacuum.blower = .normal ∧ readyVacuum.mode ≠ .economy ∧
    (offline unloaded).sense.offline = true ∧ (alone readyVacuum unloaded).tables.profiles.get 0 = some profile0 :=
  ⟨⟨rfl, by decide⟩, ⟨⟨rfl, .inl rfl⟩, rfl⟩, rfl, rfl, rfl, by decide, rfl, rfl⟩

theorem witness_PressureSampleSettlesAndFaults_sag :
    (readyVacuum.Ordered ∧ readyVacuum.loss ≤ (139 : Byte).toNat ∧ (139 : Byte).toNat < readyVacuum.sag ∧
      ∀ x, ∀ u, u ≠ TransportId.t0 → ((alone readyVacuum x).tr u).condition = .unloaded) ∧
    (resting.phase = .stopped ∧ (running .cruise 62500).hold = idleHold ∧ idleHold.cause ≠ some .sag ∧
      idleHold.inService.sag = false ∧ idleHold.pending.sag = false ∧
      (alone readyVacuum (running .cruise 62500)).FreeToLetGo .t0 ∧ (running .holdDecel 3125).hold = idleHold) ∧
    (waitingForGrant.phase = .waitGrant ∧ readyVacuum.ready = true ∧ waitingForGrant.engine.grant = .requested) ∧
    (heldByPause.phase = .held ∧ heldByPause.hold.active = some .pause ∧ heldByPause.hold.slot2 = none ∧
      heldByPause.hold.inService.sag = false) :=
  ⟨⟨⟨by decide, by decide, fun _ => rfl⟩, by decide, by decide, fun _ u h => by cases u <;> first | exact absurd rfl h | rfl⟩,
    ⟨rfl, rfl, by decide, rfl, rfl, ⟨by decide, nofun⟩, rfl⟩, ⟨rfl, rfl, rfl⟩, rfl, rfl, rfl, rfl⟩

/-- VACUUM SAG at a LOOP GUARD over a PAUSE. -/
theorem witness_PressureSampleSettlesAndFaults_overflow :
    (alone readyVacuum guardOverPause).FreeToLetGo .t0 ∧ guardOverPause.phase = .held ∧
    guardOverPause.hold.active = some .loopGuard ∧ guardOverPause.hold.slot2 ≠ none ∧ guardOverPause.hold.cause ≠ some .sag ∧
    guardOverPause.hold.inService.sag = false ∧ guardOverPause.hold.pending.sag = false :=
  ⟨⟨by decide, nofun⟩, rfl, rfl, by decide, by decide, rfl, rfl⟩

theorem witness_PressureSampleSettlesAndFaults_ready :
    (settlingVacuum.Ordered ∧ settlingVacuum.ready = false ∧ settlingVacuum.run ≤ (160 : Byte).toNat ∧
      settlingVacuum.settle = some 290) ∧
    (resting.hold = idleHold ∧ resting.phase ≠ .waitVacuum ∧ (loadingIn .vacuum).hold = idleHold) ∧
    ((alone settlingVacuum waitingForVacuum).StartsOnGrant .t0 move300 ∧ waitingForVacuum.hold = idleHold ∧
      waitingForVacuum.engine.grant = .none ∧ (alone settlingVacuum waitingForVacuum).arbiter.holders.get .t0 = false ∧
      (alone settlingVacuum waitingForVacuum).arbiter.waiting = [] ∧
      (alone settlingVacuum waitingForVacuum).holderCount < (alone settlingVacuum waitingForVacuum).arbiter.limit) :=
  ⟨⟨⟨by decide, by decide, nofun⟩, rfl, by decide, rfl⟩, ⟨rfl, by decide, rfl⟩,
    { motion := rfl, kind := rfl, condition := rfl, distance := fun _ h => Option.some.inj h ▸ by decide, tape := nofun
      still := rfl, tach := rfl, cause := rfl, copy := by decide }, rfl, rfl, rfl, rfl, by decide⟩

/-- A transport HELD by VACUUM SAG over this content of slot 1. -/
def heldBySag (x : Slot1) : Transport :=
  { resting with
    phase := .held
    hold := { idleHold with slot1 := x, inService := noRanks.put .sag true, active := some .sag } }

/-- The end of a VACUUM SAG recovery: each next cause, an empty context, and a saved MOVE that starts. -/
theorem witness_PressureSampleSettlesAndFaults_sagEnds :
    (∀ x, (heldBySag x).condition = .loaded ∧ (heldBySag x).phase = .held ∧ (heldBySag x).hold.active = some .sag ∧
      (heldBySag x).hold.pending = noRanks ∧ (heldBySag x).hold.slot2 = none ∧ (heldBySag x).queue = [] ∧
      (heldBySag x).hold.slot1 = x ∧ (heldBySag x).engine.grant = .none) ∧
    sagOverPause.slot2 = some { rank := .pause, settle := 0 } ∧
    (alone settlingVacuum { heldBySag .free with motion := some move300, phase := .waitGrant, hold := idleHold }).StartsOnGrant
      .t0 move300 ∧
    (∀ code, ¬ (alone settlingVacuum (heldBySag (.saved move300))).LimitMet .t0 .forward code) ∧
    move300.direction = .forward ∧ move300.endReason ≠ some .bot ∧
    (alone settlingVacuum (heldBySag (.saved move300))).arbiter.waiting = [] ∧
    (alone settlingVacuum (heldBySag (.saved move300))).holderCount <
      (alone settlingVacuum (heldBySag (.saved move300))).arbiter.limit :=
  ⟨fun _ => ⟨rfl, rfl, rfl, rfl, rfl, rfl, rfl, rfl⟩, rfl,
    { motion := rfl, kind := rfl, condition := rfl, distance := fun _ h => Option.some.inj h ▸ by decide, tape := nofun
      still := rfl, tach := rfl, cause := rfl, copy := by decide },
    fun code => limitFree_forward rfl code, rfl, by decide, rfl, by decide⟩

/-- R90, R137: READY becoming true ends an active VACUUM SAG recovery over a PAUSE, which is active again. -/
theorem test_ready_ends_a_sag_recovery :
    after (exec .readyBecomesTrue (alone settlingVacuum { resting with phase := .held, hold := sagOverPause }))
      (fun s => ((s.tr .t0).hold.active, (s.tr .t0).hold.slot2, (s.tr .t0).hold.inService.sag)) =
      some (some .pause, none, false) := by decide +kernel

theorem witness_SensorLevelsAreHeld : resting.lines.bots = false ∧ resting.lines.eots = false ∧
    ({ resting.lines with eots := true } : Lines).eots = true ∧ resting.load.step ≠ some .clearing ∧
    (withMotion .decel 3125 { move300 with kind := .rewind }).motion ≠ none ∧ true ≠ unloaded.lines.coverOpen ∧
    unloaded.lines.present = true ∧ ({ resting.lines with present := false } : Lines).present = false := by decide +kernel

/-- A REWIND in CLEARING with its marker over the sensor: moving, waiting and held. -/
def clearing (ph : Phase) : Transport :=
  { sequenceStep .rewind none .clearing with phase := ph, lines := resting.lines.setMarker .bot true }

/-- R152: BOTS leaves in CLEARING in a waiting phase: FORWARD CREEP at the creep speed of profile 15, in the wait. -/
theorem test_marker_left_in_a_wait :
    after (exec (.markerInputChange .t0 .bot false) (at0 { clearing .waitVacuum with
        motion := some { move300 with kind := .rewind, r := none, direction := .reverse, copy := profile15 } }))
      (fun s => ((s.tr .t0).load.step, (s.tr .t0).engine.workTop, (s.tr .t0).motion.map Motion.direction,
        (s.tr .t0).phase)) = some (some .forwardCreep, some 10000, some .forward, .waitVacuum) := by decide +kernel

theorem witness_SensorLevelsAreHeld_clearing :
    ((clearing .cruise).lines.bots = true ∧ (clearing .cruise).load.step = some .clearing ∧ (clearing .cruise).motion ≠ none ∧
      (clearing .cruise).phase = .cruise) ∧
    ((clearing .waitGrant).phase = .waitGrant ∧ (clearing .waitGrant).motion ≠ none) ∧
    (({ clearing .held with motion := none, hold := { idleHold with slot1 := .saved move300 } } : Transport).motion = none ∧
      (clearing .held).phase = .held) := by decide +kernel

theorem witness_SensorLevelsAreHeld_grant : (at0 (clearing .cruise)).FreeToLetGo .t0 := free_at0 rfl

theorem witness_OnlineAndPresenceChanges : (at0 resting).resetHold = none ∧
    (true ≠ resting.lines.offlineSwitch ∧ true ≠ resting.sense.offline ∧ resting.lines.present = true) ∧
    (resting.lines.coverOpen = false ∧ resting.sense.offline = resting.lines.offlineSwitch) ∧
    ({ resting.lines with present := false, offlineSwitch := true } : Lines).offlineSwitch ≠ resting.sense.offline := by
  decide +kernel

theorem witness_FaultStopFollowsItsCause :
    (resting.condition ≠ .unloaded ∧ resting.condition ≠ .faulted ∧ resting.lines.present = true ∧
      resting.lines.coverOpen = false ∧ (resting.sense.columns.get .file).tapeSeen = true ∧ resting.servo.mode = .track) ∧
    guarded.servo.loopGuard ≠ none ∧ heldByGuard.hold.timer ≠ none ∧
    ((faultedBy .tachLoss).condition = .faulted ∧ (faultedBy .tachLoss).lines.coverOpen = false ∧
      (faultedBy .tachLoss).snapshot = some someSnapshot) := by decide +kernel

theorem witness_FaultStopFollowsItsCause_grant : (at0 resting).FreeToLetGo .t0 := free_at0 rfl

/-- A second zero reading, a second active end switch, and the last clamped sample of a saturation run. -/
theorem witness_FaultStopFollowsItsCause_samples :
    (resting.condition = .loaded ∧ resting.brakesEngaged = false ∧ resting.sense.columns.file.tapeSeen = true ∧
      resting.sense.columns.machine.tapeSeen = true) ∧
    ((depths 0 128).flp = 0 ∧ 1 ≤ ({ seenColumn with zeroRun := 1 } : Column).zeroRun ∧
      ((resting.engine.v * defaultServo.gFF).tdiv (16 * resting.servo.reels.file.radius) +
        ((defaultServo.kp : Int) * ((defaultServo.setpoint : Int) - (0 : Byte).toNat)).tdiv 4).natAbs ≤ 2047) ∧
    (({ wellIn with mle := true } : LoopReading).mle = true ∧ 1 ≤ ({ seenColumn with lowerRun := 1 } : Column).lowerRun) ∧
    (2047 < ((((strongGain 49).servoOf .t0).kp : Int) *
        ((((strongGain 49).servoOf .t0).setpoint : Int) - (depths 1 128).flp.toNat)).tdiv 4 ∧
      ((strongGain 49).tr .t0).engine.v = 0 ∧ ((strongGain 49).tr .t0).condition = .loaded ∧
      ((strongGain 49).servoOf .t0).satLimit ≤ min 255 (((strongGain 49).tr .t0).servo.reels.file.satRun + 1)) := by
  decide +kernel

theorem witness_FaultsCounterCountsFaultStops : wide.unit = 255 ∧ State.reset.Takes wide.port [0] ∧
    State.reset.Takes wide.port [1] ∧ State.reset.Takes wide.port [] :=
  ⟨rfl, ⟨rfl, by decide⟩, ⟨rfl, by decide⟩, rfl, by decide⟩

theorem witness_TachLossForcesAStop :
    ((at0 (running .cruise 62500)).FreeToLetGo .t0 ∧ (running .cruise 62500).engine.tachTimer ≠ none ∧
      (running .cruise 62500).engine.v ≠ 0) ∧ (running .decel 3125).phase = .decel ∧
    ({ (running .decel 3125).engine with tach := .detected } : Engine).tach = .detected ∧
    (running .decel 3125).engine.v.natAbs ≤ move300.copy.aDec := ⟨⟨free_at0 rfl, by decide, by decide⟩, rfl, rfl, by decide⟩

theorem witness_LoadAndUnloadExpiries :
    ((loadingIn .vacuum).load.timer ≠ none ∧ (loadingIn .vacuum).release = none ∧ (loadingIn .vacuum).condition = .loading ∧
      (loadingIn .vacuum).load.record = some { origin := .port .a, tag := 5 } ∧
      (loadingIn .vacuum).load.step = some .vacuum ∧ (loadingIn .draw).load.step = some .draw) ∧
    (winding.load.timer ≠ none ∧ winding.release = none ∧ winding.condition = .unloading ∧
      winding.motion = some { move300 with kind := .unload, r := none }) := by decide +kernel

theorem witness_LoadAndUnloadExpiries_release : (releasing winding).load.timer ≠ none ∧ (releasing winding).release ≠ none ∧
    (releasing (loadingIn .draw)).load.step = some .draw := by decide +kernel

theorem witness_SearchLimitDecidesTheSearch :
    ((searching .cruise 12500).current = some searchMove ∧ (searching .cruise 12500).condition = .loading ∧
      (searching .cruise 12500).load.step = some .search ∧ (searching .cruise 12500).load.outcome = .none) ∧
    (searching .decel 12500).phase = .decel ∧ (running .cruise 62500).condition ≠ .loading ∧
    (running .cruise 62500).load.step ≠ some .forwardCreep := by decide +kernel

theorem witness_SearchLimitDecidesTheSearch_grant : (at0 (searching .cruise 12500)).FreeToLetGo .t0 := free_at0 rfl

theorem witness_SearchLimitDecidesTheSearch_waits :
    ((searching .waitVacuum 0).phase = .waitVacuum ∧ (searching .waitVacuum 0).engine.grant ≠ .held ∧
      (searching .waitVacuum 0).motion = some searchMove ∧ (searching .waitVacuum 0).hold.slot1 = .free ∧
      (searching .waitVacuum 0).queue = [] ∧ (searching .waitVacuum 0).load.outcome = .none) ∧
    (({ sequenceStep .rewind none .forwardCreep with phase := .waitVacuum } : Transport).condition = .loaded ∧
      (sequenceStep .rewind none .forwardCreep).load.outcome = .none) := by decide +kernel

theorem witness_MarkerCrossingsAreActedOn :
    ((onMarker .eot .reverse resting).sense.run .eot).count ≠ 0 ∧
    ((onMarker .eot .forward resting).sense.run .eot).qualified = false ∧
    ((onMarker .bot .forward resting).condition ≠ .loading ∧ (onMarker .bot .forward resting).load.step ≠ some .forwardCreep) ∧
    ((onMarker .bot .reverse resting).motion = none ∧ (onMarker .bot .reverse resting).hold.slot1 = .free) ∧
    (onMarker .bot .reverse (withMotion .cruise (-62500) { move300 with direction := .reverse })).motion =
      some { move300 with direction := .reverse } ∧
    ({ (withMotion .cruise (-62500) { move300 with kind := .rewind, direction := .reverse }).load with
      step := some .reverse } : LoadControl).step = some .reverse := by decide +kernel

/-- The forward BOT crossing of a search and of a forward creep, moving, slowing, waiting and held. -/
theorem witness_MarkerCrossingsAreActedOn_found :
    ((onMarker .bot .forward (searching .cruise 12500)).condition = .loading ∧
      (onMarker .bot .forward (searching .cruise 12500)).load.step = some .search ∧
      (onMarker .bot .forward (searching .cruise 12500)).current ≠ none ∧
      ((onMarker .bot .forward (searching .cruise 12500)).sense.run .bot).direction = .forward) ∧
    ((searching .waitVacuum 0).engine.grant ≠ .held ∧ (searching .waitVacuum 0).hold.slot1 = .free) ∧
    ((sequenceStep .rewind none .forwardCreep).condition = .loaded ∧
      (sequenceStep .rewind none .forwardCreep).load.step = some .forwardCreep ∧
      (sequenceStep .rewind none .forwardCreep).phase = .decel ∧ (sequenceStep .rewind none .forwardCreep).motion ≠ none ∧
      (sequenceStep .unload none .forwardCreep).engine.grant ≠ .held) ∧
    (heldByGuard.motion = none ∧ heldByGuard.hold.slot1 = .saved move300 ∧ heldByGuard.phase = .held) := by decide +kernel

/-- The reverse BOT crossing of a reverse MOVE in the other phases, and of a forward one. -/
theorem witness_MarkerCrossingsAreActedOn_reverse :
    ((withMotion .holdDecel (-3125) { move300 with direction := .reverse }).phase = .holdDecel ∧
      (withMotion .decel (-3125) { move300 with direction := .reverse }).phase = .decel) ∧
    (({ waitingForVacuum with motion := some { move300 with direction := .reverse } } : Transport).phase = .waitVacuum ∧
      waitingForVacuum.engine.grant ≠ .held ∧ waitingForVacuum.queue = [] ∧ waitingForVacuum.condition = .loaded) ∧
    ({ heldByGuard.hold with slot1 := .saved { move300 with direction := .reverse } } : Hold).slot1 =
      .saved { move300 with direction := .reverse } ∧
    (move300.kind = .move ∧ move300.direction = .forward) := by decide +kernel

theorem witness_MarkerCrossingsAreActedOn_grant :
    (at0 (onMarker .bot .forward (searching .cruise 12500))).FreeToLetGo .t0 ∧
    (at0 (onMarker .bot .forward { sequenceStep .rewind none .forwardCreep with phase := .cruise })).FreeToLetGo .t0 :=
  ⟨free_at0 rfl, free_at0 rfl⟩

theorem witness_RecoverySettledEndsTheRecovery :
    (heldByGuard.hold.active = some .loopGuard ∧ heldByGuard.hold.inService = noRanks.put .loopGuard true ∧
      heldByGuard.hold.slot2 = none ∧ heldByGuard.hold.pending = noRanks ∧ heldByGuard.hold.slot1 = .saved move300 ∧
      (at0 heldByGuard).vacuum.ready = false ∧ heldByGuard.sense.position.pastEot = false) ∧
    (({ heldByGuard.hold with slot1 := .emptyContext } : Hold).slot1 = .emptyContext ∧ heldByGuard.queue = [] ∧
      heldByGuard.release = none) ∧
    ({ heldByGuard.hold with pending := noRanks.put .pause true } : Hold).pending = noRanks.put .pause true ∧
    resting.hold.active ≠ some .loopGuard := by decide +kernel

/-- `heldByGuard` over another saved motion, with this sequence state. -/
def heldOver (m : Motion) (l : LoadControl) : Transport :=
  { heldByGuard with hold := { heldByGuard.hold with slot1 := .saved m }, load := l }

theorem witness_RecoverySettledEndsTheRecovery_ends :
    ((heldOver { move300 with r := some 0 } idleLoad).hold.slot1 = .saved { move300 with r := some 0 } ∧
      (heldOver move300 idleLoad).condition = .loaded ∧ (heldOver move300 idleLoad).queue = [] ∧
      ¬ (0 : Int) < 0) ∧
    (at0 (pastEot 90000 (heldOver move300 idleLoad))).LimitMet .t0 move300.direction 3 ∧
    ((sequenceStep .rewind (some .bot) .forwardCreep).motion.bind Motion.endReason = some .bot ∧
      ({ (sequenceStep .rewind none .forwardCreep).load with outcome := .limit } : LoadControl).outcome = .limit) ∧
    ({ (searching .held 0).load with outcome := .botFound } : LoadControl).outcome ≠ .none :=
  ⟨by decide, limitMet_pastEot _, by decide +kernel, by decide⟩

theorem witness_RecoverySettledEndsTheRecovery_restarts :
    (at0 (heldOver move300 idleLoad)).vacuum.ready = false ∧ (∀ code, ¬ (at0 heldByGuard).LimitMet .t0 move300.direction code) ∧
    (sequenceStep .rewind none .reverseCreep).load.outcome ≠ .limit ∧ (searching .held 0).load.outcome = .none ∧
    searchMove.kind = .load := ⟨rfl, limitFree_forward rfl, by decide, rfl, rfl⟩

theorem witness_CarrierAndTransmissionEnd : (resetPort false).up = false ∧ State.reset.resetHold = none ∧
    (resetPort true).up = true := by decide +kernel

end Sys2Proof.Tests
end

section
/-! SUPPORT. Rules for the order queue and the motion context: frames put at the tails of the transmit queues, grants given back, orders that end, and how the hand-offs behind an ending run. -/

namespace Sys2Proof.OrderQueue

open Sys2Proof Sys2Proof.Machine

/-! ### Frames at the tails of the transmit queues -/

/-- The state with these frames at the tails of the transmit queues of the two ports; a DOWN port takes none. -/
def sending (f : PortId → List OutFrame) (s : State) : State :=
  { s with ports := { a := s.ports.a.sent (f .a), b := s.ports.b.sent (f .b) } }

/-- The DONE of a frame, on the port that the frame came on. -/
def doneTo (h : Head) (q : PortId) : List OutFrame := if q = h.port then [doneFrame h] else []

theorem sent_sent (x : Port) (f g : List OutFrame) : (x.sent f).sent g = x.sent (f ++ g) := by
  unfold Port.sent
  by_cases hx : x.up = true <;> simp [hx]

@[simp] theorem sent_nil (x : Port) : x.sent [] = x := by
  by_cases hx : x.up = true <;> simp [Port.sent]

theorem sent_up {x : Port} (h : x.up = true) (f : List OutFrame) : x.sent f = { x with tx := x.tx ++ f } := by
  simp [Port.sent, h]

theorem sent_down {x : Port} (h : ¬ x.up = true) (f : List OutFrame) : x.sent f = x := by
  cases x; simp_all [Port.sent]

@[simp] theorem port_sending (f : PortId → List OutFrame) (s : State) (q : PortId) :
    (sending f s).port q = (s.port q).sent (f q) := by cases q <;> rfl

theorem sending_sending (f g : PortId → List OutFrame) (s : State) :
    sending g (sending f s) = sending (fun q => f q ++ g q) s := by
  simp [sending, sent_sent]

theorem sending_none (s : State) : sending (fun _ => []) s = s := by simp [sending]

theorem sending_congr {f g : PortId → List OutFrame} {s : State} (h : ∀ q, f q = g q) : sending f s = sending g s := by
  rw [funext h]

@[simp] theorem tr_sending (f : PortId → List OutFrame) (s : State) (u : TransportId) : (sending f s).tr u = s.tr u := rfl
@[simp] theorem owner_sending (f : PortId → List OutFrame) (s : State) (u : TransportId) :
    (sending f s).owner u = s.owner u := rfl
@[simp] theorem servoOf_sending (f : PortId → List OutFrame) (s : State) (u : TransportId) :
    (sending f s).servoOf u = s.servoOf u := rfl
@[simp] theorem sending_arbiter (f : PortId → List OutFrame) (s : State) : (sending f s).arbiter = s.arbiter := rfl
@[simp] theorem sending_vacuum (f : PortId → List OutFrame) (s : State) : (sending f s).vacuum = s.vacuum := rfl
@[simp] theorem sending_tables (f : PortId → List OutFrame) (s : State) : (sending f s).tables = s.tables := rfl
@[simp] theorem sending_monitor (f : PortId → List OutFrame) (s : State) : (sending f s).monitor = s.monitor := rfl
@[simp] theorem sending_owners (f : PortId → List OutFrame) (s : State) : (sending f s).owners = s.owners := rfl
@[simp] theorem setTr_sending (f : PortId → List OutFrame) (s : State) (u : TransportId) (x : Transport) :
    (sending f s).setTr u x = sending f (s.setTr u x) := rfl

/-- Frames for one port alone. -/
theorem sending_eq_setPort (p : PortId) (f : List OutFrame) (s : State) :
    sending (fun q => if q = p then f else []) s = s.setPort p ((s.port p).sent f) := by
  cases p <;> simp [sending, State.port, State.setPort, PerPort.get, PerPort.set]

/-- A placed frame stands at the tail of its port's queue (R160). -/
theorem place_eq (p : PortId) (f : OutFrame) (s : State) :
    place p f s = sending (fun q => if q = p then [f] else []) s := by
  rw [sending_eq_setPort]
  by_cases hu : (s.port p).up = true
  · simp [place, hu, Port.sent]
  · simp [place, hu, sent_down]

/-! ### The arrival of a frame -/

@[simp] theorem tr_counted (s : State) (p : PortId) (u : TransportId) : (s.counted p).tr u = s.tr u := rfl
@[simp] theorem owner_counted (s : State) (p : PortId) (u : TransportId) : (s.counted p).owner u = s.owner u := rfl
@[simp] theorem servoOf_counted (s : State) (p : PortId) (u : TransportId) : (s.counted p).servoOf u = s.servoOf u := rfl
@[simp] theorem counted_owners (s : State) (p : PortId) : (s.counted p).owners = s.owners := rfl
@[simp] theorem counted_arbiter (s : State) (p : PortId) : (s.counted p).arbiter = s.arbiter := rfl
@[simp] theorem counted_vacuum (s : State) (p : PortId) : (s.counted p).vacuum = s.vacuum := rfl
@[simp] theorem counted_tables (s : State) (p : PortId) : (s.counted p).tables = s.tables := rfl
@[simp] theorem counted_monitor (s : State) (p : PortId) : (s.counted p).monitor = s.monitor := rfl
@[simp] theorem setTr_counted (s : State) (p : PortId) (u : TransportId) (x : Transport) :
    (s.counted p).setTr u x = (s.setTr u x).counted p := rfl
@[simp] theorem setOwner_counted (s : State) (p : PortId) (u : TransportId) (o : Option PortId) :
    (s.counted p).setOwner u o = (s.setOwner u o).counted p := rfl

/-- The ports of a counted state depend on the ports alone. -/
theorem port_counted_congr {s w : State} (h : w.ports = s.ports) (p q : PortId) :
    (w.counted p).port q = (s.counted p).port q := by
  simp only [State.counted, State.port, State.setPort, h]

theorem up_counted (s : State) (p q : PortId) : ((s.counted p).port q).up = (s.port q).up := countReceived_up p q s

theorem unitMap_counted (s : State) (p q : PortId) : ((s.counted p).port q).unitMap = (s.port q).unitMap :=
  countReceived_map p q s

theorem tx_counted (s : State) (p q : PortId) : ((s.counted p).port q).tx = (s.port q).tx := countReceived_tx p q s

theorem respond_done_eq (h : Head) (s : State) : respond h .done [] s = sending (doneTo h) s := place_eq ..

/-- A counted frame that is answered DONE. -/
theorem sending_done_counted {h : Head} {s : State} (hu : (s.port h.port).up = true) :
    sending (doneTo h) (s.counted h.port) = s.answered h 0 [] := by
  rw [← respond_done_eq, respond_eq (by rw [up_counted, hu])]
  rfl

/-- A counted frame that is refused. -/
theorem refused_counted {h : Head} {s : State} (hu : (s.port h.port).up = true) (st : Status) :
    refused h st (s.counted h.port) = .next (s.turnedAway h st.code []) := by
  have hc : ((countRefusal h.port (s.counted h.port)).port h.port).up = true := by
    simp [countRefusal, Port.setCounters, up_counted, hu]
  rw [refused, refuse, respond_eq hc]
  rfl

theorem passes_of_maySend {s : State} {h : Head} {t : TransportId} (hm : s.MaySend h t) (c : OrderClass) :
    c.passes (s.owner t) h.port = true := by
  cases c <;> simp [OrderClass.passes] <;> simpa using hm.free

/-- An order that may be sent to an ONLINE transport, or that is served OFFLINE too, is counted and served. -/
theorem orderFrame_counted {s : State} {h : Head} {t : TransportId} {b : List Byte} {c : OrderClass} {o : Bool}
    (serve : TransportId → State → Result) (ht : s.Takes h.port b) (hm : s.MaySend h t)
    (ho : (s.tr t).sense.offline = false ∨ o = true) :
    orderFrame h b c o serve s = serve t (s.counted h.port) :=
  orderFrame_served serve ht.ready ht.fits hm.names (passes_of_maySend hm c) ho

/-- The sender of an accepted reserving order owns the transport (R164). -/
theorem reserveFor_eq {s : State} {h : Head} {t : TransportId} (hm : s.MaySend h t) :
    reserveFor h t s = s.setOwner t (some h.port) := by
  obtain hn | hs := hm.free
  · simp [reserveFor, hn]
  · have : s.setOwner t (some h.port) = s := by
      have e : s.owners.set t (some h.port) = s.owners := by
        rw [← show s.owners.get t = some h.port from hs]; exact Quad.set_get ..
      simp [State.setOwner, e]
    simp [reserveFor, hs, this]

theorem maySend_counted {s : State} {h : Head} {t : TransportId} (hm : s.MaySend h t) :
    (s.counted h.port).MaySend h t where
  names := (countReceived_addressed ..).trans hm.names
  free := hm.free

/-- STOP past the checks of the Port Controller (R33). -/
theorem exec_stop {s : State} {h : Head} {t : TransportId} (ht : s.Takes h.port []) (hm : s.MaySend h t) :
    exec (.stop h) s = answerDone h (stopEffect t (s.counted h.port)) :=
  orderFrame_counted _ ht hm (.inr rfl)

/-- HALT past the checks of the Port Controller (R34). -/
theorem exec_halt {s : State} {h : Head} {t : TransportId} (ht : s.Takes h.port []) (hm : s.MaySend h t) :
    exec (.halt h) s = answerDone h (haltEffect t (s.counted h.port)) :=
  orderFrame_counted _ ht hm (.inr rfl)

/-- PAUSE past the checks of the Port Controller (R35). -/
theorem exec_pause {s : State} {h : Head} {t : TransportId} (ht : s.Takes h.port []) (hm : s.MayOrder h t) :
    exec (.pause h) s = servePause h t (s.counted h.port) :=
  orderFrame_counted _ ht hm.toMaySend (.inl hm.online)

/-- CONTINUE past the checks of the Port Controller (R36). -/
theorem exec_continue {s : State} {h : Head} {t : TransportId} (ht : s.Takes h.port []) (hm : s.MayOrder h t) :
    exec (.continueOrder h) s = serveContinue h t (s.counted h.port) :=
  orderFrame_counted _ ht hm.toMaySend (.inl hm.online)

/-- SELECT PROFILE past the checks of the Port Controller (R28). -/
theorem exec_selectProfile {s : State} {h : Head} {t : TransportId} {b : List Byte} (ht : s.Takes h.port b)
    (hm : s.MayOrder h t) : exec (.selectProfile h b) s = serveSelect h b t (s.counted h.port) :=
  orderFrame_counted _ ht hm.toMaySend (.inl hm.online)

/-! ### Ending responses -/

/-- Where position and unit maps agree, the ending responses agree. -/
theorem ending_congr (s w : State) {t : TransportId} (hp : (w.tr t).position = (s.tr t).position)
    (hm : ∀ q, (w.port q).unitMap = (s.port q).unitMap) (p : PortId) (a : Option Byte) (g c : Byte) (e : Option Int)
    (k : Option FaultCause) (l : Option LoadStep) : w.ending t p a g c e k l = s.ending t p a g c e k l := by
  simp [State.ending, hp, hm]

theorem endingOf_congr (s w : State) {t : TransportId} (hp : (w.tr t).position = (s.tr t).position)
    (hm : ∀ q, (w.port q).unitMap = (s.port q).unitMap) (q : PortId) (m : Motion) (c : Byte) (k : Option FaultCause) :
    w.endingOf t q m c k = s.endingOf t q m c k := by
  simp [State.endingOf, ending_congr s w hp hm]

theorem flushed_congr (s w : State) {t : TransportId} (hp : (w.tr t).position = (s.tr t).position)
    (hq : (w.tr t).queue = (s.tr t).queue) (hm : ∀ q, (w.port q).unitMap = (s.port q).unitMap) (q : PortId) (c : Byte)
    (k : Option FaultCause) : w.flushed t q c k = s.flushed t q c k := by
  simp [State.flushed, hq, ending_congr s w hp hm]

theorem loadEnding_congr (s w : State) {t : TransportId} (hp : (w.tr t).position = (s.tr t).position)
    (hl : (w.tr t).load.record = (s.tr t).load.record) (hm : ∀ q, (w.port q).unitMap = (s.port q).unitMap) (q : PortId)
    (c : Byte) (k : Option FaultCause) : w.loadEnding t q c k = s.loadEnding t q c k := by
  simp [State.loadEnding, hl, ending_congr s w hp hm]

section
variable (s : State) (t : TransportId) (q : PortId) (m : Motion) (c : Byte) (k : Option FaultCause)

@[simp] theorem endingOf_counted (p : PortId) : (s.counted p).endingOf t q m c k = s.endingOf t q m c k :=
  endingOf_congr s (s.counted p) rfl (unitMap_counted s p) q m c k

@[simp] theorem flushed_counted (p : PortId) : (s.counted p).flushed t q c k = s.flushed t q c k :=
  flushed_congr s (s.counted p) rfl rfl (unitMap_counted s p) q c k

@[simp] theorem loadEnding_counted (p : PortId) : (s.counted p).loadEnding t q c k = s.loadEnding t q c k :=
  loadEnding_congr s (s.counted p) rfl rfl (unitMap_counted s p) q c k

theorem unitMap_sending (f : PortId → List OutFrame) : ((sending f s).port q).unitMap = (s.port q).unitMap := by
  simp [Port.sent]

@[simp] theorem endingOf_sending (f : PortId → List OutFrame) : (sending f s).endingOf t q m c k = s.endingOf t q m c k :=
  endingOf_congr s (sending f s) rfl (fun r => unitMap_sending s r f) q m c k

@[simp] theorem flushed_sending (f : PortId → List OutFrame) : (sending f s).flushed t q c k = s.flushed t q c k :=
  flushed_congr s (sending f s) rfl rfl (fun r => unitMap_sending s r f) q c k

@[simp] theorem loadEnding_sending (f : PortId → List OutFrame) :
    (sending f s).loadEnding t q c k = s.loadEnding t q c k :=
  loadEnding_congr s (sending f s) rfl rfl (fun r => unitMap_sending s r f) q c k

variable {x : Transport} (hp : x.sense.position = (s.tr t).sense.position)
include hp

@[simp] theorem endingOf_setTr : (s.setTr t x).endingOf t q m c k = s.endingOf t q m c k :=
  endingOf_congr s (s.setTr t x) (by simpa [Transport.position] using hp) (fun _ => rfl) q m c k

@[simp] theorem flushed_setTr (hq : x.queue = (s.tr t).queue) : (s.setTr t x).flushed t q c k = s.flushed t q c k :=
  flushed_congr s (s.setTr t x) (by simpa [Transport.position] using hp) (by simpa using hq) (fun _ => rfl) q c k

@[simp] theorem loadEnding_setTr (hl : x.load.record = (s.tr t).load.record) :
    (s.setTr t x).loadEnding t q c k = s.loadEnding t q c k :=
  loadEnding_congr s (s.setTr t x) (by simpa [Transport.position] using hp) (by simpa using hl) (fun _ => rfl) q c k

end

theorem placeEnding_eq (t : TransportId) (o : Origin) (g : Byte) (a : Option Byte) (st : Status) (e : Option Int)
    (k : Option FaultCause) (l : Option LoadStep) (s : State) :
    placeEnding t o g a st e k l s =
      sending (fun q => if o = .port q then [s.ending t q a g st.code e k l] else []) s := by
  cases o with
  | panel => simpa [placeEnding] using (sending_none s).symm
  | port p =>
    rw [placeEnding, place_eq]
    refine sending_congr fun q => ?_
    by_cases hq : q = p
    · subst hq; simp [State.ending]
    · simp [hq, Ne.symm hq]

theorem placeMotionEnding_eq (t : TransportId) (m : Motion) (st : Status) (k : Option FaultCause) (s : State) :
    placeMotionEnding t m st k s = sending (fun q => s.endingOf t q m st.code k) s := by
  rw [placeMotionEnding, placeEnding_eq]
  refine sending_congr fun q => ?_
  simp [State.endingOf, Motion.stopError]

theorem placeLoadEnding_eq (t : TransportId) (st : Status) (k : Option FaultCause) (s : State) :
    placeLoadEnding t st k none s = sending (fun q => s.loadEnding t q st.code k) s := by
  cases hr : (s.tr t).load.record with
  | none => simpa [placeLoadEnding, State.loadEnding, hr] using (sending_none s).symm
  | some l => simp only [placeLoadEnding, State.loadEnding, hr, placeEnding_eq]

/-- The records of a queue answered head first (R37). -/
theorem placeRecords_eq (t : TransportId) (st : Status) (k : Option FaultCause) (xs : List OrderRecord) (s : State) :
    xs.foldl (placeRecordEnding t st k) s =
      sending (fun q => (xs.filter fun x => x.origin = .port q).map
        fun x => s.ending t q x.arrivalUnit x.tag st.code none k none) s := by
  induction xs generalizing s with
  | nil => simpa using (sending_none s).symm
  | cons x xs ih =>
    have hm : ∀ q, ((placeRecordEnding t st k s x).port q).unitMap = (s.port q).unitMap := fun q => by
      rw [placeRecordEnding, placeEnding_eq]; simp [Port.sent]
    have hp : ((placeRecordEnding t st k s x).tr t).position = (s.tr t).position := by
      rw [placeRecordEnding, placeEnding_tr]
    rw [List.foldl_cons, ih]
    simp only [ending_congr s _ hp hm]
    rw [placeRecordEnding, placeEnding_eq, sending_sending]
    refine sending_congr fun q => ?_
    by_cases hx : x.origin = .port q <;> simp [hx]

theorem flush_eq (t : TransportId) (st : Status) (k : Option FaultCause) (s : State) :
    flush t st k s =
      sending (fun q => s.flushed t q st.code k) (s.setTr t { s.tr t with queue := [] }) := by
  rw [flush, placeRecords_eq]
  rfl

/-! ### The end of an order -/

theorem monitorEnd_eq (t : TransportId) (s : State) :
    monitorEnd t s = { s with monitor := if s.monitor.transport = t ∧ s.monitor.measure = .startLatency then
      { s.monitor with running := none } else s.monitor } := by
  by_cases hw : s.monitor.transport = t ∧ s.monitor.measure = .startLatency <;>
    simp [monitorEnd, Monitor.watches, hw]

theorem afterOrder_eq (l : LoadControl) :
    l.afterOrder = if l.sequence = .rewind ∨ l.sequence = .unload then idleLoad else l := by
  cases hs : l.sequence <;> simp [LoadControl.afterOrder, hs]

/-- The end of an order is its response and a motion context that is gone (R32). -/
theorem finishOrder_eq (t : TransportId) (m : Motion) (st : Status) (s : State) :
    finishOrder t m st s = sending (fun q => s.endingOf t q m st.code none) (s.orderGone t) := by
  rw [finishOrder, placeMotionEnding_eq, monitorEnd_eq]
  simp only [Transport.emptyMotion, afterOrder_eq]
  rfl

theorem endOrder_eq (t : TransportId) (m : Motion) (st : Status) (s : State) :
    endOrder t m st s =
      afterEnding t (sending (fun q => s.endingOf t q m st.code none) ((s.orderGone t).setPhase t .stopped)) := by
  rw [endOrder, finishOrder_eq]
  rfl

/-! ### What leaves the ports and the position alone -/

@[simp] theorem orderGone_ports (s : State) (t : TransportId) : (s.orderGone t).ports = s.ports := rfl
@[simp] theorem orderGone_arbiter (s : State) (t : TransportId) : (s.orderGone t).arbiter = s.arbiter := rfl
@[simp] theorem orderGone_counted (s : State) (t : TransportId) (p : PortId) :
    (s.counted p).orderGone t = (s.orderGone t).counted p := rfl
@[simp] theorem orderGone_sending (s : State) (t : TransportId) (f : PortId → List OutFrame) :
    (sending f s).orderGone t = sending f (s.orderGone t) := rfl
@[simp] theorem setPhase_counted (s : State) (t : TransportId) (x : Phase) (p : PortId) :
    (s.counted p).setPhase t x = (s.setPhase t x).counted p := rfl
@[simp] theorem setPhase_sending (s : State) (t : TransportId) (x : Phase) (f : PortId → List OutFrame) :
    (sending f s).setPhase t x = sending f (s.setPhase t x) := rfl

@[simp] theorem setPhase_setTr (s : State) (t : TransportId) (x : Transport) (p : Phase) :
    (s.setTr t x).setPhase t p = s.setTr t { x with phase := p } := by
  simp only [State.setPhase, State.tr_setTr_self, State.setTr_setTr]

@[simp] theorem tr_orderGone (s : State) (t : TransportId) :
    (s.orderGone t).tr t = { s.tr t with
      motion := none, engine := { (s.tr t).engine with workTop := none }
      load := if (s.tr t).load.sequence = .rewind ∨ (s.tr t).load.sequence = .unload then idleLoad else (s.tr t).load } :=
  State.tr_setTr_self ..

/-! ### Grants given back -/

@[simp] theorem released_counted (s : State) (t : TransportId) (p : PortId) :
    (s.counted p).released t = (s.released t).counted p := rfl

@[simp] theorem letGo_counted (s : State) (t : TransportId) (p : PortId) :
    (s.counted p).letGo t = (s.letGo t).counted p := by
  by_cases hg : (s.tr t).engine.grant = .held <;> simp [State.letGo, hg]

@[simp] theorem letGo_sending (s : State) (t : TransportId) (f : PortId → List OutFrame) :
    (sending f s).letGo t = sending f (s.letGo t) := by
  by_cases hg : (s.tr t).engine.grant = .held <;> simp only [State.letGo, tr_sending, hg, if_true, if_false]; rfl

theorem letGo_setOwner (s : State) (t : TransportId) (o : Option PortId) :
    (s.setOwner t o).letGo t = (s.letGo t).setOwner t o := by
  by_cases hg : (s.tr t).engine.grant = .held <;> simp only [State.letGo, State.tr_setOwner, hg, if_true, if_false]; rfl

theorem withdrawn_setOwner (s : State) (t : TransportId) (o : Option PortId) :
    (s.setOwner t o).withdrawn t = (s.withdrawn t).setOwner t o := by
  by_cases hg : (s.tr t).engine.grant = .requested <;>
    simp only [State.withdrawn, State.tr_setOwner, hg, if_true, if_false]; rfl

@[simp] theorem withdrawn_counted (s : State) (t : TransportId) (p : PortId) :
    (s.counted p).withdrawn t = (s.withdrawn t).counted p := by
  by_cases hg : (s.tr t).engine.grant = .requested <;> simp only [State.withdrawn, tr_counted, hg, if_true, if_false]; rfl

@[simp] theorem letGo_ports (s : State) (t : TransportId) : (s.letGo t).ports = s.ports := by
  by_cases hg : (s.tr t).engine.grant = .held <;> simp [State.letGo, hg, State.released]

@[simp] theorem withdrawn_ports (s : State) (t : TransportId) : (s.withdrawn t).ports = s.ports := by
  by_cases hg : (s.tr t).engine.grant = .requested <;> simp [State.withdrawn, hg]

/-- A transport that holds no grant gives back its request at most, and no one is served (R127). -/
theorem giveUpGrant_of_not_held {s : State} {t : TransportId} (hg : (s.tr t).engine.grant ≠ .held) :
    giveUpGrant t s = Reaction.idle (s.withdrawn t) := by
  cases h : (s.tr t).engine.grant with
  | none => simp [giveUpGrant, h, State.withdrawn]
  | held => exact absurd h hg
  | requested =>
    simp only [giveUpGrant, h, State.withdrawn, if_true, Arbiter.leave, State.setGrant, State.tr_arbiter]
    congr
    funext e
    by_cases he : e.transport = t <;> simp [he]

/-- A transport without a request gives up its grant, if it holds one; the list is then served (R126). -/
theorem giveUpGrant_of_not_requested {s : State} {t : TransportId} (hg : (s.tr t).engine.grant ≠ .requested) :
    giveUpGrant t s =
      { state := s.letGo t, now := if (s.tr t).engine.grant = .held then [.serve] else [] } := by
  cases h : (s.tr t).engine.grant with
  | none => simp [giveUpGrant, h, State.letGo, Reaction.idle]
  | held =>
    simp only [giveUpGrant, h, State.letGo, if_true]
    rfl
  | requested => exact absurd h hg

@[simp] theorem tr_letGo (s : State) (t : TransportId) : (s.letGo t).tr t = { s.tr t with
    engine := { (s.tr t).engine with grant := if (s.tr t).engine.grant = .held then .none else (s.tr t).engine.grant } } := by
  by_cases hg : (s.tr t).engine.grant = .held <;> simp [State.letGo, hg, State.released]

theorem setTr_letGo (s : State) (t : TransportId) (x : Transport) :
    (s.letGo t).setTr t x = { s.setTr t x with
      arbiter := if (s.tr t).engine.grant = .held then
          { s.arbiter with holders := s.arbiter.holders.set t false }
        else s.arbiter } := by
  by_cases hg : (s.tr t).engine.grant = .held <;> simp [State.letGo, hg, State.released, State.setTr]

theorem freeToLetGo_setTr {s : State} {t : TransportId} {x : Transport} (hf : s.FreeToLetGo t)
    (hx : x.engine.grant = (s.tr t).engine.grant) : (s.setTr t x).FreeToLetGo t where
  noRequest := by simpa [hx] using hf.noRequest
  noneWaits := by simpa [hx] using hf.noneWaits

theorem freeToLetGo_sending {s : State} {t : TransportId} (hf : s.FreeToLetGo t) (f : PortId → List OutFrame) :
    (sending f s).FreeToLetGo t := ⟨hf.noRequest, hf.noneWaits⟩

theorem freeToLetGo_counted {s : State} {t : TransportId} (hf : s.FreeToLetGo t) (p : PortId) :
    (s.counted p).FreeToLetGo t := ⟨hf.noRequest, hf.noneWaits⟩

@[simp] theorem letGo_waiting (s : State) (t : TransportId) : (s.letGo t).arbiter.waiting = s.arbiter.waiting := by
  by_cases hg : (s.tr t).engine.grant = .held <;> simp [State.letGo, hg, State.released]

@[simp] theorem tr_withdrawn (s : State) (t : TransportId) : (s.withdrawn t).tr t = { s.tr t with
    engine := { (s.tr t).engine with
      grant := if (s.tr t).engine.grant = .requested then .none else (s.tr t).engine.grant } } := by
  by_cases hg : (s.tr t).engine.grant = .requested <;> simp [State.withdrawn, hg]

theorem setTr_orderGone (s : State) (t : TransportId) (x : Transport) :
    (s.orderGone t).setTr t x = { s.setTr t x with
      monitor := if s.monitor.transport = t ∧ s.monitor.measure = .startLatency then { s.monitor with running := none }
        else s.monitor } := by
  simp only [State.orderGone, State.setTr, Quad.set_set]

theorem setTr_withdrawn (s : State) (t : TransportId) (x : Transport) :
    (s.withdrawn t).setTr t x = { s.setTr t x with
      arbiter := if (s.tr t).engine.grant = .requested then
          { s.arbiter with waiting := s.arbiter.waiting.filter (fun e => e.transport ≠ t) }
        else s.arbiter } := by
  by_cases hg : (s.tr t).engine.grant = .requested <;> simp [State.withdrawn, hg, State.setTr]

@[simp] theorem withdrawn_monitor (s : State) (t : TransportId) : (s.withdrawn t).monitor = s.monitor := by
  by_cases hg : (s.tr t).engine.grant = .requested <;> simp [State.withdrawn, hg]

@[simp] theorem withdrawn_owners (s : State) (t : TransportId) : (s.withdrawn t).owners = s.owners := by
  by_cases hg : (s.tr t).engine.grant = .requested <;> simp [State.withdrawn, hg]

@[simp] theorem withdrawn_tables (s : State) (t : TransportId) : (s.withdrawn t).tables = s.tables := by
  by_cases hg : (s.tr t).engine.grant = .requested <;> simp [State.withdrawn, hg]

@[simp] theorem withdrawn_vacuum (s : State) (t : TransportId) : (s.withdrawn t).vacuum = s.vacuum := by
  by_cases hg : (s.tr t).engine.grant = .requested <;> simp [State.withdrawn, hg]

theorem port_withdrawn (s : State) (t : TransportId) (q : PortId) : (s.withdrawn t).port q = s.port q := by
  rw [State.port, withdrawn_ports, State.port]

section
variable (s : State) (t : TransportId) (q : PortId) (m : Motion) (c : Byte) (k : Option FaultCause)

@[simp] theorem endingOf_withdrawn : (s.withdrawn t).endingOf t q m c k = s.endingOf t q m c k :=
  endingOf_congr s (s.withdrawn t) (by rw [tr_withdrawn]; rfl) (fun q => by rw [port_withdrawn]) q m c k

@[simp] theorem flushed_withdrawn : (s.withdrawn t).flushed t q c k = s.flushed t q c k :=
  flushed_congr s (s.withdrawn t) (by rw [tr_withdrawn]; rfl) (by rw [tr_withdrawn]) (fun q => by rw [port_withdrawn])
    q c k

@[simp] theorem loadEnding_withdrawn : (s.withdrawn t).loadEnding t q c k = s.loadEnding t q c k :=
  loadEnding_congr s (s.withdrawn t) (by rw [tr_withdrawn]; rfl) (by rw [tr_withdrawn])
    (fun q => by rw [port_withdrawn]) q c k

@[simp] theorem flushed_orderGone : (s.orderGone t).flushed t q c k = s.flushed t q c k :=
  flushed_congr s (s.orderGone t) (by rw [tr_orderGone]; rfl) (by rw [tr_orderGone]) (fun _ => rfl) q c k

end

/-! ### How the hand-offs behind an ending run -/

/-- An event that has come to its end has it with more hand-offs allowed, too. -/
theorem runTasks_succ_of_next {n : Nat} {l : List Task} {s u : State} (h : runTasks n l s = .next u) :
    runTasks (n + 1) l s = .next u := by
  induction n generalizing l s with
  | zero =>
    cases l with
    | nil => simpa using h
    | cons k l => cases h
  | succ n ih =>
    cases l with
    | nil => simpa using h
    | cons k l => exact ih h

/-- With an empty queue the take test takes nothing (R25). -/
theorem runTasks_takeTest_empty {s : State} {t : TransportId} (hq : (s.tr t).queue = []) (n : Nat) (l : List Task) :
    runTasks (n + 1) (.takeTest t :: l) s = runTasks n l s := by
  simp [handle, takeTest, hq, Reaction.idle]

theorem runTasks_answer (h : Head) (s : State) (n : Nat) (l : List Task) :
    runTasks (n + 1) (.answer h .done [] :: l) s = runTasks n l (sending (doneTo h) s) := by
  simp [handle, Reaction.idle, respond_done_eq]

theorem runTasks_vacuumReview (s : State) (n : Nat) (l : List Task) :
    runTasks (n + 1) (.vacuumReview :: l) s = runTasks n l (reviewVacuum s) := by
  simp [handle, Reaction.idle, vacuumReview]

/-- With no one waiting the arbiter grants nothing (R123). -/
theorem runTasks_serve_none {s : State} (hw : s.arbiter.waiting = []) (n : Nat) (l : List Task) :
    runTasks (n + 1) (.serve :: l) s = runTasks n l s := by
  simp [handle, serveList, hw, Reaction.idle]

/-- A deceleration that gives back a grant no one waits for, and what stands behind it in the event. -/
theorem runTasks_beginDecel {t : TransportId} {s u : State} {ph : Phase} (hf : s.FreeToLetGo t) {n : Nat} {l : List Task}
    (h : runTasks n l ((s.setPhase t ph).letGo t) = .next u) :
    runTasks (n + 1) ((beginDecel t ph s).now ++ l ++ (beginDecel t ph s).later) (beginDecel t ph s).state = .next u := by
  have hf' : (s.setPhase t ph).FreeToLetGo t := freeToLetGo_setTr hf rfl
  rw [beginDecel, giveUpGrant_of_not_requested hf'.noRequest]
  by_cases hg : ((s.setPhase t ph).tr t).engine.grant = .held
  · have hw : ((s.setPhase t ph).letGo t).arbiter.waiting = [] := (letGo_waiting ..).trans (hf'.noneWaits hg)
    simp only [hg, if_true, List.append_nil]
    rw [List.singleton_append, runTasks_serve_none hw, h]
  · simp only [hg, if_false, List.append_nil, List.nil_append]
    exact runTasks_succ_of_next h

theorem completeRelease_eq (t : TransportId) (s : State) : completeRelease t s = s.relieved t := by
  cases hr : (s.tr t).release with
  | none => simp [completeRelease, State.relieved, hr]
  | some r =>
    simp only [completeRelease, State.relieved, hr, answerRelease, place_eq, sending_eq_setPort]
    rfl

/-- At an idle transport the idle report lets a pending release take effect (R40, R168). -/
theorem runTasks_idleReport {s : State} {t : TransportId} (hi : (s.tr t).idle = true) (n : Nat) (l : List Task) :
    runTasks (n + 1) (.idleReport t :: l) s = runTasks n l (s.relieved t) := by
  simp [handle, idleReport, hi, Reaction.idle, completeRelease_eq]

end Sys2Proof.OrderQueue
end

section
/-! SUPPORT. SELECT PROFILE and STOP at a transport (R28, R33, R102), and their statements. -/

namespace Sys2Proof.OrderQueue

open Sys2Proof Sys2Proof.Machine

/-! ### SELECT PROFILE -/

/-- Settles O33: the checks of SELECT PROFILE in the order FAULTED, missing number, bad number (R28). -/
theorem selectProfileSetsTheSelection : Obligations.SelectProfileSetsTheSelection := by
  intro h t body s ht hm
  have hu := up_of_ready ht.ready
  rw [exec_selectProfile ht hm]
  refine ⟨?_, ?_, ?_⟩
  · rintro x rest rfl hf
    constructor
    · intro hx
      simp only [serveSelect, profileNumber, tr_counted, beq_iff_eq, hf, if_false, hx, dif_pos, done, selectProfile,
        reserveFor_eq (maySend_counted hm.toMaySend)]
      rw [respond_done_eq]
      exact congrArg _ (sending_done_counted (s := (s.setTr t _).setOwner t _) hu)
    · intro hx
      simp only [serveSelect, profileNumber, tr_counted, beq_iff_eq, hf, if_false, show ¬ x.toNat < 16 by omega, dif_neg,
        not_false_eq_true]
      exact refused_counted hu .badField
  · rintro rfl hf
    simp only [serveSelect, tr_counted, beq_iff_eq, hf, if_false]
    exact refused_counted hu .badField
  · intro hf
    simp only [serveSelect, tr_counted, hf, beq_self_eq_true, if_true]
    exact refused_counted hu .faulted

/-! ### STOP -/

/-- An immediate order that changes no more than what stands beside the ports is answered DONE. -/
theorem answerDone_idle_counted {h : Head} {s : State} (hu : (s.port h.port).up = true) :
    answerDone h (Reaction.idle (s.counted h.port)) = .next (s.answered h 0 []) := by
  rw [answerDone_idle, respond_done_eq, sending_done_counted hu]

/-- A deceleration that gives back a grant no one waits for, and the DONE behind it. -/
theorem answerDone_beginDecel {h : Head} {t : TransportId} {s : State} {ph : Phase} (hf : s.FreeToLetGo t) :
    answerDone h (beginDecel t ph s) = .next (sending (doneTo h) ((s.setPhase t ph).letGo t)) := by
  have hr := runTasks_beginDecel (ph := ph) hf (runTasks_answer h _ 4094 [])
  simpa [answerDone, finish, Reaction.andThen, agendaBound] using hr

/-- The same at a frame's arrival, with the transport changed beforehand to `x`. -/
theorem answerDone_beginDecel_counted {h : Head} {t : TransportId} {s : State} {x : Transport} (ph : Phase)
    (hu : (s.port h.port).up = true) (hf : s.FreeToLetGo t) (hx : x.engine.grant = (s.tr t).engine.grant) :
    answerDone h (beginDecel t ph ((s.counted h.port).setTr t x)) =
      .next (((s.setTr t { x with phase := ph }).letGo t).answered h 0 []) := by
  rw [answerDone_beginDecel (freeToLetGo_setTr (freeToLetGo_counted hf h.port) hx), setTr_counted, setPhase_counted,
    letGo_counted, sending_done_counted (by rw [State.port, letGo_ports]; exact hu)]
  simp [State.setPhase]

theorem setEndReason_motion {s : State} {t : TransportId} {m : Motion} (hm : (s.tr t).motion = some m) (r : EndReason) :
    setEndReason t r s = s.setTr t { s.tr t with motion := some { m with endReason := some (m.endReason.getD r) } } := by
  have : m.endWith r = { m with endReason := some (m.endReason.getD r) } := by
    cases he : m.endReason <;> simp [Motion.endWith, he]
  simp [setEndReason, Transport.current, hm, Transport.setCurrent, this]

/-- STOP in HELD ends the saved order and leaves an empty context (R102). -/
theorem stopHeld_saved {s : State} {t : TransportId} {m : Motion} (hs : (s.tr t).hold.slot1 = .saved m) :
    stopHeld t s = Reaction.idle (sending (fun q => s.endingOf t q m 1 none) ((s.orderGone t).setTr t
      { (s.orderGone t).tr t with hold := { (s.tr t).hold with slot1 := .emptyContext } })) := by
  simp only [stopHeld, hs, finishOrder_eq, State.setHold, tr_sending, tr_orderGone]
  rfl

/-- Settles O28: STOP by condition and phase (R33, R102). -/
theorem stopDeceleratesAMotion : Obligations.StopDeceleratesAMotion := by
  intro h t s ht hm
  have hu := up_of_ready ht.ready
  have hidle := answerDone_idle_counted hu
  rw [exec_stop ht hm]
  refine ⟨?moving, ?saved, ?unsaved, ?nothing, ?halt⟩
  case moving =>
    intro m hc hmo
    have hend := setEndReason_motion (s := s.counted h.port) hmo .stop
    constructor
    · intro hp hf
      have he : stopEffect t (s.counted h.port) = beginDecel t .decel (setEndReason t .stop (s.counted h.port)) := by
        obtain hp | hp := hp <;> simp [stopEffect, hc, hp]
      rw [he, hend]
      exact answerDone_beginDecel_counted .decel hu hf rfl
    · intro hp
      have he : stopEffect t (s.counted h.port) = Reaction.idle (setEndReason t .stop (s.counted h.port)) := by
        simp [stopEffect, hc, hp]
      rw [he, hend]
      exact answerDone_idle_counted (s := s.setTr t _) hu
  case saved =>
    intro m hc hp hs hmo
    have he : stopEffect t (s.counted h.port) = stopHeld t (s.counted h.port) := by simp [stopEffect, hc, hp]
    rw [he, stopHeld_saved (s := s.counted h.port) hs, answerDone_idle, respond_done_eq, sending_sending]
    refine ⟨_, rfl, rfl, fun q => ?_⟩
    rw [port_sending, endingOf_counted]
    rfl
  case unsaved =>
    intro hc hp hs
    refine Eq.trans (congrArg _ ?_) hidle
    cases h1 : (s.tr t).hold.slot1 with
    | saved m => exact absurd h1 (hs m)
    | free => simp [stopEffect, hc, hp, stopHeld, h1]
    | emptyContext => simp [stopEffect, hc, hp, stopHeld, h1]
  case nothing =>
    intro hc
    refine Eq.trans (congrArg _ ?_) hidle
    cases hcond : (s.tr t).condition with
    | loaded => obtain hc | hc | hc := hc <;> simp_all [stopEffect]
    | _ => simp [stopEffect, hcond]
  case halt =>
    intro hc
    rw [exec_halt ht hm]
    refine Eq.trans (congrArg _ ?_) hidle
    obtain hc | hc := hc <;> simp [haltEffect, hc]

/-! ### STOP in a waiting phase -/

/-- A LOADED transport that stands STOPPED with an empty queue is idle (R167). -/
theorem idle_of_stopped {tr : Transport} (hc : tr.condition = .loaded) (hp : tr.phase = .stopped) (hq : tr.queue = []) :
    tr.idle = true := by simp [Transport.idle, hc, hp, hq]

/-- An ending with nothing left in the queue, and the DONE of the immediate order behind it (log 15). -/
theorem answerDone_afterEnding {h : Head} {t : TransportId} {s : State} (hc : (s.tr t).condition = .loaded)
    (hp : (s.tr t).phase = .stopped) (hq : (s.tr t).queue = []) :
    answerDone h (afterEnding t s) = .next (reviewVacuum ((sending (doneTo h) s).relieved t)) := by
  simp only [answerDone, finish, Reaction.andThen, afterEnding, agendaBound, List.append_nil, List.cons_append,
    List.nil_append]
  rw [runTasks_takeTest_empty hq, runTasks_answer, 
    runTasks_idleReport (s := sending (doneTo h) s) (idle_of_stopped hc hp hq), runTasks_vacuumReview, runTasks_nil]

theorem stopStatus_code (m : Motion) : m.stopStatus.code = if m.kind = .move ∧ m.r.getD 0 ≤ 0 then 0 else 1 := by
  by_cases hk : m.kind = .move
  · cases hr : m.r with
    | none => simp [Motion.stopStatus, hk, hr, Status.code]
    | some r => by_cases h0 : 0 < r <;> simp [Motion.stopStatus, hk, hr, h0, Status.code]
  · simp [Motion.stopStatus, hk, Status.code]

/-- The port of a taken frame after some frames and a DONE: an UP port gets the frames, the head's port the DONE. -/
theorem sent_done_counted {s : State} {h : Head} (hu : (s.port h.port).up = true) (q : PortId) (f : List OutFrame) :
    ((s.counted h.port).port q).sent (f ++ doneTo h q) = { (s.counted h.port).port q with
      tx := (s.port q).tx ++ (if (s.port q).up = true then f else []) ++ doneTo h q } := by
  by_cases hq : (s.port q).up = true
  · simp [Port.sent, up_counted, tx_counted, hq]
  · have hne : q ≠ h.port := fun e => hq (e ▸ hu)
    simp [Port.sent, up_counted, tx_counted, hq, doneTo, hne]

/-- Settles O29: the order ends, its response goes out, and the idle transport lets go of a pending release (R30, R33). -/
theorem stopEndsAWaitingOrder : Obligations.StopEndsAWaitingOrder := by
  intro h t m p s ht hm hc hmo hor hq hw
  have hu := up_of_ready ht.ready
  have hg : (s.tr t).engine.grant ≠ .held := by obtain ⟨-, hg⟩ | ⟨-, hg⟩ := hw <;> simp [hg]
  have he : stopEffect t (s.counted h.port) =
      afterEnding t (sending (fun q => s.endingOf t q m m.stopStatus.code none)
        ((((s.withdrawn t).orderGone t).setPhase t .stopped).counted h.port)) := by
    have : stopEffect t (s.counted h.port) = stopWaiting t (s.counted h.port) := by
      obtain ⟨hp, -⟩ | ⟨hp, -⟩ := hw <;> simp [stopEffect, hc, hp]
    rw [this]
    simp only [stopWaiting, tr_counted, hmo, giveUpGrant_of_not_held (s := s.counted h.port) hg, Reaction.idle, endOrder_eq,
      withdrawn_counted, orderGone_counted, setPhase_counted, endingOf_counted, endingOf_withdrawn]
  rw [exec_stop ht hm, he, answerDone_afterEnding (by simp [State.setPhase, hc]) (by simp [State.setPhase])
    (by simp [State.setPhase, hq]), sending_sending]
  refine ⟨_, rfl, ?state, fun q => ?port⟩
  case state =>
    simp only [State.setPhase, tr_orderGone, tr_withdrawn, setTr_orderGone, setTr_withdrawn, withdrawn_monitor]
    obtain ⟨hp, hg⟩ | ⟨hp, hg⟩ := hw <;> simp only [hp, hg, reduceCtorEq, if_true, if_false] <;> rfl
  case port =>
    rw [port_sending, port_counted_congr (s := s) (by simp [State.setPhase])]
    refine (sent_done_counted hu q _).trans ?_
    by_cases hqp : q = p
    · simp [hqp, State.endingOf, hor, stopStatus_code, doneTo]
    · simp [hqp, Ne.symm hqp, State.endingOf, hor, doneTo]

end Sys2Proof.OrderQueue
end

section
/-! SUPPORT. HALT at a transport (R34, R103, R150, R155), and its statement. -/

namespace Sys2Proof.OrderQueue

open Sys2Proof Sys2Proof.Machine

/-! ### HALT -/

theorem setHaltReason_motion {s : State} {t : TransportId} {m : Motion} (hm : (s.tr t).motion = some m) :
    setHaltReason t s = s.setTr t { s.tr t with motion := some { m with endReason := some .halt } } := by
  simp [setHaltReason, Transport.current, hm, Transport.setCurrent]

@[simp] theorem haltedInMotion_counted (s : State) (t : TransportId) (m : Motion) (x : List OrderRecord) (p : PortId) :
    (s.counted p).haltedInMotion t m x = (s.haltedInMotion t m x).counted p :=
  letGo_counted (s.setTr t _) t p

@[simp] theorem haltedInMotion_ports (s : State) (t : TransportId) (m : Motion) (x : List OrderRecord) :
    (s.haltedInMotion t m x).ports = s.ports := letGo_ports ..

@[simp] theorem haltedAtOnce_counted (s : State) (t : TransportId) (p : PortId) :
    (s.counted p).haltedAtOnce t = (s.haltedAtOnce t).counted p := by
  cases hc : (s.tr t).current.isSome <;> simp [State.haltedAtOnce, hc]

@[simp] theorem haltedAtOnce_ports (s : State) (t : TransportId) : (s.haltedAtOnce t).ports = s.ports := by
  cases hc : (s.tr t).current.isSome <;> simp [State.haltedAtOnce, hc]

/-- A flush and the clearing of the holds in one (R34, R37, R103). -/
theorem clearHolds_flush (t : TransportId) (s : State) :
    clearHolds t (flush t .aborted none s) = sending (fun q => s.flushed t q 0x10 none)
      (s.setTr t { s.tr t with queue := [], hold := idleHold, paused := false }) := by
  simp only [clearHolds, flush_eq, tr_sending, setTr_sending, State.tr_setTr_self, State.setTr_setTr]
  rfl

/-- HALT in motion: the queue is answered, and the order decelerates to end by it (R34). -/
theorem answerDone_haltLoaded_moving {h : Head} {t : TransportId} {s : State} {m : Motion}
    (hm : (s.tr t).motion = some m) (hp : (s.tr t).phase.moving = true) (hf : s.FreeToLetGo t) :
    answerDone h (haltLoaded t s) =
      .next (sending (fun q => s.flushed t q 0x10 none ++ doneTo h q) (s.haltedInMotion t m [])) := by
  rw [haltLoaded, if_pos hp, setHaltReason_motion hm, clearHolds_flush, answerDone_beginDecel]
  · simp only [setPhase_sending, letGo_sending, sending_sending, State.tr_setTr_self, State.setTr_setTr,
      setPhase_setTr]
    simp only [flushed_setTr]
    rfl
  · simp only [State.tr_setTr_self, State.setTr_setTr]
    exact freeToLetGo_sending (freeToLetGo_setTr hf (by rfl)) _

/-- A current order that is not in motion ends ABORTED (R34). -/
theorem haltOrder_eq {t : TransportId} {s : State} (hg : (s.tr t).engine.grant ≠ .held) :
    haltOrder t s = match (s.tr t).current with
      | some m => sending (fun q => s.endingOf t q m 0x10 none) ((s.withdrawn t).orderGone t)
      | none => s.withdrawn t := by
  have hc : ((s.withdrawn t).tr t).current = (s.tr t).current := by rw [tr_withdrawn]; rfl
  simp only [haltOrder, giveUpGrant_of_not_held hg, Reaction.idle, hc]
  cases (s.tr t).current with
  | none => rfl
  | some m => simp only [finishOrder_eq, endingOf_withdrawn]; rfl

/-- HALT at a LOADED transport with an order that is not in motion: the order ends, then the queue (R34). -/
theorem haltLoaded_waiting {t : TransportId} {s : State} {m : Motion} (hp : (s.tr t).phase.moving = false)
    (hg : (s.tr t).engine.grant ≠ .held) (hm : (s.tr t).current = some m) :
    haltLoaded t s = afterEnding t
      (sending (fun q => s.endingOf t q m 0x10 none ++ s.flushed t q 0x10 none) (s.haltedAtOnce t)) := by
  rw [haltLoaded, if_neg (by simp [hp]), haltOrder_eq hg, hm]
  simp only [clearHolds_flush, sending_sending, setPhase_sending, tr_sending, setTr_sending]
  simp only [flushed_sending, flushed_orderGone, flushed_withdrawn, setPhase_setTr, State.haltedAtOnce, hm,
    Option.isSome_some, if_true]

/-- HALT at a LOADED transport without an order ends the queue (R34). -/
theorem haltLoaded_empty {t : TransportId} {s : State} (hp : (s.tr t).phase.moving = false)
    (hg : (s.tr t).engine.grant = .none) (hm : (s.tr t).current = none) :
    haltLoaded t s = afterEnding t (sending (fun q => s.flushed t q 0x10 none) (s.haltedAtOnce t)) := by
  rw [haltLoaded, if_neg (by simp [hp]), haltOrder_eq (by simp [hg]), hm]
  simp only [clearHolds_flush, setPhase_sending]
  simp [State.withdrawn, hg, State.setPhase, State.haltedAtOnce, hm]

theorem haltedAtOnce_condition (s : State) (t : TransportId) :
    ((s.haltedAtOnce t).tr t).condition = (s.tr t).condition := by
  cases hc : (s.tr t).current.isSome <;> simp [State.haltedAtOnce, hc]

theorem haltedAtOnce_phase (s : State) (t : TransportId) : ((s.haltedAtOnce t).tr t).phase = .stopped := by
  simp [State.haltedAtOnce]

theorem haltedAtOnce_queue (s : State) (t : TransportId) : ((s.haltedAtOnce t).tr t).queue = [] := by
  simp [State.haltedAtOnce]

/-- A LOADED transport halted at once: these frames, the DONE, and then what an idle transport does (R34, R40). -/
theorem answerDone_haltedAtOnce {h : Head} {t : TransportId} {s : State} (hc : (s.tr t).condition = .loaded)
    (f : PortId → List OutFrame) :
    answerDone h (afterEnding t (sending f (s.haltedAtOnce t))) =
      .next (reviewVacuum ((sending (fun q => f q ++ doneTo h q) (s.haltedAtOnce t)).relieved t)) := by
  rw [answerDone_afterEnding (s := sending f (s.haltedAtOnce t)) ((haltedAtOnce_condition s t).trans hc)
    (haltedAtOnce_phase s t) (haltedAtOnce_queue s t), sending_sending]

/-- An entry to UNLOADED at the end of an event, and the DONE of the immediate order before the idle report (R149). -/
theorem answerDone_unloaded {h : Head} {t : TransportId} {s : State} (hc : (s.tr t).condition = .unloaded) :
    answerDone h { state := s, later := [.idleReport t, .vacuumReview] } =
      .next (reviewVacuum ((sending (doneTo h) s).relieved t)) := by
  simp only [answerDone, finish, Reaction.andThen, agendaBound, List.append_nil, List.cons_append, List.nil_append]
  rw [runTasks_answer, runTasks_idleReport (s := sending (doneTo h) s) (by simp [Transport.idle, hc]),
    runTasks_vacuumReview, runTasks_nil]

/-- What an entry to UNLOADED leaves, from a transport `x` that agrees with `tr` in what is kept. -/
theorem entersUnloaded_unloaded {tr x : Transport} (hs : x.servo = tr.servo)
    (hk : x.lines = tr.lines ∧ x.selected = tr.selected ∧ x.release = tr.release ∧ x.snapshot = tr.snapshot ∧
      x.counters = tr.counters) : tr.EntersUnloaded x.unloaded where
  condition := rfl
  still := ⟨rfl, rfl, rfl, rfl⟩
  demands := ⟨rfl, rfl⟩
  radii := by simp [Transport.unloaded, ReelServo.stopped, hs]
  loopGuard := rfl
  load := rfl
  hold := rfl
  position := ⟨rfl, rfl⟩
  kept := hk

/-- A state whose transport `t` enters UNLOADED, with a request withdrawn and all else as it was. -/
theorem unloads_setTr {s b : State} {t : TransportId} {x : Transport} (hx : (s.tr t).EntersUnloaded x.unloaded)
    (hm : x.motion = none) (hb : ∀ u, u ≠ t → b.tr u = s.tr u) (ho : b.owners = s.owners) (ht : b.tables = s.tables)
    (hv : b.vacuum = s.vacuum) (ha : b.arbiter = (s.withdrawn t).arbiter) : s.Unloads (b.setTr t x.unloaded) t where
  enters := by rwa [State.tr_setTr_self]
  motion := by rwa [State.tr_setTr_self]
  others := fun u hu => (State.tr_setTr_ne _ _ hu).trans (hb u hu)
  owners := ho
  tables := ht
  vacuum := hv
  arbiter := ha

theorem unloads_sending {s w : State} {t : TransportId} (h : s.Unloads w t) (f : PortId → List OutFrame) :
    s.Unloads (sending f w) t := ⟨h.enters, h.motion, h.others, h.owners, h.tables, h.vacuum, h.arbiter⟩

theorem unloads_of_counted {s w : State} {t : TransportId} {p : PortId} (h : (s.counted p).Unloads w t) : s.Unloads w t :=
  ⟨h.enters, h.motion, h.others, h.owners, h.tables, h.vacuum, by rw [h.arbiter, withdrawn_counted]; rfl⟩

theorem tr_withdrawn_ne {s : State} {t u : TransportId} (hu : u ≠ t) : (s.withdrawn t).tr u = s.tr u := by
  by_cases hg : (s.tr t).engine.grant = .requested <;> simp [State.withdrawn, hg, State.tr_setTr_ne _ _ hu]

theorem withdrawn_arbiter_of_not_requested {s : State} {t : TransportId} (hg : (s.tr t).engine.grant ≠ .requested) :
    (s.withdrawn t).arbiter = s.arbiter := by simp [State.withdrawn, hg]

/-- A LOAD that ends UNLOADED: its response, and the entry (R149, R150). -/
theorem endLoadUnloaded_eq (t : TransportId) (st : Status) (s : State) :
    endLoadUnloaded t st none s =
      { state := sending (fun q => s.loadEnding t q st.code none) (s.setTr t (s.tr t).emptyMotion.unloaded)
        later := [.idleReport t, .vacuumReview] } := by
  simp only [endLoadUnloaded, placeLoadEnding_eq, enterUnloaded, tr_sending, setTr_sending, State.tr_setTr_self,
    State.setTr_setTr]

/-- HALT at a LOADING transport whose search is not in motion ends the LOAD at once (R150). -/
theorem haltLoading_ends {s : State} {t : TransportId} (hg : (s.tr t).engine.grant ≠ .held)
    (hp : ¬ ((s.tr t).searching = true ∧ (s.tr t).phase.moving = true)) :
    haltLoading t s =
      { state := sending (fun q => s.loadEnding t q 0x10 none)
          ((s.withdrawn t).setTr t ((s.withdrawn t).tr t).emptyMotion.unloaded)
        later := [.idleReport t, .vacuumReview] } := by
  have he : haltLoading t s = endLoadUnloaded t .aborted none (clearHolds t (giveUpGrant t s).state) := by
    simp [haltLoading, hp]
  have hl : ∀ q, (clearHolds t (s.withdrawn t)).loadEnding t q 0x10 none = s.loadEnding t q 0x10 none := fun q =>
    (loadEnding_setTr (s.withdrawn t) t q _ _ (by rfl) (by rfl)).trans (loadEnding_withdrawn ..)
  rw [he, giveUpGrant_of_not_held hg, endLoadUnloaded_eq]
  simp only [Reaction.idle, Status.code, hl]
  simp only [clearHolds, State.tr_setTr_self, State.setTr_setTr]
  rfl

/-- HALT of an UNLOAD in WIND: the UNLOAD ends, then the queue, and the transport enters UNLOADED (R155). -/
theorem completeUnload_eq {s : State} {t : TransportId} {m : Motion} (hm : (s.tr t).motion = some m) :
    completeUnload t .aborted .aborted s =
      { state := sending (fun q => s.endingOf t q m 0x10 none ++ s.flushed t q 0x10 none)
          ((s.orderGone t).setTr t ({ (s.orderGone t).tr t with queue := [] } : Transport).unloaded)
        later := [.idleReport t, .vacuumReview] } := by
  have hc : (s.tr t).current = some m := by simp [Transport.current, hm]
  simp only [completeUnload, endUnload, hc, finishOrder_eq, flush_eq, enterUnloaded, flushed_sending, flushed_orderGone,
    setTr_sending, sending_sending, tr_sending, State.tr_setTr_self, State.setTr_setTr]
  rfl

/-- Settles O30: HALT by condition and phase (R34, R103, R150, R155). -/
theorem haltStopsAMotionAndFlushesTheQueue : Obligations.HaltStopsAMotionAndFlushesTheQueue := by
  intro h t s ht hm
  have hu := up_of_ready ht.ready
  have hloaded : (s.tr t).condition = .loaded → haltEffect t (s.counted h.port) = haltLoaded t (s.counted h.port) :=
    fun hc => by simp [haltEffect, hc]
  have hloading : (s.tr t).condition = .loading → haltEffect t (s.counted h.port) = haltLoading t (s.counted h.port) :=
    fun hc => by simp [haltEffect, hc]
  have moving_of : ((s.tr t).phase = .accel ∨ (s.tr t).phase = .cruise ∨ (s.tr t).phase = .decel ∨
      (s.tr t).phase = .holdDecel) → (s.tr t).phase.moving = true := by
    rintro (hp | hp | hp | hp) <;> simp [hp, Phase.moving]
  rw [exec_halt ht hm]
  refine ⟨?moving, ?waiting, ?still, ?search, ?load, ?wind⟩
  case moving =>
    intro m hc hmo hf hp
    refine ⟨_, (congrArg _ (hloaded hc)).trans (answerDone_haltLoaded_moving (s := s.counted h.port) hmo (moving_of hp)
      (freeToLetGo_counted hf _)), ?_, fun q => ?_⟩
    · simp only [haltedInMotion_counted]; rfl
    · rw [port_sending, flushed_counted, haltedInMotion_counted, port_counted_congr (haltedInMotion_ports ..)]; rfl
  case waiting =>
    intro m hc hmo hg hp
    have hp' : (s.tr t).phase.moving = false := by obtain hp | hp | hp := hp <;> simp [hp, Phase.moving]
    rw [hloaded hc, haltLoaded_waiting (s := s.counted h.port) hp' hg hmo,
      answerDone_haltedAtOnce (s := s.counted h.port) hc]
    refine ⟨_, rfl, ?_, fun q => ?_⟩
    · simp only [haltedAtOnce_counted]; rfl
    · rw [port_sending, flushed_counted, endingOf_counted, haltedAtOnce_counted,
        port_counted_congr (haltedAtOnce_ports ..)]; rfl
  case still =>
    intro hc hmo hg hp
    have hp' : (s.tr t).phase.moving = false := by obtain hp | hp := hp <;> simp [hp, Phase.moving]
    rw [hloaded hc, haltLoaded_empty (s := s.counted h.port) hp' hg hmo,
      answerDone_haltedAtOnce (s := s.counted h.port) hc]
    refine ⟨_, rfl, ?_, fun q => ?_⟩
    · simp only [haltedAtOnce_counted]; rfl
    · rw [port_sending, flushed_counted, haltedAtOnce_counted, port_counted_congr (haltedAtOnce_ports ..)]; rfl
  case search =>
    intro m hc hs hmo hp
    have hsearch : (s.tr t).searching = true := by simp [Transport.searching, hc, hs]
    split
    · rename_i hh
      have hhalted : (s.tr t).searchHalted = true := by simp [Transport.searchHalted, hh, hmo]
      rw [hloading hc, haltLoading_halted (s := s.counted h.port) hsearch hhalted]
      exact answerDone_idle_counted hu
    · rename_i hh
      intro hf
      have hhalted : (s.tr t).searchHalted = false := by
        simpa [Transport.searchHalted, hmo] using hh
      have he : haltLoading t (s.counted h.port) =
          beginDecel t .decel (clearHolds t (setHaltReason t (s.counted h.port))) := by
        simp [haltLoading, hsearch, moving_of hp, hhalted]
      rw [hloading hc, he, setHaltReason_motion (s := s.counted h.port) hmo]
      simp only [clearHolds, State.tr_setTr_self, State.setTr_setTr]
      exact answerDone_beginDecel_counted .decel hu hf (by rfl)
  case load =>
    intro hc hg hp
    have hp' : ¬ ((s.tr t).searching = true ∧ (s.tr t).phase.moving = true) := by
      obtain hp | hp | hp | hp | hp := hp <;> simp [hp, Transport.searching, Phase.moving]
    rw [hloading hc, haltLoading_ends (s := s.counted h.port) hg hp',
      answerDone_unloaded (by rw [tr_sending, State.tr_setTr_self]; rfl), sending_sending]
    refine ⟨_, rfl, unloads_sending (unloads_of_counted (p := h.port) (unloads_setTr ?_ (by rfl)
      (fun u hu => tr_withdrawn_ne hu) (by simp) (by simp) (by simp) (by rfl))) _, ?_, fun q => ?_⟩
    · rw [tr_withdrawn]
      exact entersUnloaded_unloaded rfl ⟨rfl, rfl, rfl, rfl, rfl⟩
    · simp [Transport.emptyMotion, Transport.unloaded]
    · rw [port_sending, loadEnding_counted]
      simp only [withdrawn_counted, setTr_counted]
      rw [port_counted_congr (s := s) (by simp)]; rfl
  case wind =>
    intro m hc hmo hg
    have he : haltEffect t (s.counted h.port) = completeUnload t .aborted .aborted (s.counted h.port) := by
      simp [haltEffect, hc]
    rw [he, completeUnload_eq (s := s.counted h.port) hmo, answerDone_unloaded (by rw [tr_sending, State.tr_setTr_self]; rfl),
      sending_sending]
    refine ⟨_, rfl, unloads_sending (unloads_of_counted (p := h.port) (unloads_setTr ?_ ?_ (fun u hu => ?_)
      (by rfl) (by rfl) (by rfl) ?_)) _, ?_, fun q => ?_⟩
    · rw [tr_orderGone]
      exact entersUnloaded_unloaded rfl ⟨rfl, rfl, rfl, rfl, rfl⟩
    · rw [tr_orderGone]
    · exact State.tr_setTr_ne _ _ hu
    · exact (withdrawn_arbiter_of_not_requested (s := s.counted h.port) hg).symm
    · rw [tr_sending, State.tr_setTr_self]; rfl
    · rw [port_sending, endingOf_counted, flushed_counted, orderGone_counted, setTr_counted, port_counted_congr (s := s) rfl]
      rfl

end Sys2Proof.OrderQueue
end

section
/-! SUPPORT. PAUSE at a transport (R35, R91 to R97), and its statement. -/

namespace Sys2Proof.OrderQueue

open Sys2Proof Sys2Proof.Machine

/-! ### PAUSE -/

/-- PAUSE at a LOADED transport, past the checks (R35). -/
theorem servePause_loaded {h : Head} {t : TransportId} {s : State} (hm : s.MaySend h t)
    (hc : (s.tr t).condition = .loaded) :
    servePause h t (s.counted h.port) =
      answerDone h (pauseEffect t ((s.setOwner t (some h.port)).counted h.port)) := by
  simp [servePause, hc, Condition.pauseRefusal, reserveFor_eq (maySend_counted hm)]

/-- PAUSE in a phase that is not STOPPED goes to the Hold Controller (R35). -/
theorem answerDone_pauseEffect {h : Head} {t : TransportId} {s : State} (hp : (s.tr t).phase ≠ .stopped) :
    answerDone h (pauseEffect t s) = runTasks 4096 [.arrive t .pause, .answer h .done []] s := by
  simp [pauseEffect, hp, answerDone, finish, Reaction.andThen, agendaBound]

/-- An arriving PAUSE that hands nothing on, and the DONE behind it. -/
theorem answerDone_pauseEffect_idle {h : Head} {t : TransportId} {s w : State} (hp : (s.tr t).phase ≠ .stopped)
    (ha : arriveCause t .pause s = Reaction.idle w) :
    answerDone h (pauseEffect t s) = .next (sending (doneTo h) w) := by
  rw [answerDone_pauseEffect hp]
  simp [handle, ha, Reaction.idle, respond_done_eq]

theorem stands_pause (x : Hold) :
    x.stands .pause = true ↔ x.cause = some .pause ∨ x.inService.pause = true ∨ x.pending.pause = true := by
  simp [Hold.stands, RankSet.has, or_assoc]

/-- A PAUSE that stands already changes nothing (R85). -/
theorem arriveCause_pause_stands {t : TransportId} {s : State} (hs : (s.tr t).hold.stands .pause = true) :
    arriveCause t .pause s = Reaction.idle s := by simp [arriveCause, hs]

/-- A PAUSE that arrives in motion becomes the hold cause of a deceleration (R92). -/
theorem arriveCause_pause_moving {t : TransportId} {s : State} (hc : (s.tr t).condition = .loaded)
    (hp : (s.tr t).phase = .accel ∨ (s.tr t).phase = .cruise) (hs : (s.tr t).hold.stands .pause = false) :
    arriveCause t .pause s =
      beginDecel t .holdDecel (s.setTr t { s.tr t with hold := { (s.tr t).hold with cause := some .pause } }) := by
  obtain hp | hp := hp <;> simp [arriveCause, Transport.hasPhase, hc, hs, hp, State.setHold]

/-- A PAUSE that arrives in a waiting phase saves the order and enters service (R91, R87, R88). -/
theorem arriveCause_pause_waiting {t : TransportId} {s : State} (hc : (s.tr t).condition = .loaded)
    (hp : (s.tr t).phase = .waitVacuum ∨ (s.tr t).phase = .waitGrant) (hs : (s.tr t).hold.stands .pause = false)
    (hg : (s.tr t).engine.grant ≠ .held) :
    arriveCause t .pause s = { state := pushContext t (s.withdrawn t), now := [.enterService t .pause] } := by
  obtain hp | hp := hp <;>
    simp [arriveCause, Transport.hasPhase, hc, hs, hp, giveUpGrant_of_not_held hg, Reaction.idle]

/-- A PAUSE that arrives in a deceleration or a hold becomes pending: no cause is less urgent (R93, R94, R97). -/
theorem arriveCause_pause_pends {t : TransportId} {s : State} (hc : (s.tr t).condition = .loaded)
    (hp : (s.tr t).phase = .decel ∨ (s.tr t).phase = .holdDecel ∨ (s.tr t).phase = .held)
    (hs : (s.tr t).hold.stands .pause = false) : arriveCause t .pause s = addPending t .pause s := by
  have hr : ∀ a, Rank.pause.outranks a = false := by intro a; cases a <;> rfl
  obtain hp | hp | hp := hp <;> simp only [arriveCause, Transport.hasPhase, hc, hs, hp]
  · rfl
  · rfl
  · cases ha : (s.tr t).hold.active <;> simp [arriveHeld, ha, hr]

/-- PAUSE in motion, and its DONE (R92). -/
theorem answerDone_pauseEffect_moving {h : Head} {t : TransportId} {s : State} (hc : (s.tr t).condition = .loaded)
    (hp : (s.tr t).phase = .accel ∨ (s.tr t).phase = .cruise) (hs : (s.tr t).hold.stands .pause = false)
    (hf : s.FreeToLetGo t) :
    answerDone h (pauseEffect t s) = .next (sending (doneTo h) ((s.setTr t
      { s.tr t with phase := .holdDecel, hold := { (s.tr t).hold with cause := some .pause } }).letGo t)) := by
  have hp' : (s.tr t).phase ≠ .stopped := by obtain hp | hp := hp <;> simp [hp]
  rw [answerDone_pauseEffect hp', runTasks_succ]
  simp only [handle, arriveCause_pause_moving hc hp hs]
  rw [runTasks_beginDecel (freeToLetGo_setTr hf (by rfl)) ((runTasks_answer h _ 4093 []).trans (runTasks_nil ..)),
    setPhase_setTr]

/-- PAUSE in a waiting phase, and its DONE (R91). -/
theorem answerDone_pauseEffect_waiting {h : Head} {t : TransportId} {s : State} {m : Motion}
    (hc : (s.tr t).condition = .loaded) (hp : (s.tr t).phase = .waitVacuum ∨ (s.tr t).phase = .waitGrant)
    (hm : (s.tr t).motion = some m) (hs : (s.tr t).hold.stands .pause = false) (hg : (s.tr t).engine.grant ≠ .held) :
    answerDone h (pauseEffect t s) = .next (sending (doneTo h) ((s.withdrawn t).setTr t { (s.withdrawn t).tr t with
      phase := .held, motion := none, engine := { ((s.withdrawn t).tr t).engine with workTop := none }
      hold := { (s.tr t).hold with
        slot1 := .saved m, inService := { (s.tr t).hold.inService with pause := true }, active := some .pause
        settle := 0, timer := none } })) := by
  have hp' : (s.tr t).phase ≠ .stopped := by obtain hp | hp := hp <;> simp [hp]
  rw [answerDone_pauseEffect hp', runTasks_succ]
  simp only [handle, arriveCause_pause_waiting hc hp hs hg, List.append_nil, List.singleton_append]
  simp [handle, enterService, pushContext, Transport.emptyMotion, State.setHold, hm, respond_done_eq, Reaction.idle,
    RankSet.put]

/-- Settles O31: PAUSE by condition and phase (R35, R91 to R94, R97). -/
theorem pauseHoldsAMotion : Obligations.PauseHoldsAMotion := by
  intro h t s ht hm
  have hu := up_of_ready ht.ready
  have stands_eq : (s.tr t).hold.cause ≠ some .pause → (s.tr t).hold.inService.pause = false →
      (s.tr t).hold.pending.pause = false → (s.tr t).hold.stands .pause = false := fun h1 h2 h3 => by
    simp [← Bool.not_eq_true, stands_pause, h1, h2, h3]
  have mine : (s.tr t).condition = .loaded → servePause h t (s.counted h.port) =
      answerDone h (pauseEffect t ((s.setOwner t (some h.port)).counted h.port)) := servePause_loaded hm.toMaySend
  rw [exec_pause ht hm]
  refine ⟨?stopped, ?moving, ?waiting, ?pends, ?stands, ?unloaded, ?busy, ?faulted⟩
  case stopped =>
    intro hc hp
    have he : pauseEffect t ((s.setOwner t (some h.port)).counted h.port) =
        Reaction.idle (((s.setOwner t (some h.port)).setTr t { s.tr t with paused := true }).counted h.port) := by
      simp [pauseEffect, hp]
    rw [mine hc, he]
    exact answerDone_idle_counted (s := (s.setTr t _).setOwner t _) hu
  case moving =>
    intro hc hp hf h1 h2 h3
    rw [mine hc, answerDone_pauseEffect_moving (s := (s.setOwner t _).counted h.port) hc hp (stands_eq h1 h2 h3)
      ⟨hf.noRequest, hf.noneWaits⟩, setTr_counted, letGo_counted,
      sending_done_counted (by rw [State.port, letGo_ports]; exact hu)]
    exact congrArg (fun x : State => Host.Outcome.next (x.answered h 0 [])) (letGo_setOwner (s.setTr t _) t _)
  case waiting =>
    intro m hc hp hmo hg h1 h2 h3
    rw [mine hc, answerDone_pauseEffect_waiting (s := (s.setOwner t _).counted h.port) hc hp hmo (stands_eq h1 h2 h3) hg,
      withdrawn_counted, withdrawn_setOwner, setTr_counted,
      sending_done_counted (by rw [State.port_setTr, State.port_setOwner, port_withdrawn]; exact hu)]
    rfl
  case pends =>
    intro hc hp h1 h2
    have hp' : (s.tr t).phase ≠ .stopped := by obtain hp | hp | hp := hp <;> simp [hp]
    rw [mine hc]
    cases h3 : (s.tr t).hold.pending.pause with
    | true =>
      have hpend : ({ (s.tr t).hold.pending with pause := true } : RankSet) = (s.tr t).hold.pending := by rw [← h3]
      have hsame : s.setTr t
          { s.tr t with hold := { (s.tr t).hold with pending := { (s.tr t).hold.pending with pause := true } } } = s := by
        rw [hpend]; exact State.setTr_tr s t
      rw [answerDone_pauseEffect_idle (s := (s.setOwner t _).counted h.port) hp'
        (arriveCause_pause_stands ((stands_pause _).mpr (.inr (.inr h3)))), hsame]
      exact congrArg _ (sending_done_counted (s := s.setOwner t _) hu)
    | false =>
      rw [answerDone_pauseEffect_idle (s := (s.setOwner t _).counted h.port) hp'
        (arriveCause_pause_pends hc hp (stands_eq h1 h2 h3))]
      exact congrArg _ (sending_done_counted (s := (s.setTr t _).setOwner t _) hu)
  case stands =>
    intro hc hp hs
    rw [mine hc, answerDone_pauseEffect_idle (s := (s.setOwner t _).counted h.port) hp
      (arriveCause_pause_stands ((stands_pause _).mpr hs))]
    exact congrArg _ (sending_done_counted (s := s.setOwner t _) hu)
  case unloaded =>
    intro hc
    simp only [servePause, tr_counted, hc, Condition.pauseRefusal]
    exact refused_counted hu .notLoaded
  case busy =>
    intro hc
    obtain hc | hc := hc <;> simp only [servePause, tr_counted, hc, Condition.pauseRefusal] <;>
      exact refused_counted hu .busy
  case faulted =>
    intro hc
    simp only [servePause, tr_counted, hc, Condition.pauseRefusal]
    exact refused_counted hu .faulted

end Sys2Proof.OrderQueue
end

section
/-! SUPPORT. CONTINUE at a transport (R36, R101), the rules of a resumption (R98, R99), and its statement. -/

namespace Sys2Proof.OrderQueue

open Sys2Proof Sys2Proof.Machine

/-! ### CONTINUE -/

/-- CONTINUE at a transport that is not FAULTED, past the checks (R36). -/
theorem serveContinue_eq {h : Head} {t : TransportId} {s : State} (hm : s.MaySend h t)
    (hc : (s.tr t).condition ≠ .faulted) :
    serveContinue h t (s.counted h.port) =
      answerDone h (continueEffect t ((s.setOwner t (some h.port)).counted h.port)) := by
  simp [serveContinue, hc, reserveFor_eq (maySend_counted hm)]

/-- PAUSE removed where slot 2 does not hold it (R101). -/
theorem withoutPause_of_slot2 {x : Hold} (hs : ∀ r, x.slot2 = some r → r.rank ≠ .pause) :
    x.withoutPause = { x with cause := if x.cause = some .pause then none else x.cause
                              pending := { x.pending with pause := false } } := by
  cases h2 : x.slot2 with
  | none => simp [Hold.withoutPause, h2, RankSet.put]
  | some r => simp [Hold.withoutPause, h2, hs r h2, RankSet.put]

/-- PAUSE removed from slot 2 leaves service too (R101). -/
theorem withoutPause_of_saved {x : Hold} {r : SavedRecovery} (h2 : x.slot2 = some r) (hr : r.rank = .pause) :
    x.withoutPause = { x with cause := if x.cause = some .pause then none else x.cause
                              pending := { x.pending with pause := false }, slot2 := none
                              inService := { x.inService with pause := false } } := by
  simp [Hold.withoutPause, h2, hr, RankSet.put]

/-- CONTINUE where PAUSE is not the active recovery, with an empty queue: nothing more than its removal (R36). -/
theorem answerDone_continueEffect_empty {h : Head} {t : TransportId} {s : State} (ha : (s.tr t).hold.active ≠ some .pause)
    (hq : (s.tr t).queue = []) :
    answerDone h (continueEffect t s) = .next (sending (doneTo h)
      (s.setTr t { s.tr t with paused := false, hold := (s.tr t).hold.withoutPause })) := by
  cases hp : (s.tr t).paused <;>
    simp [answerDone, finish, agendaBound, continueEffect, Reaction.andThen, ha, hp, handle, takeTest, hq, Reaction.idle,
      respond_done_eq]

/-- A tape limit that is found at rest is one that is met (R26). -/
theorem limitMet_of_limitAtRest {s : State} {t : TransportId} {d : Direction} {st : Status}
    (h : limitAtRest d (s.tr t).position (s.servoOf t).eotAllowance = some st) : s.LimitMet t d st.code := by
  unfold limitAtRest at h
  split at h
  · split at h
    · rename_i e hp he
      split at h <;> cases h
      exact .inl ⟨rfl, rfl, hp, e, he, ‹_›⟩
    · cases h
  · split at h <;> cases h
    rename_i hr
    simp only [Bool.and_eq_true, decide_eq_true_eq] at hr
    exact .inr ⟨rfl, rfl, hr.1, hr.2⟩

theorem limitAtRest_eq_none {s : State} {t : TransportId} {d : Direction} (h : ∀ code, ¬ s.LimitMet t d code) :
    limitAtRest d (s.tr t).position (s.servoOf t).eotAllowance = none := by
  cases hl : limitAtRest d (s.tr t).position (s.servoOf t).eotAllowance with
  | none => rfl
  | some st => exact absurd (limitMet_of_limitAtRest hl) (h st.code)

/-- A tape limit that is met is found at rest, with the status of its code (R26). -/
theorem limitAtRest_of_limitMet {s : State} {t : TransportId} {d : Direction} {code : Byte} (h : s.LimitMet t d code) :
    ∃ st, limitAtRest d (s.tr t).position (s.servoOf t).eotAllowance = some st ∧ st.code = code := by
  obtain ⟨rfl, rfl, hp, e, he, hd⟩ | ⟨rfl, rfl, hr, hc⟩ := h
  · exact ⟨.eotLimit, by simp [limitAtRest, Transport.position, hp, he, hd], rfl⟩
  · exact ⟨.atBot, by simp [limitAtRest, Transport.position, hr, hc], rfl⟩

theorem limitMet_setTr {s : State} {t : TransportId} {x : Transport} (hx : x.sense.position = (s.tr t).sense.position)
    (d : Direction) (code : Byte) : (s.setTr t x).LimitMet t d code ↔ s.LimitMet t d code := by
  simp [State.LimitMet, hx]

/-- A saved MOVE that has way to go and meets no ending restarts (R99). -/
theorem resume_move {s : State} {t : TransportId} {m : Motion} (hm : (s.tr t).motion = some m) (hk : m.kind = .move)
    (he : m.endReason ≠ some .bot) (hl : ∀ code, ¬ s.LimitMet t m.direction code) (hd : ∀ r, m.r = some r → 0 < r) :
    resume t s = { state := s, now := [.startFromRest t] } := by
  have hv : resumeVerdict m (s.tr t).position (s.servoOf t).eotAllowance = none := by
    cases hr : m.r with
    | none => simp [resumeVerdict, hr, he, limitAtRest_eq_none hl]
    | some r => simp [resumeVerdict, hr, he, limitAtRest_eq_none hl, hd r hr]
  simp [resume, hm, hk, hv]

/-- With READY false a start from rest waits for vacuum (R43). -/
theorem startFromRest_waits {s : State} {t : TransportId} {m : Motion} (hm : (s.tr t).motion = some m)
    (hr : s.vacuum.ready = false) :
    startFromRest t s = Reaction.idle (s.setTr t { s.tr t with
      phase := .waitVacuum
      engine := { (s.tr t).engine with workTop := (s.tr t).topAtStart m (s.servoOf t).approach } }) := by
  simp [startFromRest, hm, hr, Reaction.idle]

/-- A recovery alone in service over a saved MOVE that has way to go: at its end the MOVE waits for vacuum, with READY
false (R98, R99). -/
theorem runTasks_recoveryEnd_move {s : State} {t : TransportId} {m : Motion} {a : Rank}
    (hh : (s.tr t).hold = { idleHold with slot1 := .saved m, active := some a, inService := noRanks.put a true })
    (hr : s.vacuum.ready = false) (hk : m.kind = .move) (he : m.endReason ≠ some .bot)
    (hl : ∀ code, ¬ s.LimitMet t m.direction code) (hd : ∀ r, m.r = some r → 0 < r) (n : Nat) (l : List Task) :
    runTasks (n + 4) (.recoveryEnd t :: l) s = runTasks n l (s.setTr t { s.tr t with
      hold := idleHold, motion := some m, phase := .waitVacuum }) := by
  have hout : (noRanks.put a true).put a false = noRanks := by cases a <;> rfl
  have hend : recoveryEnd t s =
      { state := s.setTr t { s.tr t with hold := { idleHold with slot1 := .saved m } }, now := [.popSlot1 t] } := by
    simp only [recoveryEnd, hh, hout]
    rfl
  have hpop : popSlot1 t (s.setTr t { s.tr t with hold := { idleHold with slot1 := .saved m } }) =
      { state := s.setTr t { s.tr t with hold := idleHold, motion := some m }, now := [.resume t] } := by
    simp only [popSlot1, State.tr_setTr_self, State.setTr_setTr]
    rfl
  have hres := resume_move (s := s.setTr t { s.tr t with hold := idleHold, motion := some m })
    (by rw [State.tr_setTr_self]) hk he (fun c => (limitMet_setTr (by rfl) _ c).not.mpr (hl c)) hd
  have hstart := startFromRest_waits (s := s.setTr t { s.tr t with hold := idleHold, motion := some m })
    (m := m) (by rw [State.tr_setTr_self]) hr
  rw [runTasks_succ, handle, hend]
  simp only [List.append_nil, List.singleton_append]
  rw [runTasks_succ, handle, hpop]
  simp only [List.append_nil, List.singleton_append]
  rw [runTasks_succ, handle, hres]
  simp only [List.append_nil, List.singleton_append]
  rw [runTasks_succ, handle, hstart]
  simp [Reaction.idle, Transport.topAtStart, hk]

/-- Settles O32: CONTINUE by where PAUSE stands (R36, R98, R99, R101). -/
theorem continueRemovesPause : Obligations.ContinueRemovesPause := by
  intro h t s ht hm
  have hu := up_of_ready ht.ready
  rw [exec_continue ht hm]
  refine ⟨?elsewhere, ?slot2, ?active, ?faulted⟩
  case elsewhere =>
    intro hc hq ha h2
    rw [serveContinue_eq hm.toMaySend hc, answerDone_continueEffect_empty (s := (s.setOwner t _).counted h.port) ha hq]
    simp only [tr_counted, State.tr_setOwner, withoutPause_of_slot2 h2]
    exact congrArg _ (sending_done_counted (s := (s.setTr t _).setOwner t _) hu)
  case slot2 =>
    rintro hc hq ha ⟨x, h2, hx⟩
    rw [serveContinue_eq hm.toMaySend hc, answerDone_continueEffect_empty (s := (s.setOwner t _).counted h.port) ha hq]
    simp only [tr_counted, State.tr_setOwner, withoutPause_of_saved h2 hx]
    exact congrArg _ (sending_done_counted (s := (s.setTr t _).setOwner t _) hu)
  case active =>
    intro m hc hp hmo hr hh hk he hl hd
    rw [serveContinue_eq hm.toMaySend (by simp [hc])]
    have hcont : continueEffect t ((s.setOwner t (some h.port)).counted h.port) =
        { state := (s.setOwner t (some h.port)).counted h.port, now := [.recoveryEnd t] } := by
      have hw : (s.tr t).hold.withoutPause = (s.tr t).hold := by rw [hh]; rfl
      have hsame : ({ s.tr t with paused := false, hold := (s.tr t).hold.withoutPause } : Transport) = s.tr t := by
        rw [hw, ← hp]
      simp only [continueEffect, tr_counted, State.tr_setOwner, hsame, hp]
      simp only [hh, beq_self_eq_true, if_true, Bool.false_eq_true, if_false, List.append_nil]
      exact congrArg (fun x : State => ({ state := x.counted h.port, now := [.recoveryEnd t] } : Reaction))
        (State.setTr_tr (s.setOwner t _) t)
    rw [hcont]
    simp only [answerDone, finish, Reaction.andThen, agendaBound, List.append_nil, List.singleton_append]
    rw [runTasks_recoveryEnd_move (s := (s.setOwner t (some h.port)).counted h.port) (a := .pause) hh hr hk he hl hd,
      runTasks_answer, runTasks_nil]
    exact congrArg _ (sending_done_counted (s := (s.setTr t _).setOwner t _) hu)
  case faulted =>
    intro hc
    simp only [serveContinue, tr_counted, hc, beq_self_eq_true, if_true]
    exact refused_counted hu .faulted

end Sys2Proof.OrderQueue
end

section
/-! SUPPORT. The queued orders: their frames read back, their refusals (R20, R21) and their joining (R22), and the statements about these. -/

namespace Sys2Proof.OrderQueue

open Sys2Proof Sys2Proof.Machine

/-! ### The frames of queued orders -/

theorem toNat_byteOf (r k : Nat) : (byteOf (r : Int) k).toNat = r / 256 ^ k % 256 := by
  simp only [byteOf, BitVec.toNat_ofInt]
  norm_cast

/-- Three bytes of a number read back (R187). -/
theorem foldl_bytesOf_three {r : Nat} (hr : r < 2 ^ 24) :
    (bytesOf 3 (r : Int)).foldl (fun acc x => acc * 256 + x.toNat) 0 = r := by
  have hb : bytesOf 3 (r : Int) = [byteOf r 2, byteOf r 1, byteOf r 0] := rfl
  rw [hb]
  simp only [List.foldl, toNat_byteOf]
  omega

theorem profileNumber_val (n : Fin 16) : profileNumber (BitVec.ofNat 8 n.val) = some n := by
  have h : n.val % 256 = n.val := by omega
  simp [profileNumber, BitVec.toNat_ofNat, h]

theorem directionField_directionBit (d : Direction) : directionField (BitVec.ofNat 8 (directionBit d)) = some d := by
  cases d <;> rfl

/-- The record of a queued order within its own arrival event (R160, log 20). -/
def arriving (x : QueuedOrder) (h : Head) : OrderRecord := { x.record h with arrivalUnit := some h.unit }

theorem arriving_settled (x : QueuedOrder) (h : Head) : (arriving x h).settled = x.record h := by
  cases x <;> rfl

theorem packed_two_flags (a b : Bool) :
    (packed [(a.toNat, 0), (b.toNat, 1)]).getLsbD 0 = a ∧ (packed [(a.toNat, 0), (b.toNat, 1)]).getLsbD 1 = b := by
  cases a <;> cases b <;> decide

/-- The fields of a MOVE frame as its sender wrote them (R187). -/
theorem moveRecord_fields (d : Direction) (n : Option (Fin 16)) (r : Option Nat) :
    let body := (QueuedOrder.move d n r).body
    body.length = 6 ∧ directionField (byteAt body 0) = some d ∧ bitAt body 1 0 = n.isSome ∧ bitAt body 1 1 = r.isSome ∧
      byteAt body 2 = BitVec.ofNat 8 ((n.map Fin.val).getD 0) ∧
      fieldAt body 3 3 = (bytesOf 3 ((r.getD 0 : Nat) : Int)).foldl (fun acc x => acc * 256 + x.toNat) 0 := by
  exact ⟨rfl, directionField_directionBit d, (packed_two_flags n.isSome r.isSome).1,
    (packed_two_flags n.isSome r.isSome).2, rfl, rfl⟩

/-- A MOVE frame gives back its order (R21, R187). -/
theorem moveRecord_body (h : Head) (d : Direction) (n : Option (Fin 16)) {r : Option Nat}
    (hl : (QueuedOrder.move d n r).Legal) :
    moveRecord h (QueuedOrder.move d n r).body = some (arriving (.move d n r) h) := by
  obtain ⟨hlen, hd, h0, h1, hn, hr⟩ := moveRecord_fields d n r
  have hshort : ¬ (QueuedOrder.move d n r).body.length < moveLength (QueuedOrder.move d n r).body := by
    rw [hlen, moveLength]; split_ifs <;> omega
  have hprofile : moveProfile (QueuedOrder.move d n r).body = some n := by
    rw [moveProfile, h0, hn]
    cases n <;> simp [profileNumber_val]
  have hdistance : moveDistance (QueuedOrder.move d n r).body = some r := by
    rw [moveDistance, h1, hr]
    cases r with
    | none => rfl
    | some r =>
      obtain ⟨hpos, htop⟩ : 0 < r ∧ r < 2 ^ 24 := hl
      simp only [Option.isSome_some, if_true, Option.getD_some, foldl_bytesOf_three htop]
      rw [if_neg (by omega)]
  simp [moveRecord, hshort, hd, hprofile, hdistance, arriving, QueuedOrder.record]

theorem rewindRecord_body (h : Head) (n : Option (Fin 16)) :
    rewindRecord h (QueuedOrder.rewind n).body = some (arriving (.rewind n) h) := by
  cases n with
  | none => rfl
  | some n => simp [rewindRecord, QueuedOrder.body, profileNumber_val]; rfl

/-! ### The checks of queued orders -/

/-- A queued order past the checks of the Port Controller (R20). -/
theorem exec_command {x : QueuedOrder} {h : Head} {t : TransportId} {s : State} (hl : x.Legal)
    (ht : s.Takes h.port x.body) (hm : s.MayOrder h t) :
    exec (x.command h) s = serveQueued h (some (arriving x h)) t (s.counted h.port) := by
  cases x with
  | move d n r =>
    rw [← moveRecord_body h d n hl]
    exact orderFrame_counted _ ht hm.toMaySend (.inl hm.online)
  | rewind n =>
    rw [← rewindRecord_body h n]
    exact orderFrame_counted _ ht hm.toMaySend (.inl hm.online)
  | unload => exact orderFrame_counted _ ht hm.toMaySend (.inl hm.online)

theorem exec_move {b : List Byte} {h : Head} {t : TransportId} {s : State} (ht : s.Takes h.port b) (hm : s.MayOrder h t) :
    exec (.move h b) s = serveQueued h (moveRecord h b) t (s.counted h.port) :=
  orderFrame_counted _ ht hm.toMaySend (.inl hm.online)

theorem exec_rewind {b : List Byte} {h : Head} {t : TransportId} {s : State} (ht : s.Takes h.port b)
    (hm : s.MayOrder h t) : exec (.rewind h b) s = serveQueued h (rewindRecord h b) t (s.counted h.port) :=
  orderFrame_counted _ ht hm.toMaySend (.inl hm.online)

theorem entryServes_eq_some {k : OrderKind} {e : Option Profile} {p : Profile} :
    entryServes k e = some p ↔ e = some p ∧ (k = .move ∨ p.cls = .rewind) := by
  cases e with
  | none => simp [entryServes]
  | some x =>
    simp only [entryServes, Bool.or_eq_true, beq_iff_eq, Option.ite_none_right_eq_some, Option.some.injEq]
    constructor
    · rintro ⟨hk, rfl⟩; exact ⟨rfl, hk⟩
    · rintro ⟨rfl, hk⟩; exact ⟨hk, rfl⟩

theorem arriving_resolve (x : QueuedOrder) (h : Head) (n : Fin 16) : (arriving x h).resolve n = x.profileNo n := by
  cases x <;> rfl

/-- The profile that a queued order resolves to serves it (R21). -/
theorem entryServes_arriving {x : QueuedOrder} {h : Head} {t : TransportId} {s : State} {p : Profile} :
    entryServes (arriving x h).kind (s.tables.profiles.get ((arriving x h).resolve (s.tr t).selected)) = some p ↔
      x.Served s t p := by
  rw [entryServes_eq_some, arriving_resolve]
  cases x <;> simp [arriving, QueuedOrder.record, QueuedOrder.Served]

/-- A condition that refuses queued orders does so whatever the body holds (R20). -/
theorem serveQueued_condition {h : Head} {x : Option OrderRecord} {t : TransportId} {s : State} {st : Status}
    (hu : (s.port h.port).up = true) (hc : (s.tr t).condition.queuedRefusal = some st) :
    serveQueued h x t (s.counted h.port) = .next (s.turnedAway h st.code []) := by
  simp only [serveQueued, tr_counted, hc]
  exact refused_counted hu st

/-- A body that gives no record is refused BAD FIELD at a LOADED transport (R21). -/
theorem serveQueued_badField {h : Head} {t : TransportId} {s : State} (hu : (s.port h.port).up = true)
    (hc : (s.tr t).condition = .loaded) : serveQueued h none t (s.counted h.port) = .next (s.turnedAway h 0x26 []) := by
  simp only [serveQueued, tr_counted, hc, Condition.queuedRefusal]
  exact refused_counted hu .badField

/-- A record that cannot join is refused (R21). -/
theorem serveQueued_joinRefusal {h : Head} {x : OrderRecord} {t : TransportId} {s : State} {st : Status}
    (hu : (s.port h.port).up = true) (hc : (s.tr t).condition = .loaded)
    (hj : joinRefusal s.tables (s.tr t) x = some st) :
    serveQueued h (some x) t (s.counted h.port) = .next (s.turnedAway h st.code []) := by
  simp only [serveQueued, tr_counted, counted_tables, hc, Condition.queuedRefusal, hj]
  exact refused_counted hu st

/-- A MOVE body that is a bad field: too short, or with a bad direction, profile number or distance (R21, R184). -/
theorem moveRecord_eq_none {h : Head} {d f : Byte} {rest : List Byte}
    (hb : 1 < d.toNat ∨ (f.getLsbD 0 = true ∧ rest = []) ∨ (f.getLsbD 1 = true ∧ rest.length < 4) ∨
      (∃ n more, f.getLsbD 0 = true ∧ rest = n :: more ∧ 15 < n.toNat) ∨
      (f.getLsbD 1 = true ∧ (rest.drop 1).take 3 = [0, 0, 0])) : moveRecord h (d :: f :: rest) = none := by
  have h0 : bitAt (d :: f :: rest) 1 0 = f.getLsbD 0 := rfl
  have h1 : bitAt (d :: f :: rest) 1 1 = f.getLsbD 1 := rfl
  unfold moveRecord
  split
  · rfl
  · rename_i hlen
    rw [moveLength, h0, h1, List.length_cons, List.length_cons] at hlen
    obtain hd | ⟨hf, hr⟩ | ⟨hf, hr⟩ | ⟨n, more, hf, hr, hn⟩ | ⟨hf, hr⟩ := hb
    · have : directionField (byteAt (d :: f :: rest) 0) = none := by
        have e : byteAt (d :: f :: rest) 0 = d := rfl
        have d0 : d ≠ 0 := by rintro rfl; simp at hd
        have d1 : d ≠ 1 := by rintro rfl; simp at hd
        rw [directionField, e, if_neg d0, if_neg d1]
      simp [this]
    · exact absurd hlen (by subst hr; simp only [hf, if_true, List.length_nil]; split_ifs <;> omega)
    · exact absurd hlen (by simp only [hf, if_true]; omega)
    · have : moveProfile (d :: f :: rest) = none := by
        have e : byteAt (d :: f :: rest) 2 = n := by rw [hr]; rfl
        simp [moveProfile, h0, hf, e, profileNumber, show ¬ n.toNat < 16 by omega]
      simp [this]
    · have : moveDistance (d :: f :: rest) = none := by
        have e : fieldAt (d :: f :: rest) 3 3 = 0 := by
          have : ((d :: f :: rest).drop 3).take 3 = [0, 0, 0] := hr
          rw [fieldAt, this]; rfl
        simp [moveDistance, h1, hf, e]
      simp [this]

theorem moveRecord_short {h : Head} {b : List Byte} (hb : b.length < 2) : moveRecord h b = none := by
  rw [moveRecord, if_pos (by rw [moveLength]; split_ifs <;> omega)]

/-- Settles O40: the refusals in the order condition, fields, profile, capacity (R20, R21, R184). -/
theorem queuedOrderRefusals : Obligations.QueuedOrderRefusals := by
  refine ⟨fun x h t s hl ht hm => ?orders, fun b h t s ht hm => ?bodies⟩
  case orders =>
    have hu := up_of_ready ht.ready
    rw [exec_command hl ht hm]
    refine ⟨fun hc => ?_, fun hc => ?_, fun hc => ?_, fun hc hn => ?_, fun hc hs hq => ?_⟩
    · exact serveQueued_condition hu (st := .busy) (by rw [hc]; rfl)
    · exact serveQueued_condition hu (st := .notLoaded) (by obtain hc | hc := hc <;> rw [hc] <;> rfl)
    · exact serveQueued_condition hu (st := .faulted) (by rw [hc]; rfl)
    · refine serveQueued_joinRefusal (st := .badProfile) hu hc ?_
      have he : entryServes (arriving x h).kind
          (s.tables.profiles.get ((arriving x h).resolve (s.tr t).selected)) = none :=
        Option.eq_none_iff_forall_ne_some.mpr fun p hp => hn p (entryServes_arriving.mp hp)
      simp [joinRefusal, he]
    · obtain ⟨p, hp⟩ := hs
      refine serveQueued_joinRefusal (st := .queueFull) hu hc ?_
      simp [joinRefusal, entryServes_arriving.mpr hp, queueCapacity, hq]
  case bodies =>
    have hu := up_of_ready ht.ready
    rw [exec_move ht hm, exec_rewind ht hm]
    refine ⟨fun hc => ?_, fun hc => ?_, fun hc => ?_, fun hc => ⟨fun hb => ?_, ?_, ?_⟩⟩
    · have hr : (s.tr t).condition.queuedRefusal = some .busy := by rw [hc]; rfl
      exact ⟨serveQueued_condition hu hr, serveQueued_condition hu hr⟩
    · have hr : (s.tr t).condition.queuedRefusal = some .notLoaded := by obtain hc | hc := hc <;> rw [hc] <;> rfl
      exact ⟨serveQueued_condition hu hr, serveQueued_condition hu hr⟩
    · have hr : (s.tr t).condition.queuedRefusal = some .faulted := by rw [hc]; rfl
      exact ⟨serveQueued_condition hu hr, serveQueued_condition hu hr⟩
    · rw [moveRecord_short hb]
      exact serveQueued_badField hu hc
    · rintro d f rest rfl hb
      rw [moveRecord_eq_none hb]
      exact serveQueued_badField hu hc
    · rintro n rest rfl hn
      have : rewindRecord h (n :: rest) = none := by simp [rewindRecord, profileNumber, show ¬ n.toNat < 16 by omega]
      rw [this]
      exact serveQueued_badField hu hc

/-! ### Joining the queue -/

/-- An order that is served by its profile and finds room joins the queue of its sender's transport (R21, R22). -/
theorem serveQueued_joins {x : QueuedOrder} {h : Head} {t : TransportId} {p : Profile} {s : State} (hm : s.MaySend h t)
    (hc : (s.tr t).condition = .loaded) (hs : x.Served s t p) (hq : (s.tr t).queue.length < 6) :
    serveQueued h (some (arriving x h)) t (s.counted h.port) =
      mapNext (endArrival t) (finish
        { state :=
            let w := cancelRelease h t ((s.setOwner t (some h.port)).counted h.port)
            w.setQueue t ((w.tr t).queue ++ [arriving x h])
          now := [.takeTest t] }) := by
  have hj : joinRefusal s.tables (s.tr t) (arriving x h) = none := by
    rw [joinRefusal, entryServes_arriving.mpr hs]
    exact if_neg (by simp only [queueCapacity]; omega)
  simp [serveQueued, hc, Condition.queuedRefusal, hj, joinOrder, reserveFor_eq (maySend_counted hm)]

theorem cancelRelease_none {h : Head} {t : TransportId} {s : State} (hr : (s.tr t).release = none) :
    cancelRelease h t s = s := by simp [cancelRelease, hr]

/-- The sender's pending release is answered SUPERSEDED (R22). -/
theorem cancelRelease_own {h : Head} {t : TransportId} {s : State} {g : Byte}
    (hr : (s.tr t).release = some { port := h.port, tag := g }) :
    cancelRelease h t s = sending (fun q => if q = h.port then
        [{ kind := .response, unit := lowestUnit (s.port h.port).unitMap t, tag := g, code := 0x06
           body := [transportByte t] }] else [])
      (s.setTr t { s.tr t with release := none }) := by
  simp only [cancelRelease, hr, if_true, supersedeRelease, answerRelease, place_eq]
  rfl

theorem canTake_eq_false {tr : Transport}
    (h : tr.phase ≠ .stopped ∨ tr.motion ≠ none ∨ tr.paused = true ∨ tr.servo.band = .outsideGuard) :
    tr.canTake = false := by
  cases hm : tr.motion <;> obtain h | h | h | h := h <;> simp_all [Transport.canTake]

theorem takeTest_of_not_canTake {t : TransportId} {s : State} (hc : (s.tr t).canTake = false) :
    takeTest t s = Reaction.idle s := by
  cases hq : (s.tr t).queue <;> simp [takeTest, hq, hc]

/-- A record that joins a queue from which nothing can be taken stays there (R22, R25). -/
theorem join_not_taken {t : TransportId} {s : State} {x : OrderRecord} (hc : (s.tr t).canTake = false) :
    mapNext (endArrival t) (finish { state := s.setQueue t ((s.tr t).queue ++ [x]), now := [.takeTest t] }) =
      .next (s.setTr t { (s.tr t).settled with queue := (s.tr t).settled.queue ++ [x.settled] }) := by
  have ht := takeTest_of_not_canTake (s := s.setQueue t ((s.tr t).queue ++ [x])) (t := t)
    (by rw [State.setQueue, State.tr_setTr_self]; exact hc)
  simp only [finish, agendaBound, List.append_nil]
  rw [runTasks_succ, handle, ht]
  simp [Reaction.idle, mapNext, endArrival, State.setQueue, Transport.settled]

/-- Settles O38: the order joins the tail, and a pending release of its sender is cancelled (R22, R164). -/
theorem queuedOrderJoinsTheTail : Obligations.QueuedOrderJoinsTheTail := by
  intro x h t p s hl ht hm hc hs hq hn
  have hu := up_of_ready ht.ready
  have hct := canTake_eq_false hn
  rw [exec_command hl ht hm, serveQueued_joins hm.toMaySend hc hs hq]
  constructor
  · intro hr
    simp only [cancelRelease_none (s := (s.setOwner t (some h.port)).counted h.port) hr]
    rw [join_not_taken (s := (s.setOwner t (some h.port)).counted h.port) hct, arriving_settled]
    rfl
  · intro g hr
    simp only [cancelRelease_own (s := (s.setOwner t (some h.port)).counted h.port) hr]
    rw [join_not_taken (by rw [tr_sending, State.tr_setTr_self]; exact hct), arriving_settled]
    simp only [tr_sending, State.tr_setTr_self, setTr_sending, State.setTr_setTr]
    rw [sending_eq_setPort, State.port_setTr, sent_up (x := ((s.setOwner t _).counted h.port).port h.port)
      ((up_counted ..).trans hu), ← tx_counted s h.port h.port, ← unitMap_counted s h.port h.port]
    rfl

end Sys2Proof.OrderQueue
end

section
/-! SUPPORT. The ramp step in its three parts (R45 to R50): decelerations that its first part begins, and the chaining of the head of the queue (R38, R39), with their statement. -/

namespace Sys2Proof.OrderQueue

open Sys2Proof Sys2Proof.Machine

/-! ### The parts of a ramp step -/

/-- A ramp step while the ramp is active is made in its three parts (R45). -/
theorem exec_rampStep_parts {s : State} {t : TransportId} (hh : (s.tr t).hasPhase = true)
    (hp : (s.tr t).phase.moving = true) (hs : (s.tr t).engine.stepTimer = true) :
    exec (.rampStep t) s = runTasks 4096 [.limitTests t, .velocityUpdate t, .restTest t] s := by
  simp [exec, execRampStep, rampStep, hh, hp, hs, finish, agendaBound]

/-- The transport at another velocity. -/
def atVelocity (tr : Transport) (v : Int) : Transport := { tr with engine := { tr.engine with v := v } }

/-- A step of a deceleration that does not come to rest lowers the velocity by a_dec (R50, R51). -/
theorem runTasks_slows {s : State} {t : TransportId} {m : Motion} (hm : (s.tr t).motion = some m)
    (hp : (s.tr t).phase = .decel ∨ (s.tr t).phase = .holdDecel) (hv : m.copy.aDec < (s.tr t).engine.v.natAbs) (n : Nat) :
    runTasks (n + 2) [.velocityUpdate t, .restTest t] s = .next
      (s.setTr t (atVelocity (s.tr t) (velocityOf m.direction ((s.tr t).engine.v.natAbs - m.copy.aDec)))) := by
  have hv0 : (s.tr t).engine.v ≠ 0 := fun e => by rw [e] at hv; simp at hv
  have hr : velocityOf m.direction ((s.tr t).engine.v.natAbs - m.copy.aDec) ≠ 0 := by
    unfold velocityOf; split <;> omega
  have hnext : nextSpeed (s.tr t).phase m.copy ((s.tr t).engine.workTop.getD m.copy.vTop) (s.tr t).engine.v.natAbs =
      ((s.tr t).engine.v.natAbs - m.copy.aDec, false) := by obtain hp | hp := hp <;> simp [hp, nextSpeed]
  simp [handle, velocityUpdate, hm, hnext, hv0, signed_eq_velocityOf, Reaction.idle, restTest, hr, atVelocity]

/-- The velocity of a transport may be set before or after it gives up its grant. -/
theorem letGo_atVelocity (s : State) (t : TransportId) (v : Int) :
    (s.letGo t).setTr t (atVelocity ((s.letGo t).tr t) v) = (s.setTr t (atVelocity (s.tr t) v)).letGo t := by
  have h1 : ∀ w : State, w.letGo t = (w.letGo t).setTr t ((w.letGo t).tr t) := fun w => (State.setTr_tr ..).symm
  rw [h1 (s.setTr t _), setTr_letGo, setTr_letGo, tr_letGo, tr_letGo]
  simp only [State.tr_setTr_self, State.setTr_setTr]
  rfl

/-- Part 1 of a ramp step begins a deceleration from the transport `x`, and parts 2 and 3 make its first step (R47, R50). -/
theorem exec_rampStep_beginsDecel {s : State} {t : TransportId} {x : Transport} {m : Motion}
    (hh : (s.tr t).hasPhase = true) (hp : (s.tr t).phase.moving = true) (hs : (s.tr t).engine.stepTimer = true)
    (hl : limitTests t s = beginDecel t .decel (s.setTr t x)) (hf : s.FreeToLetGo t) (hm : x.motion = some m)
    (hx : x.engine = (s.tr t).engine) (hv : m.copy.aDec < (s.tr t).engine.v.natAbs) :
    exec (.rampStep t) s = .next ((s.setTr t (atVelocity { x with phase := .decel }
      (velocityOf m.direction ((s.tr t).engine.v.natAbs - m.copy.aDec)))).letGo t) := by
  let y : Transport := { x with phase := .decel }
  have hslow := runTasks_slows (s := (s.setTr t y).letGo t) (t := t) (m := m)
    (by rw [tr_letGo, State.tr_setTr_self]; exact hm)
    (.inl (by rw [tr_letGo, State.tr_setTr_self])) (by rw [tr_letGo, State.tr_setTr_self]; simpa [y, hx] using hv) 4092
  rw [letGo_atVelocity, State.tr_setTr_self, State.setTr_setTr] at hslow
  rw [exec_rampStep_parts hh hp hs, runTasks_succ, handle, hl]
  refine runTasks_beginDecel (freeToLetGo_setTr hf (by rw [hx])) (n := 4094) ?_
  rw [setPhase_setTr, hslow, tr_letGo, State.tr_setTr_self]
  simp only [y, hx]

/-! ### The tests of part 1 -/

section
variable {s : State} {t : TransportId} {m : Motion} (hm : (s.tr t).motion = some m)
  (hp : (s.tr t).phase = .accel ∨ (s.tr t).phase = .cruise) (hc : (s.tr t).hold.cause = none)
include hm hp hc

/-- The EOT limit goes first (R47). -/
theorem limitTests_eot
    (he : eotLimitReached m (s.tr t).position (s.servoOf t).eotAllowance (s.tr t).engine.v.natAbs = true) :
    limitTests t s = eotStop t m s := by
  obtain hp | hp := hp <;> simp [limitTests, hm, hp, hc, he]

/-- A MOVE that has reached its stop distance, with nothing to chain, begins its deceleration (R47). -/
theorem limitTests_distance
    (he : eotLimitReached m (s.tr t).position (s.servoOf t).eotAllowance (s.tr t).engine.v.natAbs = false)
    (hd : distanceReached m (s.tr t).engine.v.natAbs = true) (hn : chainable (s.tr t) m = none) :
    limitTests t s = beginDecel t .decel (setEndReason t .distance s) := by
  obtain hp | hp := hp <;> simp [limitTests, hm, hp, hc, he, hd, hn]

/-- A MOVE that has reached its stop distance chains the head that may be chained (R38, R47). -/
theorem limitTests_chain {x : OrderRecord} {d : Nat}
    (he : eotLimitReached m (s.tr t).position (s.servoOf t).eotAllowance (s.tr t).engine.v.natAbs = false)
    (hd : distanceReached m (s.tr t).engine.v.natAbs = true) (hn : chainable (s.tr t) m = some (x, d)) :
    limitTests t s = Reaction.idle (chain t m x d s) := by
  obtain hp | hp := hp <;> simp [limitTests, hm, hp, hc, he, hd, hn]

end

/-- A head that meets one of these conditions may not be chained (R38). -/
theorem chainable_eq_none {tr : Transport} {m : Motion}
    (h : ∀ x rest, tr.queue = x :: rest → x.kind ≠ .move ∨ x.distance = none ∨
      (∃ d, x.direction = some d ∧ d ≠ m.direction) ∨ x.profile.getD tr.selected ≠ m.profileNo ∨ m.endReason ≠ none ∨
      tr.paused = true ∨ tr.hold.inService ≠ noRanks ∨ tr.hold.pending ≠ noRanks) : chainable tr m = none := by
  unfold chainable
  split
  · rfl
  · rename_i x rest hq
    split
    · rfl
    · rename_i d hd
      rw [if_neg]
      simp only [Bool.and_eq_true, beq_iff_eq, Option.isNone_iff_eq_none, Bool.not_eq_true', Hold.nothing]
      rintro ⟨⟨⟨⟨⟨hk, hdir⟩, hprof⟩, hend⟩, ⟨hcause, hin⟩, hpend⟩, hpaused⟩
      simp only [OrderRecord.takeDirection, OrderRecord.resolve, hk] at hdir hprof
      obtain h | h | ⟨e, he, hne⟩ | h | h | h | h | h := h x rest hq
      · exact h hk
      · rw [h] at hd; cases hd
      · rw [he] at hdir; exact hne hdir
      · exact h hprof
      · exact h hend
      · rw [hpaused] at h; cases h
      · exact h hin
      · exact h hpend

/-- A head that meets all conditions may be chained (R38). -/
theorem chainable_eq_some {tr : Transport} {m : Motion} {x : OrderRecord} {rest : List OrderRecord} {d : Nat}
    (hq : tr.queue = x :: rest) (hk : x.kind = .move) (hd : x.distance = some d) (hdir : x.direction = some m.direction)
    (hprof : x.profile.getD tr.selected = m.profileNo) (hend : m.endReason = none) (hpaused : tr.paused = false)
    (hc : tr.hold.cause = none) (hin : tr.hold.inService = noRanks) (hpend : tr.hold.pending = noRanks) :
    chainable tr m = some (x, d) := by
  simp [chainable, hq, hd, hk, OrderRecord.takeDirection, OrderRecord.resolve, hdir, hprof, hend, hpaused, Hold.nothing, hc,
    hin, hpend]

theorem eotLimitReached_eq_true {m : Motion} {pos : Position} {allowance v : Nat} {n : Int} (hd : m.direction = .forward)
    (hp : pos.pastEot = true) (hn : pos.eotPoint = some n)
    (h : (allowance : Int) - (stopDistance m.copy v : Int) ≤ pos.count - n) :
    eotLimitReached m pos allowance v = true := by
  simp [eotLimitReached, hd, hp, hn, h]

/-- The EOT stop of a queued order sets its end reason, that of the BOT search its outcome, unless one stands (R55, R148). -/
theorem eotStop_eq {s : State} {t : TransportId} {m : Motion} (hm : (s.tr t).motion = some m) :
    eotStop t m s = beginDecel t .decel (s.setTr t (if m.kind = .load then
        { s.tr t with load := { (s.tr t).load with
            outcome := if (s.tr t).load.outcome = .none then .eot else (s.tr t).load.outcome } }
      else { s.tr t with motion := some { m with endReason := some (m.endReason.getD .eot) } })) := by
  by_cases hk : m.kind = .load
  · by_cases ho : (s.tr t).load.outcome = .none
    · simp [eotStop, hk, ho, setOutcome]
    · simp only [eotStop, hk, beq_self_eq_true, if_true, beq_iff_eq, ho, if_false]
      exact congrArg (beginDecel t .decel) (State.setTr_tr s t).symm
  · simp [eotStop, hk, setEndReason_motion hm]

/-! ### Chaining -/

/-- The chained record in the motion context of the ended MOVE (R39). -/
def chained (m : Motion) (x : OrderRecord) (d : Nat) (r : Int) : Motion :=
  { m with tag := x.tag, origin := x.origin, arrivalUnit := x.arrivalUnit
           r := some (max (-33554432) (min 33554431 ((d : Int) + r))) }

theorem passes_iff (f : Filter) (d : Direction) :
    f.passes d = true ↔ f = .both ∨ (f = .forward ∧ d = .forward) ∨ (f = .reverse ∧ d = .reverse) := by
  cases f <;> cases d <;> simp [Filter.passes]

/-- A chaining as the monitor counts it (R180). -/
theorem monitorChain_eq (t : TransportId) (d : Direction) (s : State) :
    monitorChain t d s = { s with monitor := if s.monitor.transport = t ∧ s.monitor.measure = .motionCount ∧
        (s.monitor.filter = .both ∨ (s.monitor.filter = .forward ∧ d = .forward) ∨
          (s.monitor.filter = .reverse ∧ d = .reverse)) then
      { s.monitor with samples := min 65535 (s.monitor.samples + 1) } else s.monitor } := by
  simp only [monitorChain, Monitor.watches, ← passes_iff, Bool.and_eq_true, beq_iff_eq, and_assoc]
  split <;> simp_all [Monitor.count, satSucc, counterTop]

/-- In CRUISE at its top speed a motion keeps its speed, and parts 2 and 3 of the ramp step change nothing (R49). -/
theorem runTasks_cruises {s : State} {t : TransportId} {m : Motion} (hm : (s.tr t).motion = some m)
    (hp : (s.tr t).phase = .cruise)
    (hv : (s.tr t).engine.v = velocityOf m.direction ((s.tr t).engine.workTop.getD m.copy.vTop)) (n : Nat) :
    runTasks (n + 2) [.velocityUpdate t, .restTest t] s = .next s := by
  have hnat : (s.tr t).engine.v.natAbs = (s.tr t).engine.workTop.getD m.copy.vTop := by
    rw [hv]; unfold velocityOf; split <;> simp
  have hnext : nextSpeed (s.tr t).phase m.copy ((s.tr t).engine.workTop.getD m.copy.vTop) (s.tr t).engine.v.natAbs =
      ((s.tr t).engine.v.natAbs, false) := by simp [hp, nextSpeed, hnat]
  have hsame : velocityUpdate t s = Reaction.idle s := by
    have htimer : ((s.tr t).engine.v == 0 && (s.tr t).engine.v.natAbs != 0 && (s.tr t).engine.tach == .clear) = false := by
      by_cases h0 : (s.tr t).engine.v = 0 <;> simp [h0]
    simp only [velocityUpdate, hm, hnext, htimer, signed_eq_velocityOf, Bool.false_eq_true, if_false]
    rw [hnat, ← hv, ← hm]
    exact congrArg Reaction.idle (State.setTr_tr s t)
  have hrest : restTest t s = Reaction.idle s := by simp [restTest, hp]
  rw [runTasks_succ, handle, hsame]
  simp [Reaction.idle, handle, hrest]

/-- The end of the MOVE whose motion the head takes over, and the head in its place (R39). -/
theorem chain_eq {s : State} {t : TransportId} {m : Motion} {x : OrderRecord} {rest : List OrderRecord} {d : Nat} {r : Int}
    (hq : (s.tr t).queue = x :: rest) (hk : m.kind = .move) (hkx : x.kind = .move) (hr : m.r = some r)
    (hdir : x.direction = some m.direction) (hend : m.endReason = none) :
    chain t m x d s = sending (fun q => s.endingOf t q m 0 none)
      (monitorChain t m.direction (s.setTr t { s.tr t with queue := rest, motion := some (chained m x d r) })) := by
  have hd : x.takeDirection = m.direction := by simp [OrderRecord.takeDirection, hkx, hdir]
  have hm : ({ m with
      kind := x.kind, tag := x.tag, origin := x.origin, direction := x.takeDirection
      r := some (clampR ((d : Int) + m.r.getD 0)), endReason := none, arrivalUnit := x.arrivalUnit } : Motion) =
      chained m x d r := by
    rw [hkx, ← hk, hd, hr, ← hend]; rfl
  simp only [chain, placeMotionEnding_eq, tr_sending, hm, hq, List.tail_cons, setTr_sending]
  rw [hd, monitorChain_eq, monitorChain_eq]
  rfl

/-- Settles O47: the tests of part 1, by which of them passes (R38, R39, R47, R53 to R55). -/
theorem distanceTestStopsOrChains : Obligations.DistanceTestStopsOrChains := by
  intro t m s hm hc hs hcause
  have hh : (s.tr t).hasPhase = true := by
    obtain hc | ⟨hc, hl⟩ := hc
    · simp [Transport.hasPhase, hc]
    · simp [Transport.hasPhase, Transport.searching, hc, hl]
  have moving_of : (s.tr t).phase = .accel ∨ (s.tr t).phase = .cruise → (s.tr t).phase.moving = true := by
    rintro (hp | hp) <;> simp [hp, Phase.moving]
  refine ⟨fun n hd hp he hlim hph hf hv => ?eot, fun r hk hr hle hshort => ⟨fun hph hf hv hq => ?distance, ?chain⟩⟩
  case eot =>
    have hl := (limitTests_eot hm hph hcause (eotLimitReached_eq_true hd hp he hlim)).trans (eotStop_eq hm)
    split at hl
    · rename_i hk
      rw [if_pos hk]
      exact exec_rampStep_beginsDecel (m := m) hh (moving_of hph) hs hl hf hm rfl hv
    · rename_i hk
      rw [if_neg hk]
      exact exec_rampStep_beginsDecel (m := { m with endReason := some (m.endReason.getD .eot) }) hh (moving_of hph) hs hl
        hf rfl rfl hv
  case distance =>
    have he := eotLimitReached_eq_false hshort
    have hd : distanceReached m (s.tr t).engine.v.natAbs = true := by simp [distanceReached, hk, hr, hle]
    have hl := limitTests_distance hm hph hcause he hd (chainable_eq_none hq)
    rw [setEndReason_motion hm] at hl
    exact exec_rampStep_beginsDecel (m := { m with endReason := some (m.endReason.getD .distance) }) hh (moving_of hph) hs hl
      hf rfl rfl hv
  case chain =>
    intro x rest d p hph hv hq hkx hd hdir hprof hend hpaused hin hpend hor
    have he := eotLimitReached_eq_false hshort
    have hdr : distanceReached m (s.tr t).engine.v.natAbs = true := by simp [distanceReached, hk, hr, hle]
    have hl := limitTests_chain hm (.inr hph) hcause he hdr
      (chainable_eq_some hq hkx hd hdir hprof hend hpaused hcause hin hpend)
    rw [chain_eq hq hk hkx hr hdir hend] at hl
    have htr : ((monitorChain t m.direction (s.setTr t
        { s.tr t with queue := rest, motion := some (chained m x d r) })).tr t) =
        { s.tr t with queue := rest, motion := some (chained m x d r) } := by
      rw [State.tr_congr (monitorChain_transports ..), State.tr_setTr_self]
    have hrun := runTasks_cruises (s := sending (fun q => s.endingOf t q m 0 none) (monitorChain t m.direction
      (s.setTr t { s.tr t with queue := rest, motion := some (chained m x d r) }))) (t := t) (m := chained m x d r)
      (by rw [tr_sending, htr]) (by rw [tr_sending, htr]; exact hph) (by rw [tr_sending, htr]; exact hv) 4093
    rw [exec_rampStep_parts hh (moving_of (.inr hph)) hs, runTasks_succ, handle, hl]
    refine ⟨_, hrun, by rw [monitorChain_eq]; rfl, fun q => ?_⟩
    rw [port_sending, monitorChain_eq]
    change (s.port q).sent _ = _
    by_cases hqp : q = p
    · simp [Port.sent, State.endingOf, hor, hk, hr, hqp]
    · simp [Port.sent, State.endingOf, hor, hqp, Ne.symm hqp]

end Sys2Proof.OrderQueue
end

section
/-! SUPPORT. What the rests of the capstan do (R51, R60, R93 to R96, R148 to R154), and the statement about them. -/

namespace Sys2Proof.OrderQueue

open Sys2Proof Sys2Proof.Machine

/-! ### Endings at a rest -/

/-- A hand-off that ends in an ending with nothing left in the queue, at the end of an event (R32, R40). -/
theorem runTasks_ends {t : TransportId} {k : Task} {s w : State} (hk : handle k w = afterEnding t s)
    (hc : (s.tr t).condition = .loaded) (hp : (s.tr t).phase = .stopped) (hq : (s.tr t).queue = []) (n : Nat) :
    runTasks (n + 4) [k] w = .next (reviewVacuum (s.relieved t)) := by
  rw [runTasks_succ, hk]
  simp only [afterEnding, List.append_nil, List.cons_append, List.nil_append]
  rw [runTasks_takeTest_empty hq, runTasks_idleReport (idle_of_stopped hc hp hq), runTasks_vacuumReview, runTasks_nil]

/-- An order that ends at a rest with nothing to serve leaves the transport STOPPED, its pending set dealt with (R93). -/
theorem endAtRest_stops {t : TransportId} {m : Motion} {st : Status} {s : State}
    (hn : ((s.tr t).phase == .holdDecel && (s.tr t).hold.hasCause) = false) :
    endAtRest t m st s = afterEnding t (sending (fun q => s.endingOf t q m st.code none) ((s.setTr t { s.tr t with
      phase := .stopped, paused := (s.tr t).paused || (s.tr t).hold.pending.pause
      hold := { (s.tr t).hold with pending := noRanks } }).orderGone t)) := by
  simp only [endAtRest, hn, Bool.false_eq_true, if_false, finishOrder_eq, dropAtEnding, tr_sending, setTr_sending,
    setPhase_sending, setPhase_setTr, Transport.dropAtEnding]
  rw [setTr_orderGone, tr_orderGone]
  simp only [State.orderGone, State.tr_setTr_self, State.setTr_setTr]
  rfl

/-- An order that ends at a rest with a cause to serve leaves its context to the hold (R96). -/
theorem endAtRest_held {t : TransportId} {m : Motion} {st : Status} {s : State}
    (hn : ((s.tr t).phase == .holdDecel && (s.tr t).hold.hasCause) = true) :
    endAtRest t m st s =
      { state := sending (fun q => s.endingOf t q m st.code none) (s.orderGone t), now := [.holdAtRest t] } := by
  simp only [endAtRest, hn, finishOrder_eq, if_true]

/-- What the context push puts into slot 1: the motion, or an empty context where its order has ended (R87). -/
def slotFor (m : Option Motion) : Slot1 :=
  match m with
  | some m => .saved m
  | none => .emptyContext

theorem pushContext_eq (t : TransportId) (s : State) : pushContext t s = s.setTr t { s.tr t with
    phase := .held, motion := none, engine := { (s.tr t).engine with workTop := none }
    hold := { (s.tr t).hold with slot1 := slotFor (s.tr t).motion } } := by
  cases hm : (s.tr t).motion <;> simp [pushContext, hm, Transport.emptyMotion, slotFor]

/-- A lone hold cause enters service at a rest over the motion or, where the order has ended, over an empty context
(R87, R88, R95, R96). -/
theorem runTasks_holdAtRest {t : TransportId} {s : State} {c : Rank} (hh : (s.tr t).hasPhase = true)
    (hc : (s.tr t).hold = { idleHold with cause := some c }) (hr : c = .sag → s.vacuum.ready = false) (n : Nat) :
    runTasks (n + 3) [.holdAtRest t] s = .next (s.setTr t { s.tr t with
      phase := .held, motion := none, engine := { (s.tr t).engine with workTop := none }
      hold := { idleHold with
        slot1 := slotFor (s.tr t).motion, inService := noRanks.put c true, active := some c
        timer := if c = .loopGuard then some (1000 * (s.servoOf t).recoveryLimit) else none } }) := by
  have hready : (c == .sag && s.vacuum.ready) = false := by
    by_cases hs : c = .sag
    · simp [hr hs]
    · simp [hs]
  have hrest : holdAtRest t s =
      { state := s.setTr t { s.tr t with
          phase := .held, motion := none, engine := { (s.tr t).engine with workTop := none }
          hold := { idleHold with slot1 := slotFor (s.tr t).motion } }
        now := [.enterService t c, .outrank t] } := by
    have hcause : (s.tr t).hold.cause = some c := by rw [hc]
    simp only [holdAtRest, hh, hcause, pushContext_eq, State.setHold, State.tr_setTr_self, State.setTr_setTr]
    rw [hc]
    rfl
  rw [runTasks_succ, handle, hrest]
  simp only [List.append_nil]
  rw [runTasks_succ, handle]
  have hnone : (noRanks : RankSet).mostUrgent = none := rfl
  simp [enterService, hready, State.setHold, handle, outrank, idleHold, hnone, Reaction.idle, ms, Nat.mul_comm]

/-! ### LOAD -/

theorem leavesUnreferenced_iff (st : Status) : st.leavesUnreferenced = true ↔ st.code = 4 ∨ st.code = 0x25 := by
  cases st <;> decide

theorem unreferenceAtEnding_eq (t : TransportId) (st : Status) (s : State) :
    unreferenceAtEnding t st s = s.loadMarked t st.code := by
  by_cases h : st.leavesUnreferenced = true
  · simp only [unreferenceAtEnding, State.loadMarked, h, if_true, (leavesUnreferenced_iff st).mp h]; rfl
  · rw [State.loadMarked, if_neg ((leavesUnreferenced_iff st).not.mp h), unreferenceAtEnding, if_neg h]

/-- A LOAD that ends LOADED with nothing in slot 1 (R149). -/
theorem endLoadLoaded_eq {t : TransportId} {st : Status} {s : State} (hs : (s.tr t).hold.slot1 = .free) :
    endLoadLoaded t st s = afterEnding t
      (sending (fun q => (s.loadMarked t st.code).loadEnding t q st.code none) (s.loadEnded t st.code)) := by
  have hs' : ((s.loadMarked t st.code).tr t).hold.slot1 = .free := by
    unfold State.loadMarked; split <;> simp [hs]
  simp [endLoadLoaded, unreferenceAtEnding_eq, placeLoadEnding_eq, Transport.emptyMotion, hs', State.loadEnded]

/-! ### Sub-steps -/

/-- After REVERSE STOP, or in CLEARING with the marker cleared, a REWIND or UNLOAD goes on in FORWARD CREEP (R152). -/
theorem nextSubStep_creeps {tr : Transport} {m : Motion} (hm : tr.motion = some m)
    (h : tr.load.step = some .reverseStop ∨ (tr.load.step = some .clearing ∧ tr.load.markerCleared = true)) :
    tr.nextSubStep m = { tr with
      motion := some { m with direction := .forward }
      load := { tr.load with step := some .forwardCreep, searchCount := 0 }
      engine := { tr.engine with workTop := some m.copy.creepSpeed } } := by
  obtain h | ⟨h, hc⟩ := h
  · simp [Transport.nextSubStep, h, Transport.forwardCreep, Transport.setCurrent, hm]
  · simp [Transport.nextSubStep, h, hc, Transport.forwardCreep, Transport.setCurrent, hm]

theorem nextSubStep_stays {tr : Transport} {m : Motion}
    (h : ¬ (tr.load.step = some .reverseStop ∨ (tr.load.step = some .clearing ∧ tr.load.markerCleared = true))) :
    tr.nextSubStep m = tr := by
  unfold Transport.nextSubStep
  split <;> simp_all

theorem hasPhase_of_runs {tr : Transport} {m : Motion} (hr : (tr.condition = .loaded ∧ m.kind ≠ .load) ∨
    (tr.condition = .loading ∧ tr.load.step = some .search ∧ m.kind = .load)) : tr.hasPhase = true := by
  obtain ⟨hc, -⟩ | ⟨hc, hl, -⟩ := hr
  · simp [Transport.hasPhase, hc]
  · simp [Transport.hasPhase, Transport.searching, hc, hl]

/-- The transport with which a motion at rest goes on: that of a REWIND or UNLOAD with its sub-step brought up to date
(R95, R152). -/
def onward (tr : Transport) (m : Motion) : Transport :=
  if m.kind = .rewind ∨ m.kind = .unload then tr.nextSubStep m else tr

/-- The motion of a REWIND or UNLOAD goes on in FORWARD CREEP (R152). -/
def Creeps (tr : Transport) (m : Motion) : Prop :=
  (m.kind = .rewind ∨ m.kind = .unload) ∧ m.endReason = none ∧
    (tr.load.step = some .reverseStop ∨ (tr.load.step = some .clearing ∧ tr.load.markerCleared = true))

theorem onward_creeps {tr : Transport} {m : Motion} (hm : tr.motion = some m) (h : Creeps tr m) :
    onward tr m = { tr with
      motion := some { m with direction := .forward }
      load := { tr.load with step := some .forwardCreep, searchCount := 0 }
      engine := { tr.engine with workTop := some m.copy.creepSpeed } } := by
  obtain ⟨hk, -, hstep⟩ := h
  rw [onward, if_pos hk, nextSubStep_creeps hm hstep]

theorem onward_stays {tr : Transport} {m : Motion} (he : m.kind ≠ .load → m.endReason = none) (h : ¬ Creeps tr m) :
    onward tr m = tr := by
  unfold onward
  split
  · rename_i hk
    have hkl : m.kind ≠ .load := by obtain hk | hk := hk <;> simp [hk]
    exact nextSubStep_stays fun hstep => h ⟨hk, he hkl, hstep⟩
  · rfl

theorem onward_hold {tr : Transport} {m : Motion} (hm : tr.motion = some m) (he : m.kind ≠ .load → m.endReason = none) :
    (onward tr m).hold = tr.hold := by
  by_cases h : Creeps tr m
  · rw [onward_creeps hm h]
  · rw [onward_stays he h]

theorem onward_motion {tr : Transport} {m : Motion} (hm : tr.motion = some m)
    (he : m.kind ≠ .load → m.endReason = none) : ∃ next, (onward tr m).motion = some next ∧ next.kind = m.kind ∧
      (onward tr m).sense.position = tr.sense.position ∧ (m.kind = .move → onward tr m = tr ∧ next = m) := by
  by_cases h : Creeps tr m
  · refine ⟨{ m with direction := .forward }, by rw [onward_creeps hm h], rfl, by rw [onward_creeps hm h],
      fun hk => ?_⟩
    obtain ⟨hk' | hk', -⟩ := h <;> rw [hk] at hk' <;> cases hk'
  · rw [onward_stays he h]
    exact ⟨m, hm, rfl, rfl, fun _ => ⟨rfl, rfl⟩⟩

theorem onward_hasPhase {tr : Transport} {m : Motion} (hm : tr.motion = some m)
    (he : m.kind ≠ .load → m.endReason = none)
    (hr : (tr.condition = .loaded ∧ m.kind ≠ .load) ∨
      (tr.condition = .loading ∧ tr.load.step = some .search ∧ m.kind = .load)) : (onward tr m).hasPhase = true := by
  by_cases h : Creeps tr m
  · have hc : tr.condition = .loaded := by
      obtain ⟨hc, -⟩ | ⟨-, -, hk⟩ := hr
      · exact hc
      · obtain ⟨hk' | hk', -⟩ := h <;> rw [hk] at hk' <;> cases hk'
    rw [onward_creeps hm h]
    simp [Transport.hasPhase, hc]
  · rw [onward_stays he h]
    exact hasPhase_of_runs hr

/-- The working top speed at a start from rest of a sequence motion or a search (R62, R147). -/
theorem topAtStart_eq {s : State} {t : TransportId} {tr : Transport} {m : Motion} (hk : m.kind ≠ .move)
    (hp : tr.sense.position = (s.tr t).sense.position) :
    tr.topAtStart m (s.servoOf t).approach = some (s.topFor t m tr.load.step) := by
  cases hkind : m.kind with
  | move => exact absurd hkind hk
  | load => simp [Transport.topAtStart, startSpeed, State.topFor, hkind]
  | rewind | unload =>
    simp only [Transport.topAtStart, startSpeed, State.topFor, hkind, Transport.position, hp, Profile.creepSpeed]
    cases tr.load.step with
    | none => simp
    | some x => cases x <;> simp

/-! ### What a rest comes down to -/

theorem hasCause_of {x : Hold} {c : Rank} (h : x = { idleHold with cause := some c }) : x.hasCause = true := by
  rw [h]; rfl

theorem hasCause_eq_false {x : Hold} (h : x.cause = none ∧ x.pending = noRanks) : x.hasCause = false := by
  simp [Hold.hasCause, h.1, h.2]

section
variable {s : State} {t : TransportId} {m : Motion}

/-- A rest with a hold cause to serve leaves the motion to the Hold Controller (R95). -/
theorem clearRest_held (hm : (s.tr t).motion = some m) (hp : (s.tr t).phase = .holdDecel)
    (hc : (s.tr t).hold.hasCause = true)
    (he : if m.kind = .load then m.endReason ≠ some .halt else m.endReason = none) :
    clearRest t m s = { state := s.setTr t (onward (s.tr t) m), now := [.holdAtRest t] } := by
  have he0 : m.kind ≠ .load → m.endReason = none := fun hk => by rwa [if_neg hk] at he
  have hon : (onward (s.tr t) m).hold.hasCause = true := by rw [onward_hold hm he0, hc]
  cases hk : m.kind with
  | load =>
    have he' : m.endReason ≠ some .halt := by simpa [hk] using he
    simp [clearRest, hk, searchRest, he', hp, hc, holdOrRestart, onward]
  | move =>
    have he' : m.endReason = none := by simpa [hk] using he
    simp [clearRest, hk, he', hp, hc, holdOrRestart, onward]
  | rewind | unload =>
    have he' : m.endReason = none := by simpa [hk] using he
    simp [clearRest, hk, he', sequenceRest, hp, hc, holdOrRestart]
    simpa [onward, hk] using hon

/-- A rest with nothing to serve and nothing to end by restarts the motion (R95). -/
theorem clearRest_restarts (hm : (s.tr t).motion = some m) (hp : (s.tr t).phase = .holdDecel ∨ m.kind ≠ .move)
    (hc : (s.tr t).hold.hasCause = false) (ho : (s.tr t).load.outcome ≠ .limit)
    (hl : m.kind = .load → (s.tr t).load.outcome = .none)
    (he : if m.kind = .load then m.endReason ≠ some .halt else m.endReason = none) :
    clearRest t m s = { state := s.setTr t (onward (s.tr t) m)
                        now := [if m.kind = .move then .resume t else .startFromRest t] } := by
  have he0 : m.kind ≠ .load → m.endReason = none := fun hk => by rwa [if_neg hk] at he
  have hon : (onward (s.tr t) m).hold.hasCause = false := by rw [onward_hold hm he0, hc]
  cases hk : m.kind with
  | load =>
    have he' : m.endReason ≠ some .halt := by simpa [hk] using he
    simp [clearRest, hk, searchRest, he', hl hk, hc, holdOrRestart, onward]
  | move =>
    have he' : m.endReason = none := by simpa [hk] using he
    have hp' : (s.tr t).phase = .holdDecel := by simpa [hk] using hp
    simp [clearRest, hk, he', hp', hc, holdOrRestart, onward]
  | rewind | unload =>
    have he' : m.endReason = none := by simpa [hk] using he
    have hon' : ((s.tr t).nextSubStep m).hold.hasCause = false := by simpa [onward, hk] using hon
    simp [clearRest, hk, he', sequenceRest, ho, holdOrRestart, hon', onward]

/-- The restart of a motion that waits for vacuum again, here with READY false (R43, R62, R99). -/
theorem runTasks_restart (hm : (s.tr t).motion = some m) (hr : s.vacuum.ready = false)
    (hmove : m.kind = .move →
      (∀ r, m.r = some r → 0 < r) ∧ (∀ code, ¬ s.LimitMet t m.direction code) ∧ m.endReason = none)
    (n : Nat) :
    runTasks (n + 2) [if m.kind = .move then .resume t else .startFromRest t] s = .next (s.setTr t { s.tr t with
      phase := .waitVacuum
      engine := { (s.tr t).engine with workTop := (s.tr t).topAtStart m (s.servoOf t).approach } }) := by
  have hstart := startFromRest_waits hm hr
  by_cases hk : m.kind = .move
  · obtain ⟨hd, hlim, he⟩ := hmove hk
    rw [if_pos hk, runTasks_succ, handle, resume_move hm hk (by simp [he]) hlim hd]
    simp [handle, hstart, Reaction.idle]
  · rw [if_neg hk]
    simp [handle, hstart, Reaction.idle]

/-- The code of an order that ends at a rest by its end reason (R30). -/
theorem restStatus_code (m : Motion) {ph : Phase} (hp : ph = .decel ∨ ph = .holdDecel) (r : EndReason) :
    (m.restStatus ph r).code = (match r with
      | .distance => 0
      | .stop => if m.kind = .move ∧ m.r.getD 0 ≤ 0 ∧ ph = .decel then 0 else 1
      | .eot => 3
      | .bot => 2
      | .tach => 5
      | .halt => 0x10 : Byte) := by
  cases r with
  | stop =>
    obtain rfl | rfl := hp
    · simp [Motion.restStatus, stopStatus_code]
    · simp [Motion.restStatus, Status.code]
  | _ => rfl

theorem rest_clear (hm : (s.tr t).motion = some m) (ht : (s.tr t).engine.tach = .clear) :
    rest t s = clearRest t m s := by
  simp [rest, hm, ht]

theorem clearTach_clear (h : (s.tr t).engine.tach = .clear) : clearTach t s = s := by
  have : ({ s.tr t with engine := { (s.tr t).engine with tach := .clear } } : Transport) = s.tr t := by rw [← h]
  simp [clearTach, this]

/-- A queued order with an end reason, or with a count seen since a tach loss, ends at the rest (R51, R60). -/
theorem rest_orderEnds {r : EndReason} (hm : (s.tr t).motion = some m) (hk : m.kind ≠ .load)
    (h : (s.tr t).engine.tach = .clear ∧ m.endReason = some r ∧ (m.kind = .unload → r ≠ .bot) ∨
      (s.tr t).engine.tach = .countSeen ∧ r = m.endReason.getD .tach) :
    rest t s = endAtRest t m (m.restStatus (s.tr t).phase r) (clearTach t s) := by
  obtain ⟨htach, he, hb⟩ | ⟨htach, rfl⟩ := h
  · rw [clearTach_clear htach]
    cases hkind : m.kind with
    | load => exact absurd hkind hk
    | move | rewind => simp [rest, hm, htach, clearRest, hkind, he, orderRest]
    | unload => simp [rest, hm, htach, clearRest, hkind, he, orderRest, hb hkind]
  · cases hkind : m.kind with
    | load => exact absurd hkind hk
    | _ => simp [rest, hm, htach, countSeenRest, hkind, clearTach]

/-- A REWIND or UNLOAD whose search has reached its limit ends NO BOT at a rest with nothing to serve (R153). -/
theorem rest_limitEnds (hm : (s.tr t).motion = some m) (ht : (s.tr t).engine.tach = .clear)
    (hk : m.kind = .rewind ∨ m.kind = .unload) (he : m.endReason = none) (ho : (s.tr t).load.outcome = .limit)
    (hn : ((s.tr t).phase == .holdDecel && (s.tr t).hold.hasCause) = false) :
    rest t s = endAtRest t m .noBot s := by
  obtain hk | hk := hk <;> simp only [rest_clear hm ht, clearRest, hk, he, sequenceRest, ho, hn] <;> rfl

/-- The search of a LOAD ends LOADED at a rest with nothing to serve: by its outcome, or with a count seen since a tach loss
by the outcome before it (R148). -/
theorem rest_searchEnds {o : SearchOutcome} (hm : (s.tr t).motion = some m) (hk : m.kind = .load)
    (he : m.endReason ≠ some .halt) (hn : ((s.tr t).phase == .holdDecel && (s.tr t).hold.hasCause) = false)
    (h : (s.tr t).engine.tach = .clear ∧ o = (s.tr t).load.outcome ∧ o ≠ .none ∨
      (s.tr t).engine.tach = .countSeen ∧ o = (s.tr t).load.tachOutcome) :
    rest t s = endLoadLoaded t (if o = .none then .tachInterrupted else o.status) (dropAtEnding t (clearTach t s)) := by
  obtain ⟨htach, rfl, ho⟩ | ⟨htach, rfl⟩ := h
  · simp only [rest, hm, htach, clearRest, hk, searchRest, beq_iff_eq, he, ho, hn, endSearchAtRest, if_false,
      Bool.false_eq_true, clearTach_clear htach]
  · have hn' : (((clearTach t s).tr t).phase == .holdDecel && ((clearTach t s).tr t).hold.hasCause) = false := by
      simpa [clearTach] using hn
    have ho : ((clearTach t s).tr t).load.tachOutcome = (s.tr t).load.tachOutcome := by simp [clearTach]
    simp only [rest, hm, htach, countSeenRest, hk, searchCountSeen, beq_iff_eq, he, ho, hn', endSearchAtRest, if_false,
      Bool.false_eq_true]

/-- The halted search of a LOAD ends ABORTED and UNLOADED at its rest (R150). -/
theorem rest_searchHalted (hm : (s.tr t).motion = some m) (hk : m.kind = .load) (he : m.endReason = some .halt)
    (htach : (s.tr t).engine.tach ≠ .detected) : rest t s = endLoadUnloaded t .aborted none (clearTach t s) := by
  cases ht : (s.tr t).engine.tach with
  | detected => exact absurd ht htach
  | clear => simp [rest, hm, ht, clearRest, hk, searchRest, he, clearTach_clear ht]
  | countSeen => simp [rest, hm, ht, countSeenRest, hk, searchCountSeen, he]

end

/-! ### Endings at a rest, run to the end of the event -/

/-- The transport at a rest: velocity 0 and both timers stopped (R51). -/
def stilled (tr : Transport) : Transport :=
  { tr with engine := { tr.engine with v := 0, stepTimer := false, tachTimer := none } }

/-- The transport at a rest that ends its motion, with the tach state CLEAR (R60). -/
def cleared (tr : Transport) : Transport := { stilled tr with engine := { (stilled tr).engine with tach := .clear } }

theorem clearTach_stilled (s : State) (t : TransportId) :
    clearTach t (s.setTr t (stilled (s.tr t))) = s.setTr t (cleared (s.tr t)) := by
  simp only [clearTach, State.tr_setTr_self, State.setTr_setTr]
  rfl

section
variable {s w : State} {t : TransportId} {m : Motion} {st : Status} {x : Transport}

/-- An order that ends at a rest with nothing to serve and with an empty queue (R32, R40, R93). -/
theorem runTasks_rest_stops (hr : rest t w = endAtRest t m st (s.setTr t x))
    (hn : (x.phase == .holdDecel && x.hold.hasCause) = false) (hc : x.condition = .loaded) (hq : x.queue = [])
    (hp : x.sense.position = (s.tr t).sense.position) (n : Nat) :
    ∃ u : State, runTasks (n + 4) [.rest t] w = .next (reviewVacuum (u.relieved t)) ∧
      u = { (s.setTr t { x with
        phase := .stopped, paused := x.paused || x.hold.pending.pause
        hold := { x.hold with pending := noRanks } }).orderGone t with ports := u.ports } ∧
      ∀ q, u.port q = (s.port q).sent (s.endingOf t q m st.code none) := by
  have hend := endAtRest_stops (s := s.setTr t x) (m := m) (st := st) (by rw [State.tr_setTr_self]; exact hn)
  simp only [State.tr_setTr_self, State.setTr_setTr, endingOf_setTr s t _ m _ none hp] at hend
  refine ⟨_, runTasks_ends (k := .rest t) (hr.trans hend) ?_ ?_ ?_ n, rfl, fun q => ?_⟩
  · rw [tr_sending, tr_orderGone, State.tr_setTr_self]; exact hc
  · rw [tr_sending, tr_orderGone, State.tr_setTr_self]
  · rw [tr_sending, tr_orderGone, State.tr_setTr_self]; exact hq
  · rw [port_sending]; rfl

/-- An order that ends at a HOLD DECEL rest with a hold cause leaves an empty context to it (R96). -/
theorem runTasks_rest_held {c : Rank} (hr : rest t w = endAtRest t m st (s.setTr t x)) (hp : x.phase = .holdDecel)
    (hh : x.hold = { idleHold with cause := some c }) (hc : x.condition = .loaded)
    (hv : c = .sag → s.vacuum.ready = false) (hpos : x.sense.position = (s.tr t).sense.position) (n : Nat) :
    ∃ u : State, runTasks (n + 4) [.rest t] w = .next u ∧
      u = { (s.setTr t { x with
        phase := .held
        hold := { idleHold with
          slot1 := .emptyContext, inService := noRanks.put c true, active := some c
          timer := if c = .loopGuard then some (1000 * (s.servoOf t).recoveryLimit) else none } }).orderGone t with
        ports := u.ports } ∧
      ∀ q, u.port q = (s.port q).sent (s.endingOf t q m st.code none) := by
  have hend := endAtRest_held (s := s.setTr t x) (t := t) (m := m) (st := st)
    (by rw [State.tr_setTr_self, hp, hh]; rfl)
  simp only [endingOf_setTr s t _ m _ none hpos] at hend
  have hhold := runTasks_holdAtRest
    (s := sending (fun q => s.endingOf t q m st.code none) ((s.setTr t x).orderGone t)) (t := t) (c := c)
    (by rw [tr_sending, tr_orderGone, State.tr_setTr_self]; simp [Transport.hasPhase, hc])
    (by rw [tr_sending, tr_orderGone, State.tr_setTr_self]; exact hh) hv n
  rw [tr_sending, tr_orderGone, State.tr_setTr_self, setTr_sending, setTr_orderGone, State.setTr_setTr] at hhold
  rw [runTasks_succ, handle, hr, hend]
  refine ⟨_, hhold, ?_, fun q => ?_⟩
  · simp only [State.orderGone, State.tr_setTr_self, State.setTr_setTr]; rfl
  · rw [port_sending]; rfl

/-- The transport with its position record as a LOAD that ends LOADED with this code leaves it (R149). -/
def marked (tr : Transport) (c : Byte) : Transport :=
  if c = 4 ∨ c = 0x25 then
    { tr with sense := { tr.sense with position := { tr.sense.position with referenced := false } } }
  else tr

theorem loadMarked_eq (s : State) (t : TransportId) (c : Byte) : s.loadMarked t c = s.setTr t (marked (s.tr t) c) := by
  by_cases h : c = 4 ∨ c = 0x25
  · simp only [State.loadMarked, marked, if_pos h]
  · simp only [State.loadMarked, marked, if_neg h, State.setTr_tr]

theorem marked_keeps (tr : Transport) (c : Byte) :
    (marked tr c).queue = tr.queue ∧ (marked tr c).load = tr.load := by
  unfold marked
  split <;> exact ⟨rfl, rfl⟩

theorem marked_position {a b : Transport} (h : a.sense.position = b.sense.position) (c : Byte) :
    (marked a c).sense.position = (marked b c).sense.position := by
  by_cases hc : c = 4 ∨ c = 0x25
  · simp only [marked, if_pos hc, h]
  · simpa only [marked, if_neg hc] using h

/-- The response of a LOAD shows the position record as its ending leaves it (R149). -/
theorem loadMarked_loadEnding (c : Byte) (hp : x.sense.position = (s.tr t).sense.position)
    (hl : x.load.record = (s.tr t).load.record) (q : PortId) :
    ((s.setTr t x).loadMarked t c).loadEnding t q c none = (s.loadMarked t c).loadEnding t q c none := by
  rw [loadMarked_eq, loadMarked_eq, State.tr_setTr_self, State.setTr_setTr]
  refine loadEnding_congr (s.setTr t (marked (s.tr t) c)) (s.setTr t (marked x c)) ?_ ?_ (fun _ => rfl) q c none
  · rw [State.tr_setTr_self, State.tr_setTr_self]
    exact marked_position hp c
  · rw [State.tr_setTr_self, State.tr_setTr_self, (marked_keeps _ c).2, (marked_keeps _ c).2, hl]

/-- The search of a LOAD that ends LOADED at a rest with an empty queue (R149). -/
theorem runTasks_rest_loads (hr : rest t w = endLoadLoaded t st (s.setTr t x)) (hs : x.hold.slot1 = .free)
    (hq : x.queue = []) (hp : x.sense.position = (s.tr t).sense.position) (hl : x.load.record = (s.tr t).load.record)
    (n : Nat) :
    ∃ u : State, runTasks (n + 4) [.rest t] w = .next (reviewVacuum (u.relieved t)) ∧
      u = { (s.setTr t x).loadEnded t st.code with ports := u.ports } ∧
      ∀ q, u.port q = (s.port q).sent ((s.loadMarked t st.code).loadEnding t q st.code none) := by
  have hend := endLoadLoaded_eq (s := s.setTr t x) (t := t) (st := st) (by rw [State.tr_setTr_self]; exact hs)
  simp only [loadMarked_loadEnding _ hp hl] at hend
  refine ⟨_, runTasks_ends (k := .rest t) (hr.trans hend) ?_ ?_ ?_ n, rfl, fun q => ?_⟩
  · rw [tr_sending, State.loadEnded, State.tr_setTr_self]
  · rw [tr_sending, State.loadEnded, State.tr_setTr_self]
  · rw [tr_sending, State.loadEnded, State.tr_setTr_self, loadMarked_eq, State.tr_setTr_self, State.tr_setTr_self]
    exact (marked_keeps x _).1.trans hq
  · rw [port_sending, State.loadEnded, loadMarked_eq]; rfl

/-- The halted search of a LOAD ends at its rest, and the transport enters UNLOADED (R150). -/
theorem runTasks_rest_unloads (hr : rest t w = endLoadUnloaded t .aborted none (s.setTr t x))
    (hp : x.sense.position = (s.tr t).sense.position) (hl : x.load.record = (s.tr t).load.record) (n : Nat) :
    ∃ u : State, runTasks (n + 3) [.rest t] w = .next (reviewVacuum (u.relieved t)) ∧
      u = { s.setTr t x.emptyMotion.unloaded with ports := u.ports } ∧
      ∀ q, u.port q = (s.port q).sent (s.loadEnding t q 0x10 none) := by
  have hend := endLoadUnloaded_eq t .aborted (s.setTr t x)
  simp only [loadEnding_setTr s t _ _ none hp hl, State.tr_setTr_self, State.setTr_setTr] at hend
  rw [runTasks_succ, handle, hr, hend]
  refine ⟨sending (fun q => s.loadEnding t q 0x10 none) (s.setTr t x.emptyMotion.unloaded), ?_, rfl,
    fun q => by rw [port_sending]; rfl⟩
  simp only [List.nil_append]
  rw [runTasks_idleReport (by rw [tr_sending, State.tr_setTr_self]; rfl), runTasks_vacuumReview, runTasks_nil]
  rfl

end

/-- The rest of an UNLOAD with end reason BOT begins WIND (R154, log 18). -/
theorem runTasks_rest_winds {s : State} {t : TransportId} {m : Motion} (hm : (s.tr t).motion = some m)
    (hk : m.kind = .unload) (he : m.endReason = some .bot) (htach : (s.tr t).engine.tach = .clear) (n : Nat) :
    runTasks (n + 2) [.rest t] s = .next (reviewVacuum ((s.setTr t { s.tr t with
      paused := if (s.tr t).phase = .decel then (s.tr t).paused || (s.tr t).hold.pending.pause else (s.tr t).paused
      }).windBegun t)) := by
  have hr : rest t s = windStart t (if (s.tr t).phase = .decel then dropAtEnding t s else s) := by
    simp [rest, hm, htach, clearRest, hk, he, orderRest]
  have hw : windStart t (if (s.tr t).phase = .decel then dropAtEnding t s else s) =
      { state := (s.setTr t { s.tr t with
          paused := if (s.tr t).phase = .decel then (s.tr t).paused || (s.tr t).hold.pending.pause else (s.tr t).paused
          }).windBegun t
        later := [.vacuumReview] } := by
    by_cases hp : (s.tr t).phase = .decel
    · simp [windStart, hp, dropAtEnding, Transport.dropAtEnding, State.windBegun, ms, Nat.mul_comm]
    · simp [windStart, hp, State.windBegun, ms, Nat.mul_comm]
  rw [runTasks_succ, handle, hr, hw]
  simp only [List.nil_append]
  rw [runTasks_vacuumReview, runTasks_nil]

/-- In a deceleration part 1 of a ramp step tests nothing, and parts 2 and 3 lower the velocity (R47, R50, R51). -/
theorem exec_rampStep_slows {s : State} {t : TransportId} {m : Motion} (hm : (s.tr t).motion = some m)
    (hs : (s.tr t).engine.stepTimer = true) (hh : (s.tr t).hasPhase = true)
    (hp : (s.tr t).phase = .decel ∨ (s.tr t).phase = .holdDecel) (hv : m.copy.aDec < (s.tr t).engine.v.natAbs) :
    exec (.rampStep t) s = .next
      (s.setTr t (atVelocity (s.tr t) (velocityOf m.direction ((s.tr t).engine.v.natAbs - m.copy.aDec)))) := by
  have hl : limitTests t s = Reaction.idle s := by obtain hp | hp := hp <;> simp [limitTests, hm, hp]
  rw [exec_rampStep_parts hh (by obtain hp | hp := hp <;> simp [hp, Phase.moving]) hs, runTasks_succ, handle, hl]
  exact runTasks_slows hm hp hv 4093

/-- Nothing is to be served at a DECEL rest, nor at a HOLD DECEL rest without a cause (R93, R95). -/
theorem nothing_held {tr : Transport} (h : tr.phase = .decel ∨
    (tr.phase = .holdDecel ∧ tr.hold.cause = none ∧ tr.hold.pending = noRanks)) :
    (tr.phase == .holdDecel && tr.hold.hasCause) = false := by
  obtain hp | ⟨-, hn⟩ := h
  · simp [hp]
  · simp [hasCause_eq_false hn]

theorem topFor_setTr {s : State} {t : TransportId} {x : Transport} (hp : x.sense.position = (s.tr t).sense.position)
    (m : Motion) (step : Option SeqStep) : (s.setTr t x).topFor t m step = s.topFor t m step := by
  simp [State.topFor, hp]

/-- A ramp step that comes to rest hands the stilled transport to the rest (R51). -/
theorem exec_rampStep_stilled {s : State} {t : TransportId} {m : Motion} (hm : (s.tr t).motion = some m)
    (hs : (s.tr t).engine.stepTimer = true) (hh : (s.tr t).hasPhase = true)
    (hp : (s.tr t).phase = .decel ∨ (s.tr t).phase = .holdDecel) (hv : (s.tr t).engine.v.natAbs ≤ m.copy.aDec) :
    exec (.rampStep t) s = runTasks 4093 [.rest t] (s.setTr t (stilled (s.tr t))) := exec_rampStep_rests hm hs hh hp hv

section
variable {s : State} {t : TransportId} {m : Motion} (hm : (s.tr t).motion = some m)
  (ht : (s.tr t).engine.tach = .clear) (hr : ((s.tr t).condition = .loaded ∧ m.kind ≠ .load) ∨
    ((s.tr t).condition = .loading ∧ (s.tr t).load.step = some .search ∧ m.kind = .load))
  (he : if m.kind = .load then m.endReason ≠ some .halt else m.endReason = none)
include hm ht hr he

/-- A motion at rest with a lone hold cause is saved, and the cause enters service (R95). -/
theorem runTasks_rest_saves {c : Rank} (hp : (s.tr t).phase = .holdDecel)
    (hh : (s.tr t).hold = { idleHold with cause := some c }) (hv : c = .sag → s.vacuum.ready = false) (n : Nat) :
    runTasks (n + 4) [.rest t] s = .next (s.setTr t { onward (s.tr t) m with
      phase := .held, motion := none, engine := { (onward (s.tr t) m).engine with workTop := none }
      hold := { idleHold with
        slot1 := slotFor (onward (s.tr t) m).motion, inService := noRanks.put c true, active := some c
        timer := if c = .loopGuard then some (1000 * (s.servoOf t).recoveryLimit) else none } }) := by
  have he0 : m.kind ≠ .load → m.endReason = none := fun hk => by rwa [if_neg hk] at he
  rw [runTasks_succ, handle, rest_clear hm ht, clearRest_held hm hp (hasCause_of hh) he]
  have hhold := runTasks_holdAtRest (s := s.setTr t (onward (s.tr t) m)) (t := t) (c := c)
    (by rw [State.tr_setTr_self]; exact onward_hasPhase hm he0 hr)
    (by rw [State.tr_setTr_self, onward_hold hm he0, hh]) hv n
  rw [State.tr_setTr_self, State.setTr_setTr] at hhold
  exact hhold

/-- A motion at rest with nothing to serve and nothing to end by waits for vacuum again, with READY false (R95). -/
theorem runTasks_rest_restarts (hp : (s.tr t).phase = .holdDecel ∨ m.kind ≠ .move)
    (hc : (s.tr t).hold.hasCause = false) (ho : (s.tr t).load.outcome ≠ .limit)
    (hl : m.kind = .load → (s.tr t).load.outcome = .none)
    (hmove : m.kind = .move → (∀ r, m.r = some r → 0 < r) ∧ ∀ code, ¬ s.LimitMet t m.direction code)
    (hv : s.vacuum.ready = false) (n : Nat) :
    runTasks (n + 3) [.rest t] s = .next (s.setTr t { onward (s.tr t) m with
      phase := .waitVacuum
      engine := { (onward (s.tr t) m).engine with
        workTop := if m.kind = .move then (s.tr t).engine.workTop
          else some (s.topFor t ((onward (s.tr t) m).motion.getD m) (onward (s.tr t) m).load.step) } }) := by
  have he0 : m.kind ≠ .load → m.endReason = none := fun hk => by rwa [if_neg hk] at he
  rw [runTasks_succ, handle, rest_clear hm ht, clearRest_restarts hm hp hc ho hl he]
  obtain ⟨next, hnext, hk, hpos, hsame⟩ := onward_motion hm he0
  have h := runTasks_restart (s := s.setTr t (onward (s.tr t) m)) (t := t) (m := next) (by rw [State.tr_setTr_self, hnext])
    hv (fun hkn => by
      obtain ⟨hd, hlim⟩ := hmove (hk ▸ hkn)
      obtain ⟨-, rfl⟩ := hsame (hk ▸ hkn)
      exact ⟨hd, fun c => (limitMet_setTr hpos _ c).not.mpr (hlim c), he0 (by simp [hkn])⟩) n
  rw [hk] at h
  refine h.trans ?_
  rw [State.tr_setTr_self, State.setTr_setTr, hnext, Option.getD_some]
  by_cases hkm : m.kind = .move
  · obtain ⟨hon, rfl⟩ := hsame hkm
    simp only [hon, Transport.topAtStart, hkm, if_true]
  · have htop := topAtStart_eq (s := s) (t := t) (tr := onward (s.tr t) m) (m := next) (by rwa [hk]) hpos
    rw [if_neg hkm, ← htop]
    rfl

end

/-- Settles O46: a ramp step of a deceleration slows down or comes to rest, and each rest by what stands at it. -/
theorem rampStepComesToRest : Obligations.RampStepComesToRest := by
  intro t m s hm hs
  refine ⟨fun hp hr hv => exec_rampStep_slows hm hs (hasPhase_of_runs hr) hp hv, fun hv => ?_⟩
  have rests := fun hh hp => exec_rampStep_stilled hm hs hh hp hv
  have loaded_phase : (s.tr t).condition = .loaded → (s.tr t).hasPhase = true :=
    fun hc => by simp [Transport.hasPhase, hc]
  have htr : (s.setTr t (stilled (s.tr t))).tr t = stilled (s.tr t) := State.tr_setTr_self ..
  have hm' : ((s.setTr t (stilled (s.tr t))).tr t).motion = some m := by rw [htr]; exact hm
  refine ⟨?held, ?restarts, ?winds, ?ends, ?limit, ?loads, ?halted⟩
  case held =>
    rintro c hp ⟨hr, ht, he⟩ hh hv
    have he0 : m.kind ≠ .load → m.endReason = none := fun hk => by rwa [if_neg hk] at he
    have h := runTasks_rest_saves hm' (by rw [htr]; exact ht) (by rw [htr]; exact hr) he (by rw [htr]; exact hp)
      (by rw [htr]; exact hh) hv 4089
    rw [htr, State.setTr_setTr] at h
    rw [rests (hasPhase_of_runs hr) (.inr hp), h]
    by_cases hcr : Creeps (stilled (s.tr t)) m
    · rw [onward_creeps (tr := stilled (s.tr t)) hm hcr]
      unfold Creeps stilled at hcr
      simp only [if_pos hcr]
      rfl
    · rw [onward_stays he0 hcr]
      unfold Creeps stilled at hcr
      simp only [if_neg hcr, stilled, hm]
      rfl
  case restarts =>
    rintro hp ⟨hr, ht, he⟩ hn ho hl hmove hv
    have he0 : m.kind ≠ .load → m.endReason = none := fun hk => by rwa [if_neg hk] at he
    have hph : (s.tr t).phase = .decel ∨ (s.tr t).phase = .holdDecel := hp.elim .inr fun h => .inl h.1
    have hlim := limitMet_setTr (s := s) (t := t) (x := stilled (s.tr t)) rfl m.direction
    have htop := topFor_setTr (s := s) (t := t) (x := stilled (s.tr t)) rfl
    have h := runTasks_rest_restarts hm' (by rw [htr]; exact ht) (by rw [htr]; exact hr) he
      (by rw [htr]; exact hp.imp_right And.right) (by rw [htr]; exact hasCause_eq_false hn) (by rw [htr]; exact ho)
      (by rw [htr]; exact hl) (fun hk => ⟨(hmove hk).1, fun c => (hlim c).not.mpr ((hmove hk).2 c)⟩) hv 4090
    rw [htr, State.setTr_setTr] at h
    rw [rests (hasPhase_of_runs hr) hph, h]
    simp only [htop]
    by_cases hcr : Creeps (stilled (s.tr t)) m
    · rw [onward_creeps (tr := stilled (s.tr t)) hm hcr]
      unfold Creeps stilled at hcr
      simp only [if_pos hcr, Option.getD_some]
      rfl
    · rw [onward_stays he0 hcr]
      unfold Creeps stilled at hcr
      simp only [if_neg hcr, stilled, hm, Option.getD_some]
  case winds =>
    intro hp hc hk he ht
    rw [rests (loaded_phase hc) hp]
    have h := runTasks_rest_winds hm' hk he (by rw [htr]; exact ht) 4091
    rw [htr, State.setTr_setTr] at h
    exact h
  case ends =>
    intro r code hc hk hq h hcode
    have hend := rest_orderEnds (r := r) hm' hk (by rw [htr]; exact h)
    rw [htr, clearTach_stilled] at hend
    have code_of : ∀ {ph : Phase}, ph = .decel ∨ ph = .holdDecel → (s.tr t).phase = ph →
        (m.restStatus ph r).code = code := fun hph he => by
      rw [restStatus_code m hph, hcode]; cases r <;> simp only [he]
    refine ⟨fun hp => ?_, fun c hp hh hv => ?_⟩
    · have hph : (s.tr t).phase = .decel ∨ (s.tr t).phase = .holdDecel := hp.imp_right And.left
      rw [rests (loaded_phase hc) hph, ← code_of hph rfl]
      exact runTasks_rest_stops hend (nothing_held hp) hc hq rfl 4089
    · rw [rests (loaded_phase hc) (.inr hp), ← code_of (.inr hp) rfl]
      exact runTasks_rest_held hend hp hh hc hv rfl 4089
  case limit =>
    rintro hp ⟨hr, ht, he⟩ hk ho hq
    have hkl : m.kind ≠ .load := by obtain hk | hk := hk <;> simp [hk]
    have hc : (s.tr t).condition = .loaded := by
      obtain ⟨hc, -⟩ | ⟨-, -, hl⟩ := hr
      · exact hc
      · exact absurd hl hkl
    have hend := rest_limitEnds hm' (by rw [htr]; exact ht) hk (by rwa [if_neg hkl] at he) (by rw [htr]; exact ho)
      (by rw [htr]; exact nothing_held hp)
    rw [rests (loaded_phase hc) (hp.imp_right And.left)]
    exact runTasks_rest_stops hend (nothing_held hp) hc hq rfl 4089
  case loads =>
    intro o code hc hs hk he hp hsl hq h hcode
    have hend := rest_searchEnds (o := o) hm' hk he (by rw [htr]; exact nothing_held hp) (by rw [htr]; exact h)
    rw [clearTach_stilled, dropAtEnding, State.tr_setTr_self, State.setTr_setTr] at hend
    have hst : (if o = .none then Status.tachInterrupted else o.status).code = code := by rw [hcode]; cases o <;> rfl
    rw [rests (hasPhase_of_runs (.inr ⟨hc, hs, hk⟩)) (hp.imp_right And.left), ← hst]
    exact runTasks_rest_loads hend hsl hq rfl rfl 4089
  case halted =>
    intro hc hs hk he hp ht
    have hend := rest_searchHalted hm' hk he (by rw [htr]; exact ht)
    rw [clearTach_stilled] at hend
    rw [rests (hasPhase_of_runs (.inr ⟨hc, hs, hk⟩)) (.inl hp)]
    obtain ⟨u, hu, hstate, hports⟩ := runTasks_rest_unloads hend rfl rfl 4090
    have hut : u.tr t = (cleared (s.tr t)).emptyMotion.unloaded := by rw [hstate]; exact State.tr_setTr_self ..
    refine ⟨u, hu, ?_, ?_, ?_, ?_, hports⟩
    · rw [hut]
      exact entersUnloaded_unloaded rfl ⟨rfl, rfl, rfl, rfl, rfl⟩
    · rw [hut]; rfl
    · rw [hut]; rfl
    · rw [hut]; exact hstate

end Sys2Proof.OrderQueue
end

section
/-! SUPPORT. How a motion that stands still starts (R43, R44, R45): the review of the vacuum supply, the request and the first ramp step. -/

namespace Sys2Proof.OrderQueue

open Sys2Proof Sys2Proof.Machine

/-! ### The review of the vacuum supply beside a transport that does not wait for a grant -/

/-- What stands beside the vacuum supply and the arbiter: transport `t`, the ports, the owners and the tables. -/
structure Beside (t : TransportId) (s u : State) : Prop where
  transport : u.tr t = s.tr t
  ports : u.ports = s.ports
  owners : u.owners = s.owners
  tables : u.tables = s.tables

theorem Beside.refl (t : TransportId) (s : State) : Beside t s s := ⟨rfl, rfl, rfl, rfl⟩

theorem Beside.trans {t : TransportId} {a b c : State} (h : Beside t a b) (k : Beside t b c) : Beside t a c :=
  ⟨k.transport.trans h.transport, k.ports.trans h.ports, k.owners.trans h.owners, k.tables.trans h.tables⟩

theorem Beside.of_vacuum {t : TransportId} {s u : State} {v : Vacuum} (h : Beside t { s with vacuum := v } u) :
    Beside t s u := ⟨h.transport, h.ports, h.owners, h.tables⟩

theorem giveUpGrant_beside {t u : TransportId} (hu : t ≠ u) (s : State) : Beside t s (giveUpGrant u s).state := by
  cases hg : (s.tr u).engine.grant with
  | none => simpa [giveUpGrant, hg, Reaction.idle] using Beside.refl t s
  | held | requested =>
    simp only [giveUpGrant, hg, State.setGrant, Reaction.idle]
    exact ⟨State.tr_setTr_ne _ _ hu, rfl, rfl, rfl⟩

/-- The loss of READY reaches motions in WAIT GRANT alone (R138). -/
theorem loseReady_beside {t : TransportId} {s : State} (hp : (s.tr t).phase ≠ .waitGrant) (u : TransportId) :
    Beside t s (loseReady u s) := by
  unfold loseReady
  dsimp only
  split
  · rename_i hw
    have hu : t ≠ u := fun e => by subst e; simp_all
    have hg := giveUpGrant_beside hu s
    exact ⟨(State.tr_setTr_ne _ _ hu).trans hg.transport, hg.ports, hg.owners, hg.tables⟩
  · exact .refl t s

theorem giveUpGrant_vacuum (u : TransportId) (s : State) : (giveUpGrant u s).state.vacuum = s.vacuum := by
  cases hg : (s.tr u).engine.grant <;> simp [giveUpGrant, hg, State.setGrant, Reaction.idle]

theorem loseReady_vacuum (u : TransportId) (s : State) : (loseReady u s).vacuum = s.vacuum := by
  unfold loseReady
  dsimp only
  split
  · exact giveUpGrant_vacuum u s
  · rfl

theorem reportReadyFalse_beside {t : TransportId} {s : State} (hp : (s.tr t).phase ≠ .waitGrant) :
    Beside t s (reportReadyFalse s) := by
  unfold reportReadyFalse
  generalize transportIds = us
  induction us generalizing s with
  | nil => exact .refl t s
  | cons u us ih =>
    have h := loseReady_beside hp u
    exact h.trans (ih (by rw [h.transport]; exact hp))

theorem reportReadyFalse_vacuum (s : State) : (reportReadyFalse s).vacuum = s.vacuum := by
  unfold reportReadyFalse
  generalize transportIds = us
  induction us generalizing s with
  | nil => rfl
  | cons u us ih => exact (ih _).trans (loseReady_vacuum u s)

/-- Where READY stands after the blower is set, nothing has changed (R133, R138). -/
theorem setBlower_of_ready {b : Blower} {s : State} (h : (setBlower b s).vacuum.ready = true) : setBlower b s = s := by
  unfold setBlower at h ⊢
  dsimp only at h ⊢
  split
  · rfl
  · rename_i hb
    rw [if_neg hb] at h
    split at h
    · rw [reportReadyFalse_vacuum] at h; cases h
    · cases h

/-- Without READY the blower is all that changes (R133). -/
theorem setBlower_of_not_ready {b : Blower} {s : State} (h : s.vacuum.ready = false) :
    setBlower b s = { s with vacuum := (setBlower b s).vacuum } ∧ (setBlower b s).vacuum.ready = false := by
  by_cases hb : s.vacuum.blower = b <;> simp [setBlower, hb, h]

theorem setBlower_beside {t : TransportId} {s : State} (hp : (s.tr t).phase ≠ .waitGrant) (b : Blower) :
    Beside t s (setBlower b s) := by
  unfold setBlower
  dsimp only
  split
  · exact .refl t s
  · split
    · exact (reportReadyFalse_beside (t := t)
        (s := { s with vacuum := { s.vacuum with blower := b, settle := none, ready := false } }) hp).of_vacuum
    · exact ⟨rfl, rfl, rfl, rfl⟩

theorem reviewVacuum_beside {t : TransportId} {s : State} (hp : (s.tr t).phase ≠ .waitGrant) :
    Beside t s (reviewVacuum s) := by
  have h := setBlower_beside hp (blowerFor s.vacuum.mode s.allUnloaded s.quiet s.vacuum.blower)
  exact ⟨h.transport, h.ports, h.owners, h.tables⟩

/-- A review that leaves READY changes the economy timer alone (R134). -/
theorem reviewVacuum_of_ready {s : State} (h : (reviewVacuum s).vacuum.ready = true) :
    s.vacuum.ready = true ∧ reviewVacuum s = { s with vacuum := { s.vacuum with
      economy := economyTimerFor s.vacuum.mode s.vacuum.blower s.quiet s.vacuum.economy } } := by
  have hb : setBlower (blowerFor s.vacuum.mode s.allUnloaded s.quiet s.vacuum.blower) s = s := setBlower_of_ready h
  unfold reviewVacuum at h ⊢
  dsimp only at h ⊢
  rw [hb] at h ⊢
  exact ⟨h, rfl⟩

/-- Without READY a review changes the vacuum record alone (R133, R134). -/
theorem reviewVacuum_of_not_ready {s : State} (h : s.vacuum.ready = false) :
    reviewVacuum s = { s with vacuum := (reviewVacuum s).vacuum } ∧ (reviewVacuum s).vacuum.ready = false := by
  obtain ⟨hs, hr⟩ := setBlower_of_not_ready (b := blowerFor s.vacuum.mode s.allUnloaded s.quiet s.vacuum.blower) h
  refine ⟨?_, hr⟩
  unfold reviewVacuum
  dsimp only
  rw [hs]

theorem all_transportIds (f : TransportId → Bool) : transportIds.all f = true ↔ ∀ t, f t = true := by
  simp only [transportIds, List.all_cons, List.all_nil, Bool.and_true, Bool.and_eq_true]
  constructor
  · rintro ⟨h0, h1, h2, h3⟩ t
    cases t <;> assumption
  · intro h
    exact ⟨h .t0, h .t1, h .t2, h .t3⟩

/-- With READY and the blower NORMAL, beside a transport that is under way, a review stops the economy timer and changes no
more (R133, R134). -/
theorem reviewVacuum_normal {s : State} {t : TransportId} (hc : (s.tr t).condition = .loaded)
    (hp : (s.tr t).phase ≠ .stopped) (hb : s.vacuum.blower = .normal) (hm : s.vacuum.mode ≠ .economy) :
    reviewVacuum s = { s with vacuum := { s.vacuum with economy := none } } := by
  have hall : s.allUnloaded = false := by
    rw [Bool.eq_false_iff]
    intro h
    have := (all_transportIds _).mp h t
    simp [hc] at this
  have hquiet : s.quiet = false := by
    rw [Bool.eq_false_iff]
    intro h
    rw [State.quiet, Bool.and_eq_true, all_transportIds] at h
    have := h.2 t
    simp [Transport.quiet, hc, hp] at this
  have hblower : blowerFor s.vacuum.mode s.allUnloaded s.quiet s.vacuum.blower = s.vacuum.blower := by
    rw [hall, hb]
    cases hmode : s.vacuum.mode with
    | economy => exact absurd hmode hm
    | normal => rfl
    | auto => simp [blowerFor]
  have hset : setBlower s.vacuum.blower s = s := by simp [setBlower]
  unfold reviewVacuum
  dsimp only
  rw [hblower, hset, hquiet]
  simp [economyTimerFor]

/-! ### The first ramp step of a motion that stands still -/

/-- Transport `t` stands still with a motion that meets no limit at its first ramp step (R26, R45, R47). -/
structure Standing (s : State) (t : TransportId) (m : Motion) : Prop where
  motion : (s.tr t).motion = some m
  condition : (s.tr t).condition = .loaded
  still : (s.tr t).engine.v = 0
  clear : (m.kind = .move ∧ (∀ r, m.r = some r → 0 < r) ∧ ∀ code, ¬ s.LimitMet t m.direction code) ∨
    ((m.kind = .rewind ∨ m.kind = .unload) ∧ m.direction = .reverse)

/-- The transport with another phase and another engine record. -/
def rephased (tr : Transport) (ph : Phase) (e : Engine) : Transport := { tr with phase := ph, engine := e }

theorem Standing.of_rephased {s u : State} {t : TransportId} {m : Motion} {ph : Phase} {e : Engine} (h : Standing s t m)
    (hu : u.tr t = rephased (s.tr t) ph e) (he : e.v = 0) (ht : u.tables = s.tables) : Standing u t m where
  motion := by rw [hu]; exact h.motion
  condition := by rw [hu]; exact h.condition
  still := by rw [hu]; exact he
  clear := h.clear.imp_left fun ⟨hk, hr, hl⟩ => ⟨hk, hr, fun c => by
    have := hl c
    simpa only [State.LimitMet, hu, State.servoOf, ht, rephased] using this⟩

/-- At rest the tests of part 1 find no limit (R26, R47). -/
theorem limitTests_standing {s : State} {t : TransportId} {m : Motion} (h : Standing s t m) :
    limitTests t s = Reaction.idle s := by
  have hd : distanceReached m 0 = false := by
    unfold distanceReached
    split
    · rename_i r hk hr
      obtain ⟨-, hpos, -⟩ | ⟨hk', -⟩ := h.clear
      · simpa using hpos r hr
      · rw [hk] at hk'; obtain hk' | hk' := hk' <;> cases hk'
    · rfl
  have he : eotLimitReached m (s.tr t).position (s.servoOf t).eotAllowance 0 = false := by
    unfold eotLimitReached
    split
    · rename_i e hdir hp hn
      obtain ⟨-, -, hl⟩ | ⟨-, hrev⟩ := h.clear
      · refine decide_eq_false fun hle => hl 3 (.inl ⟨hdir, rfl, hp, e, hn, ?_⟩)
        simpa [Transport.position] using hle
      · rw [hrev] at hdir; cases hdir
    · rfl
  simp [limitTests, h.motion, h.still, he, hd]

/-- The speed of the first ramp step, and whether it enters CRUISE (R48). -/
theorem nextSpeed_first (p : Profile) (top : Nat) :
    nextSpeed .accel p top 0 = if top ≤ p.aAcc then (top, true) else (p.aAcc, false) := by
  unfold nextSpeed
  dsimp only
  by_cases h0 : 0 < top
  · by_cases ht : top ≤ p.aAcc
    · simp [h0, ht]
    · simp only [h0, if_true, Nat.zero_add, ht, if_false, decide_false, Nat.min_def]
      rw [if_pos (by omega)]
  · have : top = 0 := by omega
    simp [this]

/-- What stands beside the start of a motion at transport `t`: all of `t` but its phase and its engine record, the ports,
the owners and the tables. -/
structure Starting (t : TransportId) (s u : State) : Prop where
  transport : ∃ ph e, u.tr t = rephased (s.tr t) ph e
  ports : u.ports = s.ports
  owners : u.owners = s.owners
  tables : u.tables = s.tables

theorem Starting.trans {t : TransportId} {a b c : State} (h : Starting t a b) (k : Starting t b c) : Starting t a c := by
  obtain ⟨ph, e, hb⟩ := h.transport
  obtain ⟨ph', e', hc⟩ := k.transport
  exact ⟨⟨ph', e', by rw [hc, hb]; rfl⟩, k.ports.trans h.ports, k.owners.trans h.owners, k.tables.trans h.tables⟩

theorem starting_setTr (s : State) (t : TransportId) (ph : Phase) (e : Engine) :
    Starting t s (s.setTr t (rephased (s.tr t) ph e)) := ⟨⟨ph, e, State.tr_setTr_self ..⟩, rfl, rfl, rfl⟩

theorem Beside.starting {t : TransportId} {s u : State} (h : Beside t s u) : Starting t s u :=
  ⟨⟨(s.tr t).phase, (s.tr t).engine, h.transport⟩, h.ports, h.owners, h.tables⟩

theorem monitorCruise_eq (t : TransportId) (s : State) :
    monitorCruise t s = { s with monitor := (monitorCruise t s).monitor } := by
  unfold monitorCruise
  dsimp only
  split <;> rfl

theorem restTest_idle {s : State} {t : TransportId} (hp : (s.tr t).phase = .accel ∨ (s.tr t).phase = .cruise) :
    restTest t s = Reaction.idle s := by
  obtain hp | hp := hp <;> simp [restTest, hp]

/-- The engine after the first ramp step to this speed (R48, R57). -/
def stepped (s : State) (t : TransportId) (m : Motion) (v : Nat) : Engine :=
  { (s.tr t).engine with
    v := velocityOf m.direction v
    tachTimer := if v ≠ 0 ∧ (s.tr t).engine.tach = .clear then some (1000 * (s.servoOf t).tachTimeout)
      else (s.tr t).engine.tachTimer }

/-- The velocity update of the first ramp step (R48, R57). -/
theorem velocityUpdate_first {s : State} {t : TransportId} {m : Motion} (h : Standing s t m)
    (hp : (s.tr t).phase = .accel) : let top := (s.tr t).engine.workTop.getD m.copy.vTop
    velocityUpdate t s = if top ≤ m.copy.aAcc then
        giveUpGrant t (monitorCruise t (s.setTr t (rephased (s.tr t) .cruise (stepped s t m top))))
      else Reaction.idle (s.setTr t (rephased (s.tr t) .accel (stepped s t m m.copy.aAcc))) := by
  have hnat : (s.tr t).engine.v.natAbs = 0 := by rw [h.still]; rfl
  have hnext := nextSpeed_first m.copy ((s.tr t).engine.workTop.getD m.copy.vTop)
  have htimer : ∀ v : Nat, (if (s.tr t).engine.v == 0 && v != 0 && (s.tr t).engine.tach == .clear then
      some (s.servoOf t).tachTime else (s.tr t).engine.tachTimer) = (stepped s t m v).tachTimer := fun v => by
    simp [stepped, h.still, ServoRecord.tachTime, ms, Nat.mul_comm]
  by_cases htop : (s.tr t).engine.workTop.getD m.copy.vTop ≤ m.copy.aAcc
  · rw [if_pos htop] at hnext
    simp only [velocityUpdate, h.motion, hp, hnat, hnext, htimer, if_true, setPhase_setTr, signed_eq_velocityOf,
      if_pos htop]
    rw [← h.motion]
    rfl
  · rw [if_neg htop] at hnext
    simp only [velocityUpdate, h.motion, hp, hnat, hnext, htimer, Bool.false_eq_true, if_false, signed_eq_velocityOf,
      if_neg htop]
    rw [← hp, ← h.motion]
    rfl

theorem letGo_owners (s : State) (t : TransportId) : (s.letGo t).owners = s.owners := by
  by_cases hg : (s.tr t).engine.grant = .held <;> simp [State.letGo, hg, State.released]

theorem letGo_tables (s : State) (t : TransportId) : (s.letGo t).tables = s.tables := by
  by_cases hg : (s.tr t).engine.grant = .held <;> simp [State.letGo, hg, State.released]

theorem letGo_vacuum (s : State) (t : TransportId) : (s.letGo t).vacuum = s.vacuum := by
  by_cases hg : (s.tr t).engine.grant = .held <;> simp [State.letGo, hg, State.released]

/-- A grant given up at the entry to CRUISE with no one in the list (R48, R126). -/
theorem runTasks_cruiseEntry {s : State} {t : TransportId} (hp : (s.tr t).phase = .cruise)
    (hg : (s.tr t).engine.grant = .held) (hw : s.arbiter.waiting = []) (n : Nat) :
    runTasks (n + 2) ((giveUpGrant t s).now ++ [.restTest t] ++ (giveUpGrant t s).later) (giveUpGrant t s).state =
      .next (s.letGo t) := by
  rw [giveUpGrant_of_not_requested (by simp [hg])]
  simp only [hg, if_true, List.append_nil, List.singleton_append]
  rw [runTasks_serve_none (by rw [letGo_waiting, hw]), runTasks_succ, handle,
    restTest_idle (.inr (by rw [tr_letGo]; exact hp))]
  exact runTasks_nil ..

/-- The first step of a motion: the velocity update and the rest test, with no one in the list (R45, R48, R126). -/
theorem runTasks_firstStep {s : State} {t : TransportId} {m : Motion} (h : Standing s t m)
    (hp : (s.tr t).phase = .accel) (hg : (s.tr t).engine.grant = .held) (hw : s.arbiter.waiting = []) (n : Nat) :
    ∃ u, runTasks (n + 4) [.limitTests t, .velocityUpdate t, .restTest t] s = .next u ∧ Starting t s u ∧
      u.vacuum = s.vacuum ∧ (m.copy.aAcc < (s.tr t).engine.workTop.getD m.copy.vTop →
        u = s.setTr t (rephased (s.tr t) .accel (stepped s t m m.copy.aAcc))) := by
  have hv := velocityUpdate_first h hp
  rw [runTasks_succ, handle, limitTests_standing h]
  simp only [Reaction.idle, List.nil_append, List.append_nil]
  rw [runTasks_succ, handle, hv]
  by_cases htop : (s.tr t).engine.workTop.getD m.copy.vTop ≤ m.copy.aAcc
  · rw [if_pos htop, monitorCruise_eq]
    generalize (monitorCruise t _).monitor = mon
    let c : State := { s.setTr t (rephased (s.tr t) .cruise (stepped s t m
      ((s.tr t).engine.workTop.getD m.copy.vTop))) with monitor := mon }
    have hc : c.tr t = rephased (s.tr t) .cruise (stepped s t m ((s.tr t).engine.workTop.getD m.copy.vTop)) :=
      State.tr_setTr_self ..
    refine ⟨c.letGo t, runTasks_cruiseEntry (s := c) (by rw [hc]; rfl) (by rw [hc]; exact hg) hw n,
      ⟨⟨.cruise, ((c.letGo t).tr t).engine, ?_⟩, ?_, ?_, ?_⟩, ?_, fun hlt => absurd htop (by omega)⟩
    · rw [tr_letGo, hc]; rfl
    · rw [letGo_ports]; rfl
    · rw [letGo_owners]; rfl
    · rw [letGo_tables]; rfl
    · rw [letGo_vacuum]; rfl
  · rw [if_neg htop]
    refine ⟨_, ?_, starting_setTr s t .accel (stepped s t m m.copy.aAcc), rfl, fun _ => rfl⟩
    simp only [Reaction.idle, List.nil_append, List.append_nil]
    rw [runTasks_succ, handle, restTest_idle (.inl (by rw [State.tr_setTr_self]; rfl))]
    exact runTasks_nil ..

/-! ### Requests and grants -/

/-- The engine of a motion that starts from rest: its working top speed set, but for a MOVE (R62, log 27). -/
def waiting (e : Engine) (m : Motion) (top : Nat) : Engine :=
  { e with workTop := if m.kind = .move then e.workTop else some top }

/-- The speed of the sub-step that a motion stands in at its start (R44, R62, R147). -/
def startTop (s : State) (t : TransportId) (m : Motion) : Nat :=
  startSpeed m (s.tr t).load.step (s.tr t).position (s.servoOf t).approach

theorem topAtStart_standing {s : State} {t : TransportId} {m : Motion} (h : Standing s t m) :
    ({ (s.tr t).engine with workTop := (s.tr t).topAtStart m (s.servoOf t).approach } : Engine) =
      waiting (s.tr t).engine m (startTop s t m) := by
  obtain ⟨hk, -⟩ | ⟨hk | hk, -⟩ := h.clear <;> simp [waiting, Transport.topAtStart, hk, startTop]

/-- The engine of a granted motion (R44, R45, R120). -/
def granted (e : Engine) (top : Nat) : Engine := { e with grant := .held, workTop := some top, stepTimer := true }

/-- A grant is delivered with no one in the list: the first ramp step (R44, R45, R125). -/
theorem runTasks_granted {s : State} {t : TransportId} {m : Motion} (h : Standing s t m) (hw : s.arbiter.waiting = [])
    (n : Nat) : let g := granted (s.tr t).engine (startTop s t m)
    ∃ u, runTasks (n + 6) [.deliver t] (({ s with arbiter := s.arbiter.hold t } : State).setGrant t .held) = .next u ∧
      Starting t s u ∧ u.vacuum = s.vacuum ∧ (m.copy.aAcc < startTop s t m →
        u = ({ s with arbiter := s.arbiter.hold t } : State).setTr t (rephased (s.tr t) .accel { g with
          v := velocityOf m.direction m.copy.aAcc
          tachTimer := if m.copy.aAcc ≠ 0 ∧ g.tach = .clear then some (1000 * (s.servoOf t).tachTimeout)
            else g.tachTimer })) := by
  intro g
  let z : State := ({ s with arbiter := s.arbiter.hold t } : State).setTr t (rephased (s.tr t) .accel g)
  have hz : z.tr t = rephased (s.tr t) .accel g := State.tr_setTr_self ..
  have hstart : Starting t s z := ⟨⟨.accel, g, hz⟩, rfl, rfl, rfl⟩
  have hdeliver : deliver t (({ s with arbiter := s.arbiter.hold t } : State).setGrant t .held) =
      { state := z, now := [.rampStep t] } := by
    simp only [deliver, State.setGrant, State.tr_setTr_self, State.setTr_setTr, State.tr_arbiter, h.motion]
    rw [← h.motion]
    rfl
  have hramp : rampStep t z = { state := z, now := [.limitTests t, .velocityUpdate t, .restTest t] } := by
    simp only [rampStep, hz]
    simp [rephased, Transport.hasPhase, h.condition, Phase.moving, g, granted]
  obtain ⟨u, hrun, hu, hvac, hexact⟩ := runTasks_firstStep (h.of_rephased (u := z) hz h.still rfl) (by rw [hz]; rfl)
    (by rw [hz]; rfl) hw n
  rw [runTasks_succ, handle, hdeliver]
  simp only [List.append_nil]
  rw [runTasks_succ, handle, hramp]
  refine ⟨u, hrun, hstart.trans hu, hvac, fun hlt => ?_⟩
  rw [hexact (by rw [hz]; exact hlt), hz]
  simp only [z, State.setTr_setTr]
  rw [stepped, hz]
  rfl

/-- What a request of transport `t` for a motion `m` comes to, by the room under the limit, with an empty list (R44, R45,
R121); `s` is the state before. -/
def Requested (s u : State) (t : TransportId) (m : Motion) (top : Nat) : Prop :=
  let e := (s.tr t).engine
  (s.arbiter.limit ≠ 0 → s.arbiter.limit ≤ s.holderCount →
    (u.tr t).phase = .waitGrant ∧ (u.tr t).engine = { waiting e m top with grant := .requested } ∧
      u.arbiter = { s.arbiter with
        waiting := [{ transport := t, priority := m.copy.priority, joined := s.arbiter.nextJoin }]
        nextJoin := s.arbiter.nextJoin + 1 }) ∧
  (s.arbiter.limit = 0 ∨ s.holderCount < s.arbiter.limit → e.tach = .clear → 0 < m.copy.aAcc → m.copy.aAcc < top →
    (u.tr t).phase = .accel ∧
    (u.tr t).engine = { e with
      grant := .held, workTop := some top, stepTimer := true, v := velocityOf m.direction m.copy.aAcc
      tachTimer := some (1000 * (s.servoOf t).tachTimeout) } ∧
    u.arbiter.waiting = [] ∧ u.arbiter.holders = s.arbiter.holders.set t true ∧ u.arbiter.limit = s.arbiter.limit)

theorem room_iff (s : State) : s.arbiter.room = true ↔ s.arbiter.limit = 0 ∨ s.holderCount < s.arbiter.limit := by
  simp only [Arbiter.room, Bool.or_eq_true, beq_iff_eq, decide_eq_true_eq]
  rfl

/-- With READY true a motion at rest requests its grant, and with room it has it at once (R43, R44, R121). -/
theorem runTasks_requests {s : State} {t : TransportId} {m : Motion} (h : Standing s t m) (hr : s.vacuum.ready = true)
    (hw : s.arbiter.waiting = [] ∨ (s.arbiter.limit ≠ 0 ∧ s.arbiter.limit ≤ s.holderCount)) (n : Nat) :
    ∃ u, runTasks (n + 8) [.startFromRest t] s = .next u ∧ Starting t s u ∧ u.vacuum = s.vacuum ∧
      ((s.tr t).engine.grant = .none → s.arbiter.waiting = [] → s.arbiter.holders.get t = false →
        Requested s u t m (startTop s t m)) := by
  let e := waiting (s.tr t).engine m (startTop s t m)
  let w : State := s.setTr t (rephased (s.tr t) .waitGrant e)
  have hwt : w.tr t = rephased (s.tr t) .waitGrant e := State.tr_setTr_self ..
  have hws : Starting t s w := starting_setTr ..
  have hstart : startFromRest t s =
      { state := s.setTr t (rephased (s.tr t) .waitVacuum e), now := [.enterWaitGrant t] } := by
    simp only [startFromRest, h.motion, hr, if_true]
    rw [topAtStart_standing h, ← h.motion]
    rfl
  have henter : enterWaitGrant t (s.setTr t (rephased (s.tr t) .waitVacuum e)) = requestGrant t m.copy.priority w := by
    have hm : (rephased (s.tr t) .waitVacuum e).motion = some m := h.motion
    simp only [enterWaitGrant, State.tr_setTr_self, hm, setPhase_setTr]
    rw [← hm]
    rfl
  rw [runTasks_succ, handle, hstart]
  simp only [List.append_nil]
  rw [runTasks_succ, handle, henter]
  by_cases hin : (s.arbiter.holders.get t || s.arbiter.lists t) = true
  · have hreq : requestGrant t m.copy.priority w = Reaction.idle w := if_pos hin
    rw [hreq]
    refine ⟨w, runTasks_nil .., hws, rfl, fun _ hnone hfree => ?_⟩
    simp [hfree, Arbiter.lists, hnone] at hin
  · by_cases hroom : s.arbiter.room = true
    · have hreq : requestGrant t m.copy.priority w =
          { state := ({ w with arbiter := w.arbiter.hold t } : State).setGrant t .held, now := [.deliver t] } :=
        (if_neg hin).trans (if_pos hroom)
      have hroom' := (room_iff s).mp hroom
      have hnone : s.arbiter.waiting = [] := hw.resolve_right fun hf => by omega
      have hstand : Standing w t m := h.of_rephased hwt h.still rfl
      obtain ⟨u, hrun, hu, hvac, hexact⟩ := runTasks_granted hstand hnone n
      rw [hreq]
      refine ⟨u, hrun, hws.trans hu, hvac, fun hg _ hfree => ⟨fun h0 hf => by omega, fun _ ht hpos hlt => ?_⟩⟩
      have htop : startTop w t m = startTop s t m := by rw [startTop, startTop, hwt]; rfl
      rw [htop, hwt] at hexact
      rw [hexact hlt, State.tr_setTr_self]
      refine ⟨rfl, ?_, hnone, rfl, rfl⟩
      have hboth : m.copy.aAcc ≠ 0 ∧ e.tach = .clear := ⟨by omega, ht⟩
      exact congrArg (fun x : Timer => ({ granted e (startTop s t m) with
        v := velocityOf m.direction m.copy.aAcc, tachTimer := x } : Engine)) (if_pos hboth)
    · have hreq : requestGrant t m.copy.priority w =
          Reaction.idle (({ w with arbiter := w.arbiter.join t m.copy.priority } : State).setGrant t .requested) :=
        (if_neg hin).trans (if_neg hroom)
      rw [hreq]
      have hfull := (room_iff s).not.mp hroom
      have hut : (({ w with arbiter := w.arbiter.join t m.copy.priority } : State).setGrant t .requested).tr t =
          rephased (s.tr t) .waitGrant { e with grant := .requested } := by
        rw [State.setGrant, State.tr_setTr_self, State.tr_arbiter, hwt]
        rfl
      refine ⟨_, runTasks_nil .., ⟨⟨_, _, hut⟩, rfl, rfl, rfl⟩, rfl,
        fun _ hnone _ => ⟨fun _ _ => ?_, fun hr => absurd hr hfull⟩⟩
      rw [Reaction.idle, hut]
      refine ⟨rfl, rfl, ?_⟩
      simp only [State.setGrant, State.setTr]
      simp only [Arbiter.join, w, State.setTr, hnone, insertEntry]

/-- What the start of a motion `m` at transport `t` comes to: with READY false it waits for vacuum, and with READY true and
the blower NORMAL it requests its grant (R43, R44, R134); `s` is the state before. -/
def Departed (s u : State) (t : TransportId) (m : Motion) (top : Nat) : Prop :=
  (s.vacuum.ready = false → (u.tr t).phase = .waitVacuum ∧ (u.tr t).engine = waiting (s.tr t).engine m top ∧
    u.arbiter = s.arbiter) ∧
  (s.vacuum.ready = true → s.vacuum.blower = .normal → s.vacuum.mode ≠ .economy → (s.tr t).engine.grant = .none →
    s.arbiter.waiting = [] → s.arbiter.holders.get t = false →
    u.vacuum = { s.vacuum with economy := none } ∧ Requested s u t m top)

/-- A motion set up in WAIT VACUUM starts: the review of the vacuum supply, and then what READY leaves (R27, R43). -/
theorem runTasks_departs {s : State} {t : TransportId} {m : Motion} (h : Standing s t m)
    (hp : (s.tr t).phase = .waitVacuum)
    (hw : s.vacuum.ready = true →
      s.arbiter.waiting = [] ∨ (s.arbiter.limit ≠ 0 ∧ s.arbiter.limit ≤ s.holderCount)) (n : Nat) :
    ∃ u, runTasks (n + 9) [.vacuumReview, .startFromRest t] s = .next u ∧ Starting t s u ∧
      Departed s u t m (startTop s t m) := by
  have hb : Beside t s (reviewVacuum s) := reviewVacuum_beside (by simp [hp])
  rw [runTasks_vacuumReview]
  by_cases hr : (reviewVacuum s).vacuum.ready = true
  · obtain ⟨hready, hs⟩ := reviewVacuum_of_ready hr
    have hstand : Standing (reviewVacuum s) t m := by
      rw [hs]; exact ⟨h.motion, h.condition, h.still, h.clear⟩
    obtain ⟨u, hrun, hu, hvac, hreq⟩ := runTasks_requests hstand hr (by rw [hs]; exact hw hready) n
    refine ⟨u, hrun, hb.starting.trans hu, fun hn => absurd hready (by simp [hn]),
      fun _ hbl hmode hg hnone hfree => ⟨?_, ?_⟩⟩
    · rw [hvac, reviewVacuum_normal h.condition (by simp [hp]) hbl hmode]
    · rw [hs] at hreq
      exact hreq hg hnone hfree
  · have hr' : (reviewVacuum s).vacuum.ready = false := by simpa using hr
    have hm : ((reviewVacuum s).tr t).motion = some m := by rw [hb.transport]; exact h.motion
    have hservo : (reviewVacuum s).servoOf t = s.servoOf t := by rw [State.servoOf, State.servoOf, hb.tables]
    have hstart : startFromRest t (reviewVacuum s) = Reaction.idle ((reviewVacuum s).setTr t
        (rephased (s.tr t) .waitVacuum (waiting (s.tr t).engine m (startTop s t m)))) := by
      rw [startFromRest_waits hm hr', hb.transport, hservo, ← topAtStart_standing h]
      rfl
    rw [runTasks_succ, handle, hstart]
    refine ⟨_, runTasks_nil .., ⟨⟨_, _, State.tr_setTr_self ..⟩, hb.ports, hb.owners, hb.tables⟩,
      fun hn => ⟨?_, ?_, ?_⟩, fun hready hbl hmode => ?_⟩
    · rw [Reaction.idle, State.tr_setTr_self]; rfl
    · rw [Reaction.idle, State.tr_setTr_self]; rfl
    · rw [Reaction.idle, (reviewVacuum_of_not_ready hn).1]; rfl
    · rw [reviewVacuum_normal h.condition (by simp [hp]) hbl hmode] at hr'
      exact absurd hready (by simp [show s.vacuum.ready = false from hr'])

end Sys2Proof.OrderQueue
end

section
/-! SUPPORT. The take of a queued order at rest (R25 to R27): its verdict, its start, its ending, and the statement about them. -/

namespace Sys2Proof.OrderQueue

open Sys2Proof Sys2Proof.Machine

/-! ### The take -/

/-- A transport at which the head of the queue is taken (R25). -/
structure ReadyToTake (tr : Transport) : Prop where
  loaded : tr.condition = .loaded
  stopped : tr.phase = .stopped
  empty : tr.motion = none
  unpaused : tr.paused = false
  guarded : tr.servo.band ≠ .outsideGuard

theorem canTake_iff {tr : Transport} : tr.canTake = true ↔ ReadyToTake tr := by
  simp only [Transport.canTake, Bool.and_eq_true, beq_iff_eq, Option.isNone_iff_eq_none, Bool.not_eq_true', bne_iff_ne]
  exact ⟨fun ⟨⟨⟨⟨hm, hp⟩, hc⟩, hz⟩, hb⟩ => ⟨hc, hp, hm, hz, hb⟩,
    fun h => ⟨⟨⟨⟨h.empty, h.stopped⟩, h.loaded⟩, h.unpaused⟩, h.guarded⟩⟩

theorem monitorTake_eq (t : TransportId) (d : Direction) (s : State) :
    monitorTake t d s = { s with monitor := (monitorTake t d s).monitor } := by
  unfold monitorTake
  dsimp only
  split
  · rfl
  · split <;> rfl

/-- The transport with the record `x` taken from its queue into the motion context (R27, R151). -/
def taking (s : State) (t : TransportId) (x : OrderRecord) (rest : List OrderRecord) (p : Profile) : Transport :=
  { s.tr t with
    queue := rest, phase := .waitVacuum, motion := some (x.motion (x.resolve (s.tr t).selected) p)
    load := (s.tr t).load.atTake x.kind (s.tr t).position (s.servoOf t).approach }

/-- The ending response of a record that ends at its take: its distance is the stop error (R26, R31). -/
def takeEnding (s : State) (t : TransportId) (x : OrderRecord) (code : Byte) (q : PortId) : List OutFrame :=
  if x.origin = .port q then
    [s.ending t q x.arrivalUnit x.tag code (x.distance.map fun (d : Nat) => (d : Int)) none none]
  else []

/-- The transport with this queue left. -/
def withQueue (tr : Transport) (q : List OrderRecord) : Transport := { tr with queue := q }

section
variable {s : State} {t : TransportId} {x : OrderRecord} {rest : List OrderRecord} (hc : (s.tr t).canTake = true)
  (hq : (s.tr t).queue = x :: rest)
include hc hq

theorem takeTest_takes : takeTest t s = takeRecord t x (s.setTr t (withQueue (s.tr t) rest)) := by
  simp only [takeTest, hq, hc, if_true]
  rfl

/-- A head that is served and meets no limit is set up (R25 to R27). -/
theorem takeTest_sets {p : Profile}
    (hp : entryServes x.kind (s.tables.profiles.get (x.resolve (s.tr t).selected)) = some p)
    (hl : x.kind = .move → ∀ code, ¬ s.LimitMet t x.takeDirection code) :
    ∃ mon, takeTest t s = { state := { s.setTr t (taking s t x rest p) with monitor := mon }
                            now := [.vacuumReview, .startFromRest t] } := by
  have hentry := (entryServes_eq_some.mp hp).1
  have hv : takeVerdict x (s.tables.profiles.get (x.resolve (s.tr t).selected)) (s.tr t).position
      (s.servoOf t).eotAllowance = none := by
    simp only [takeVerdict, hp, beq_iff_eq]
    split
    · exact limitAtRest_eq_none (hl ‹_›)
    · rfl
  have hrec : takeRecord t x (s.setTr t (withQueue (s.tr t) rest)) = setUpMotion t x (x.resolve (s.tr t).selected) p
      (s.setTr t (withQueue (s.tr t) rest)) := by
    have hw : (s.setTr t (withQueue (s.tr t) rest)).tr t = withQueue (s.tr t) rest := State.tr_setTr_self ..
    have hv' : takeVerdict x (s.tables.profiles.get (x.resolve (withQueue (s.tr t) rest).selected))
      (withQueue (s.tr t) rest).position (s.servoOf t).eotAllowance = none := hv
    have hentry' : s.tables.profiles.get (x.resolve (withQueue (s.tr t) rest).selected) = some p := hentry
    simp only [takeRecord, hw, State.setTr_tables, State.servoOf_setTr]
    rw [hv', hentry']
    rfl
  rw [takeTest_takes hc hq, hrec]
  simp only [setUpMotion, State.tr_setTr_self, State.setTr_setTr]
  rw [monitorTake_eq]
  exact ⟨_, rfl⟩

/-- A head that ends at its take is answered, and the take test is made again (R25, R26). -/
theorem takeTest_ends {st : Status}
    (hv : takeVerdict x (s.tables.profiles.get (x.resolve (s.tr t).selected)) (s.tr t).position
      (s.servoOf t).eotAllowance = some st) :
    takeTest t s =
      { state := sending (takeEnding s t x st.code) (s.setTr t (withQueue (s.tr t) rest))
        now := [.takeTest t], later := [.idleReport t] } := by
  have hw : (s.setTr t (withQueue (s.tr t) rest)).tr t = withQueue (s.tr t) rest := State.tr_setTr_self ..
  have hv' : takeVerdict x (s.tables.profiles.get (x.resolve (withQueue (s.tr t) rest).selected))
      (withQueue (s.tr t) rest).position (s.servoOf t).eotAllowance = some st := hv
  have hend := ending_congr s (s.setTr t (withQueue (s.tr t) rest)) (t := t) (by rw [hw]; rfl) (fun _ => rfl)
  rw [takeTest_takes hc hq]
  simp only [takeRecord, hw, State.setTr_tables, State.servoOf_setTr, hv', placeEnding_eq, hend]
  refine congrArg (fun f => ({ state := sending f (s.setTr t (withQueue (s.tr t) rest)), now := [.takeTest t]
                               later := [.idleReport t] } : Reaction)) (funext fun q => ?_)
  unfold takeEnding
  cases x.distance <;> rfl

end

/-- The sub-step that a REWIND or UNLOAD begins with (R151). -/
def stepAtTake (s : State) (t : TransportId) : SeqStep :=
  if (s.tr t).sense.position.referenced = true ∧ (s.tr t).sense.position.count ≤ ((s.servoOf t).approach : Int) then
    .reverseCreep
  else .reverse

theorem atTake_sequence (l : LoadControl) (pos : Position) (approach : Nat) {k : OrderKind} (hm : k ≠ .move)
    (hl : k ≠ .load) : (l.atTake k pos approach).step = some (firstSubStep pos approach) ∧
      (l.atTake k pos approach).outcome = .none ∧
      (l.atTake k pos approach).sequence = if k = .rewind then .rewind else .unload := by
  cases k with
  | move => exact absurd rfl hm
  | load => exact absurd rfl hl
  | rewind | unload => exact ⟨rfl, rfl, rfl⟩

/-- The working top speed that a taken order of this kind starts with (R44, R62, R151). -/
def topAtTake (s : State) (t : TransportId) (k : OrderKind) (p : Profile) : Nat :=
  if k ≠ .move ∧ stepAtTake s t = .reverseCreep then p.creep.getD p.vTop else p.vTop

theorem firstSubStep_eq (s : State) (t : TransportId) :
    firstSubStep (s.tr t).position (s.servoOf t).approach = stepAtTake s t := by
  by_cases hc : (s.tr t).sense.position.count ≤ ((s.servoOf t).approach : Int) <;>
    simp [firstSubStep, stepAtTake, Transport.position, hc]

theorem motion_r (x : OrderRecord) (n : Fin 16) (p : Profile) :
    (x.motion n p).r = x.distance.map fun (d : Nat) => (d : Int) := by
  cases hd : x.distance <;> simp [OrderRecord.motion, hd]

/-- The motion context of a taken MOVE (R27). -/
theorem motion_of_move {x : OrderRecord} {d : Direction} (hk : x.kind = .move) (hd : x.direction = some d) (n : Fin 16)
    (p : Profile) : x.motion n p = {
      kind := .move, tag := x.tag, origin := x.origin, direction := d, profileNo := n, copy := p
      r := x.distance.map (fun (r : Nat) => (r : Int)), endReason := none, arrivalUnit := x.arrivalUnit } := by
  rw [← motion_r x n p]
  simp only [OrderRecord.motion, hk, OrderRecord.takeDirection, hd, Option.getD_some]

theorem startTop_taking {s w : State} {t : TransportId} {x : OrderRecord} {rest : List OrderRecord} {p : Profile}
    (hk : x.kind ≠ .load) (hw : w.tr t = taking s t x rest p) (ht : w.tables = s.tables) :
    startTop w t (x.motion (x.resolve (s.tr t).selected) p) = topAtTake s t x.kind p := by
  have hservo : w.servoOf t = s.servoOf t := by rw [State.servoOf, State.servoOf, ht]
  rw [startTop, hservo, hw]
  cases hx : x.kind with
  | load => exact absurd hx hk
  | move => simp [startSpeed, OrderRecord.motion, hx, topAtTake]
  | rewind | unload =>
    have hstep : (taking s t x rest p).load.step =
        some (firstSubStep (s.tr t).position (s.servoOf t).approach) := by
      simp [taking, LoadControl.atTake, hx]
    have hpos : (taking s t x rest p).position = (s.tr t).position := rfl
    simp only [startSpeed, OrderRecord.motion, hx, hstep, hpos, topAtTake, ← firstSubStep_eq, firstSubStep,
      Profile.creepSpeed]
    by_cases hb : ((s.tr t).position.referenced &&
        decide ((s.tr t).position.count ≤ ((s.servoOf t).approach : Int))) = true <;> simp only [hb] <;> simp

/-- What the start of a taken motion comes to depends on the state before by its engine, its vacuum supply, its arbiter
and its servo records alone. -/
theorem Departed.congr {s w u : State} {t : TransportId} {m : Motion} {top : Nat} (h : Departed w u t m top)
    (he : (w.tr t).engine = (s.tr t).engine) (hv : w.vacuum = s.vacuum) (ha : w.arbiter = s.arbiter)
    (ht : w.tables = s.tables) : Departed s u t m top := by
  have hservo : w.servoOf t = s.servoOf t := by rw [State.servoOf, State.servoOf, ht]
  have hcount : w.holderCount = s.holderCount := by rw [State.holderCount, State.holderCount, ha]
  unfold Departed Requested at h ⊢
  rw [he, hv, ha, hservo, hcount] at h
  exact h

/-- The head of the queue is taken, and its motion starts (R25 to R27, R43). -/
theorem runTasks_takes {s : State} {t : TransportId} {x : OrderRecord} {rest : List OrderRecord} {p : Profile}
    (hc : (s.tr t).canTake = true) (hq : (s.tr t).queue = x :: rest)
    (hp : entryServes x.kind (s.tables.profiles.get (x.resolve (s.tr t).selected)) = some p) (hk : x.kind ≠ .load)
    (hl : x.kind = .move → (∀ r, x.distance = some r → 0 < r) ∧ ∀ code, ¬ s.LimitMet t x.takeDirection code)
    (hv : (s.tr t).engine.v = 0)
    (hw : s.vacuum.ready = true →
      s.arbiter.waiting = [] ∨ (s.arbiter.limit ≠ 0 ∧ s.arbiter.limit ≤ s.holderCount)) (n : Nat) :
    ∃ u, runTasks (n + 10) [.takeTest t] s = .next u ∧ Starting t (s.setTr t (taking s t x rest p)) u ∧
      Departed s u t (x.motion (x.resolve (s.tr t).selected) p) (topAtTake s t x.kind p) := by
  obtain ⟨mon, htake⟩ := takeTest_sets hc hq hp fun hk => (hl hk).2
  let w : State := { s.setTr t (taking s t x rest p) with monitor := mon }
  have hwt : w.tr t = taking s t x rest p := State.tr_setTr_self ..
  have hcond := (canTake_iff.mp hc).loaded
  have hstand : Standing w t (x.motion (x.resolve (s.tr t).selected) p) := by
    refine ⟨by rw [hwt]; rfl, by rw [hwt]; exact hcond, by rw [hwt]; exact hv, ?_⟩
    by_cases hm : x.kind = .move
    · obtain ⟨hd, hlim⟩ := hl hm
      refine .inl ⟨hm, fun r hr => ?_, fun c => (limitMet_setTr (by rfl) _ c).not.mpr (hlim c)⟩
      rw [motion_r] at hr
      obtain ⟨d, hxd, rfl⟩ := Option.map_eq_some_iff.mp hr
      exact_mod_cast hd d hxd
    · refine .inr ⟨?_, ?_⟩
      · cases hx : x.kind <;> simp [OrderRecord.motion, hx] at hk hm ⊢
      · cases hx : x.kind <;> simp [OrderRecord.motion, OrderRecord.takeDirection, hx] at hk hm ⊢
  obtain ⟨u, hrun, hu, hdep⟩ := runTasks_departs hstand (by rw [hwt]; rfl) hw n
  rw [runTasks_succ, handle, htake]
  refine ⟨u, hrun, ⟨hu.transport, hu.ports, hu.owners, hu.tables⟩, ?_⟩
  rw [startTop_taking hk hwt rfl] at hdep
  exact hdep.congr (by rw [hwt]; rfl) rfl rfl rfl

/-- Transport `t` after the record `x` was taken as the motion `m` on the profile `p`, with nothing left in the queue; `s`
is the state before (R27, R151). -/
structure Taken (s u : State) (t : TransportId) (x : OrderRecord) (m : Motion) (p : Profile) : Prop where
  queue : (u.tr t).queue = []
  condition : (u.tr t).condition = (s.tr t).condition
  motion : (u.tr t).motion = some m
  departed : Departed s u t m (topAtTake s t x.kind p)
  servo : (u.tr t).servo = (s.tr t).servo
  load : (u.tr t).load = (s.tr t).load.atTake x.kind (s.tr t).position (s.servoOf t).approach
  tables : u.tables = s.tables

/-- A lone record in the queue is taken. -/
theorem runTasks_takes_alone {s : State} {t : TransportId} {x : OrderRecord} {p : Profile}
    (hc : (s.tr t).canTake = true)
    (hp : entryServes x.kind (s.tables.profiles.get (x.resolve (s.tr t).selected)) = some p) (hk : x.kind ≠ .load)
    (hl : x.kind = .move → (∀ r, x.distance = some r → 0 < r) ∧ ∀ code, ¬ s.LimitMet t x.takeDirection code)
    (hv : (s.tr t).engine.v = 0)
    (hw : s.vacuum.ready = true →
      s.arbiter.waiting = [] ∨ (s.arbiter.limit ≠ 0 ∧ s.arbiter.limit ≤ s.holderCount)) (n : Nat) :
    ∃ u, runTasks (n + 10) [.takeTest t] (s.setTr t (withQueue (s.tr t) [x])) = .next u ∧ u.ports = s.ports ∧
      u.owners = s.owners ∧ Taken s u t x (x.motion (x.resolve (s.tr t).selected) p) p := by
  let w : State := s.setTr t (withQueue (s.tr t) [x])
  have hwt : w.tr t = withQueue (s.tr t) [x] := State.tr_setTr_self ..
  obtain ⟨u, hrun, hu, hdep⟩ := runTasks_takes (s := w) (t := t) (x := x) (rest := []) (p := p) (by rw [hwt]; exact hc)
    (by rw [hwt]; rfl) (by rw [hwt]; exact hp) hk
    (fun hkm => ⟨(hl hkm).1, fun c => (limitMet_setTr (by rfl) _ c).not.mpr ((hl hkm).2 c)⟩)
    (by rw [hwt]; exact hv) hw n
  obtain ⟨ph, e, ht⟩ := hu.transport
  rw [State.tr_setTr_self] at ht
  rw [hwt] at hdep
  refine ⟨u, hrun, hu.ports, hu.owners, ?_⟩
  have htop : topAtTake w t x.kind p = topAtTake s t x.kind p := by
    rw [topAtTake, topAtTake, stepAtTake, stepAtTake, hwt]; rfl
  rw [htop] at hdep
  refine ⟨by rw [ht]; rfl, by rw [ht, taking, hwt]; rfl, by rw [ht, taking, hwt]; rfl,
    hdep.congr (by rw [hwt]; rfl) rfl rfl rfl, by rw [ht, taking, hwt]; rfl, by rw [ht, taking, hwt]; rfl, hu.tables⟩

/-- The end of an arrival event forgets the unit of the frame (R160). -/
theorem taken_endArrival {s u : State} {t : TransportId} {x : OrderRecord} {m : Motion} {p : Profile}
    (h : Taken s u t x m p) : Taken s (endArrival t u) t x m.settled p := by
  have ht : (endArrival t u).tr t = (u.tr t).settled := State.tr_setTr_self ..
  have hd := h.departed
  refine ⟨by rw [ht, Transport.settled, h.queue]; rfl, by rw [ht]; exact h.condition,
    by rw [ht, Transport.settled, h.motion]; rfl, ?_, by rw [ht]; exact h.servo, by rw [ht]; exact h.load, h.tables⟩
  unfold Departed Requested at hd ⊢
  rw [ht]
  exact hd

/-- The record of a head that ends at its take has a verdict with its code (R25, R26). -/
theorem takeVerdict_endsAtTake {s : State} {t : TransportId} {x : OrderRecord} {code : Byte} (h : s.EndsAtTake t x code) :
    ∃ st, takeVerdict x (s.tables.profiles.get (x.resolve (s.tr t).selected)) (s.tr t).position
      (s.servoOf t).eotAllowance = some st ∧ st.code = code := by
  have h' : (code = 0x25 ∧ (s.tables.profiles.get (x.resolve (s.tr t).selected) = none ∨ (x.kind ≠ .move ∧
        ∀ p, s.tables.profiles.get (x.resolve (s.tr t).selected) = some p → p.cls ≠ .rewind))) ∨
      (x.kind = .move ∧ s.tables.profiles.get (x.resolve (s.tr t).selected) ≠ none ∧
        s.LimitMet t (x.direction.getD .forward) code) := h
  obtain ⟨rfl, hbad⟩ | ⟨hk, hentry, hlim⟩ := h'
  · have he : entryServes x.kind (s.tables.profiles.get (x.resolve (s.tr t).selected)) = none := by
      refine Option.eq_none_iff_forall_ne_some.mpr fun p hp => ?_
      obtain ⟨hget, hcls⟩ := entryServes_eq_some.mp hp
      obtain hnone | ⟨hk, hne⟩ := hbad
      · rw [hnone] at hget; cases hget
      · exact hne p hget (hcls.resolve_left hk)
    exact ⟨.badProfile, by simp only [takeVerdict, he], rfl⟩
  · obtain ⟨p, hp⟩ := Option.ne_none_iff_exists'.mp hentry
    have he : entryServes x.kind (s.tables.profiles.get (x.resolve (s.tr t).selected)) = some p :=
      entryServes_eq_some.mpr ⟨hp, .inl hk⟩
    have hd : x.takeDirection = x.direction.getD .forward := by simp [OrderRecord.takeDirection, hk]
    obtain ⟨st, hst, hcode⟩ := limitAtRest_of_limitMet hlim
    exact ⟨st, by simp only [takeVerdict, he, hd, hst]; simp [hk], hcode⟩

theorem endsAtTake_congr {s w : State} {t : TransportId} {x : OrderRecord} {code : Byte}
    (hs : (w.tr t).selected = (s.tr t).selected) (hp : (w.tr t).sense.position = (s.tr t).sense.position)
    (ht : w.tables = s.tables) (h : s.EndsAtTake t x code) : w.EndsAtTake t x code := by
  have hservo : w.servoOf t = s.servoOf t := by rw [State.servoOf, State.servoOf, ht]
  unfold State.EndsAtTake State.LimitMet at h ⊢
  rw [hs, hp, ht, hservo]
  exact h

theorem takeEnding_congr {s w : State} {t : TransportId} (hp : (w.tr t).position = (s.tr t).position)
    (hm : ∀ q, (w.port q).unitMap = (s.port q).unitMap) (x : OrderRecord) (code : Byte) (q : PortId) :
    takeEnding w t x code q = takeEnding s t x code q := by
  rw [takeEnding, takeEnding, ending_congr s w hp hm]

/-- The head of the queue ends at its take (R25, R26). -/
theorem runTasks_takeEnds {s : State} {t : TransportId} {x : OrderRecord} {rest : List OrderRecord} {code : Byte}
    (hc : (s.tr t).canTake = true) (hq : (s.tr t).queue = x :: rest) (he : s.EndsAtTake t x code) (n : Nat)
    (l : List Task) :
    runTasks (n + 1) (.takeTest t :: l) s = runTasks n (.takeTest t :: l ++ [.idleReport t])
      (sending (takeEnding s t x code) (s.setTr t (withQueue (s.tr t) rest))) := by
  obtain ⟨st, hst, rfl⟩ := takeVerdict_endsAtTake he
  rw [runTasks_succ, handle, takeTest_ends hc hq hst]
  rfl

theorem withQueue_nil {tr : Transport} (hq : tr.queue = []) : withQueue tr [] = tr := by rw [withQueue, ← hq]

theorem settled_of_empty {tr : Transport} (hq : tr.queue = []) (hm : tr.motion = none) (hs : tr.hold.slot1 = .free) :
    tr.settled = tr := by
  have h1 : tr.queue.map OrderRecord.settled = tr.queue := by rw [hq]; rfl
  have h2 : tr.motion.map Motion.settled = tr.motion := by rw [hm]; rfl
  have h3 : tr.hold.slot1.settled = tr.hold.slot1 := by rw [hs]; rfl
  rw [Transport.settled, h1, h2, h3]

theorem relieved_none {s : State} {t : TransportId} (hr : (s.tr t).release = none) : s.relieved t = s := by
  simp [State.relieved, hr]

/-- A queued order that joins an empty queue, with no release pending: the take test, and the end of the arrival event
(R22, R25). -/
theorem exec_command_alone {x : QueuedOrder} {h : Head} {t : TransportId} {p : Profile} {s : State} (hl : x.Legal)
    (ht : s.Takes h.port x.body) (hm : s.MayOrder h t) (hc : (s.tr t).condition = .loaded) (hs : x.Served s t p)
    (hq : (s.tr t).queue = []) (hr : (s.tr t).release = none) :
    exec (x.command h) s = mapNext (endArrival t) (runTasks 4096 [.takeTest t]
      (((s.setOwner t (some h.port)).counted h.port).setTr t (withQueue (s.tr t) [arriving x h]))) := by
  rw [exec_command hl ht hm, serveQueued_joins hm.toMaySend hc hs (by simp [hq])]
  simp only [cancelRelease_none (s := (s.setOwner t (some h.port)).counted h.port) hr, State.setQueue, tr_counted,
    State.tr_setOwner, hq, List.nil_append]
  rfl

/-- A queued order that ends at its take is answered, and leaves the transport as it was (R26). -/
theorem exec_command_ends {x : QueuedOrder} {h : Head} {t : TransportId} {p : Profile} {s : State} {code : Byte}
    (hl : x.Legal) (ht : s.Takes h.port x.body) (hm : s.MayOrder h t) (hcan : (s.tr t).canTake = true)
    (hs : x.Served s t p) (hq : (s.tr t).queue = []) (hr : (s.tr t).release = none) (hslot : (s.tr t).hold.slot1 = .free)
    (he : s.EndsAtTake t (arriving x h) code) :
    exec (x.command h) s = .next (sending (takeEnding s t (arriving x h) code)
      ((s.setOwner t (some h.port)).counted h.port)) := by
  obtain ⟨hc, hphase, hmot, -, -⟩ := canTake_iff.mp hcan
  let w : State := (s.setOwner t (some h.port)).counted h.port
  let v : State := w.setTr t (withQueue (s.tr t) [arriving x h])
  have hvt : v.tr t = withQueue (s.tr t) [arriving x h] := State.tr_setTr_self ..
  have hback : v.setTr t (withQueue (v.tr t) []) = w := by
    rw [hvt, State.setTr_setTr]
    exact (congrArg (w.setTr t) (withQueue_nil hq)).trans (State.setTr_tr w t)
  have hend : takeEnding v t (arriving x h) code = takeEnding s t (arriving x h) code :=
    funext (takeEnding_congr (s := s) (w := v) (by rw [hvt]; rfl) (unitMap_counted s h.port) _ _)
  have hve : v.EndsAtTake t (arriving x h) code := 
    endsAtTake_congr (s := s) (by rw [hvt]; rfl) (by rw [hvt]; rfl) rfl he
  rw [exec_command_alone hl ht hm hc hs hq hr]
  change mapNext (endArrival t) (runTasks (4095 + 1) [.takeTest t] v) = _
  rw [runTasks_takeEnds (rest := []) (by rw [hvt]; exact hcan) (by rw [hvt]; rfl) hve, hback, hend]
  simp only [List.cons_append, List.nil_append]
  rw [runTasks_takeTest_empty (s := sending _ w) hq, runTasks_idleReport (s := sending _ w) (idle_of_stopped hc hphase hq),
    runTasks_nil, relieved_none (s := sending _ w) hr]
  have hset : (s.tr t).settled = s.tr t := settled_of_empty hq hmot hslot
  change Host.Outcome.next ((sending _ w).setTr t (s.tr t).settled) = _
  rw [hset]
  exact congrArg _ (State.setTr_tr (sending _ w) t)

/-- The panel's REWIND and UNLOAD at an idle transport: the take test of a lone record (R15, R25). -/
theorem panelOrder_alone {s : State} {t : TransportId} (k : OrderKind) (hoff : (s.tr t).sense.offline = true)
    (hpres : (s.tr t).lines.present = true) (hcan : (s.tr t).canTake = true) (hq : (s.tr t).queue = []) :
    panelOrder t k s = runTasks 4096 [.takeTest t] (s.setTr t (withQueue (s.tr t) [panelRecord k])) := by
  have hidle : (s.tr t).panelIdle = true := by
    obtain ⟨hc, hphase, -, hpaused, -⟩ := canTake_iff.mp hcan
    simp [Transport.panelIdle, Transport.panelHeard, hoff, hpres, hq, hc, hphase, hpaused]
  simp only [panelOrder, hidle, if_true, hq, List.nil_append]
  rfl

/-- The transport with the paused flag clear and this queue left. -/
def unpaused (tr : Transport) (q : List OrderRecord) : Transport := { tr with paused := false, queue := q }

/-- CONTINUE at a paused transport whose head ends at its take: the head is answered, and the take test is made again, before
the DONE (R25, R36, log 15). -/
theorem exec_continue_ends {h : Head} {t : TransportId} {s : State} {x : OrderRecord} {rest : List OrderRecord}
    {code : Byte}
    (ht : s.Takes h.port []) (hm : s.MayOrder h t) (hp : (s.tr t).paused = true) (hh : (s.tr t).hold = idleHold)
    (hcan : (unpaused (s.tr t) (x :: rest)).canTake = true) (hq : (s.tr t).queue = x :: rest) (he : s.EndsAtTake t x code) :
    exec (.continueOrder h) s = runTasks 4095 [.takeTest t, .answer h .done [], .idleReport t]
      (sending (takeEnding s t x code)
        (((s.setTr t (unpaused (s.tr t) rest)).setOwner t (some h.port)).counted h.port)) := by
  have hc : (s.tr t).condition = .loaded := (canTake_iff.mp hcan).loaded
  let w : State := ((s.setTr t (unpaused (s.tr t) (x :: rest))).setOwner t (some h.port)).counted h.port
  have hwt : w.tr t = unpaused (s.tr t) (x :: rest) := State.tr_setTr_self ..
  have hcont : continueEffect t ((s.setOwner t (some h.port)).counted h.port) = { state := w, now := [.takeTest t] } := by
    have hactive : ((s.tr t).hold.active == some .pause) = false := by rw [hh]; rfl
    have hwithout : (s.tr t).hold.withoutPause = (s.tr t).hold := by rw [hh]; rfl
    simp only [continueEffect, tr_counted, State.tr_setOwner, hactive, hwithout, hp, Bool.false_eq_true, if_false, if_true,
      List.nil_append]
    have hw : w = ((s.setTr t (unpaused (s.tr t) (s.tr t).queue)).setOwner t (some h.port)).counted h.port := by rw [hq]
    rw [hw]
    rfl
  have hend : takeEnding w t x code = takeEnding s t x code :=
    funext (takeEnding_congr (s := s) (w := w) (by rw [hwt]; rfl) (unitMap_counted s h.port) _ _)
  have hwe : w.EndsAtTake t x code := endsAtTake_congr (s := s) (by rw [hwt]; rfl) (by rw [hwt]; rfl) rfl he
  have hback : w.setTr t (withQueue (w.tr t) rest) =
      ((s.setTr t (unpaused (s.tr t) rest)).setOwner t (some h.port)).counted h.port := by
    rw [hwt]
    exact congrArg (fun y : State => (y.setOwner t (some h.port)).counted h.port) (State.setTr_setTr s t _ _)
  rw [exec_continue ht hm, serveContinue_eq hm.toMaySend (by simp [hc]), hcont]
  change runTasks (4095 + 1) [.takeTest t, .answer h .done []] w = _
  rw [runTasks_takeEnds (rest := rest) (by rw [hwt]; exact hcan) (by rw [hwt]; rfl) hwe, hback, hend]
  rfl

/-- A taken MOVE with READY false stays in WAIT VACUUM; the review changes the vacuum record alone (R43). -/
theorem runTasks_departs_waiting {s : State} {t : TransportId} {m : Motion} (hm : (s.tr t).motion = some m)
    (hk : m.kind = .move) (hp : (s.tr t).phase = .waitVacuum) (hr : s.vacuum.ready = false) (n : Nat) (l : List Task) :
    ∃ v, runTasks (n + 2) (.vacuumReview :: .startFromRest t :: l) s = runTasks n l { s with vacuum := v } := by
  obtain ⟨v, hs, hr'⟩ : ∃ v : Vacuum, reviewVacuum s = { s with vacuum := v } ∧ v.ready = false :=
    ⟨_, reviewVacuum_of_not_ready hr⟩
  have hsame : ({ s.tr t with
      phase := .waitVacuum
      engine := { (s.tr t).engine with workTop := (s.tr t).topAtStart m (s.servoOf t).approach } } : Transport) =
      s.tr t := by
    rw [Transport.topAtStart, hk, ← hp]
  have hstart : startFromRest t { s with vacuum := v } = Reaction.idle { s with vacuum := v } :=
    (startFromRest_waits (s := { s with vacuum := v }) hm hr').trans (congrArg Reaction.idle
      ((congrArg (State.setTr { s with vacuum := v } t) hsame).trans (State.setTr_tr { s with vacuum := v } t)))
  refine ⟨v, ?_⟩
  rw [runTasks_vacuumReview, hs, runTasks_succ, handle, hstart]
  simp only [Reaction.idle, List.nil_append, List.append_nil]

/-- At a transport that waits the idle report does nothing (R40). -/
theorem runTasks_idleReport_waiting {s : State} {t : TransportId} (hc : (s.tr t).condition = .loaded)
    (hp : (s.tr t).phase = .waitVacuum) (n : Nat) (l : List Task) :
    runTasks (n + 1) (.idleReport t :: l) s = runTasks n l s := by
  have hi : (s.tr t).idle = false := by simp [Transport.idle, hc, hp]
  simp [handle, idleReport, hi, Reaction.idle]

/-- A queued order that joins an empty queue and meets no limit is taken, and its sender owns the transport (R22, R25). -/
theorem exec_command_takes {x : QueuedOrder} {h : Head} {t : TransportId} {p : Profile} {s : State} (hl : x.Legal)
    (ht : s.Takes h.port x.body) (hm : s.MayOrder h t) (hcan : (s.tr t).canTake = true) (hs : x.Served s t p)
    (hq : (s.tr t).queue = []) (hr : (s.tr t).release = none) (hv : (s.tr t).engine.v = 0)
    (hw : s.vacuum.ready = true →
      s.arbiter.waiting = [] ∨ (s.arbiter.limit ≠ 0 ∧ s.arbiter.limit ≤ s.holderCount))
    (hlim : ∀ d n r, x = .move d n r → ∀ code, ¬ s.LimitMet t d code) :
    ∃ u, exec (x.command h) s = .next u ∧
      (u.port h.port = (s.counted h.port).port h.port ∧ u.owner t = some h.port) ∧ Taken s u t (arriving x h)
        ((arriving x h).motion (x.profileNo (s.tr t).selected) p).settled p := by
  let w : State := (s.setOwner t (some h.port)).counted h.port
  have hk : (arriving x h).kind ≠ .load := by cases x <;> simp [arriving, QueuedOrder.record]
  have hmove : (arriving x h).kind = .move → (∀ r, (arriving x h).distance = some r → 0 < r) ∧
      ∀ code, ¬ w.LimitMet t (arriving x h).takeDirection code := by
    cases x with
    | move d n r => exact fun _ => ⟨fun r' hr' => by cases hr'; exact hl.1, hlim d n r rfl⟩
    | rewind n => exact fun hk => by cases hk
    | unload => exact fun hk => by cases hk
  obtain ⟨u, hrun, hports, howners, hu⟩ := runTasks_takes_alone (s := w) hcan (entryServes_arriving.mpr hs) hk hmove hv
    hw 4086
  rw [arriving_resolve] at hu
  have hu' : Taken s u t (arriving x h) ((arriving x h).motion (x.profileNo (s.tr t).selected) p) p :=
    ⟨hu.queue, hu.condition, hu.motion, hu.departed, hu.servo, hu.load, hu.tables⟩
  refine ⟨endArrival t u, ?_, ⟨?_, ?_⟩, taken_endArrival hu'⟩
  · rw [exec_command_alone hl ht hm (canTake_iff.mp hcan).loaded hs hq hr]
    exact congrArg (mapNext (endArrival t)) hrun
  · rw [endArrival, State.port_setTr, State.port, hports]; rfl
  · rw [endArrival, State.owner_setTr, State.owner, howners]
    exact State.owner_setOwner_self s t (some h.port)

/-- A REWIND or UNLOAD of the panel is taken (R15, R25). -/
theorem panelOrder_takes {s : State} {t : TransportId} {k : OrderKind} {p : Profile} (hk : k = .rewind ∨ k = .unload)
    (hoff : (s.tr t).sense.offline = true) (hpres : (s.tr t).lines.present = true) (hcan : (s.tr t).canTake = true)
    (hq : (s.tr t).queue = []) (hp : s.tables.profiles.get 15 = some p) (hcls : p.cls = .rewind)
    (hv : (s.tr t).engine.v = 0)
    (hw : s.vacuum.ready = true →
      s.arbiter.waiting = [] ∨ (s.arbiter.limit ≠ 0 ∧ s.arbiter.limit ≤ s.holderCount)) :
    ∃ u, panelOrder t k s = .next u ∧ u.ports = s.ports ∧ u.owners = s.owners ∧
      Taken s u t (panelRecord k) ((panelRecord k).motion 15 p) p := by
  have hload : (panelRecord k).kind ≠ .load := by obtain rfl | rfl := hk <;> simp [panelRecord]
  have hmove : (panelRecord k).kind ≠ .move := by obtain rfl | rfl := hk <;> simp [panelRecord]
  have hn : (panelRecord k).resolve (s.tr t).selected = 15 := by obtain rfl | rfl := hk <;> rfl
  obtain ⟨u, hrun, hports, howners, hu⟩ := runTasks_takes_alone (x := panelRecord k) hcan
    (entryServes_eq_some.mpr ⟨by rw [hn, hp], .inr hcls⟩) hload (fun hk => absurd hk hmove) hv hw 4086
  rw [hn] at hu
  exact ⟨u, (panelOrder_alone k hoff hpres hcan hq).trans hrun, hports, howners, hu⟩

/-- A MOVE at the head is taken with READY false, and waits (R25 to R27, R43). -/
theorem runTasks_takes_waiting {s : State} {t : TransportId} {y : OrderRecord} {others : List OrderRecord} {d : Direction}
    {p : Profile} (hcan : (s.tr t).canTake = true) (hq : (s.tr t).queue = y :: others) (hk : y.kind = .move)
    (hdir : y.direction = some d) (hp : s.tables.profiles.get (y.profile.getD (s.tr t).selected) = some p)
    (hlim : ∀ c, ¬ s.LimitMet t d c) (hr : s.vacuum.ready = false) (n : Nat) (l : List Task) :
    ∃ u, runTasks (n + 3) (.takeTest t :: l) s = runTasks n l u ∧ u.ports = s.ports ∧ u.owners = s.owners ∧
      u.tr t = { s.tr t with
        queue := others, phase := .waitVacuum
        motion := some {
          kind := .move, tag := y.tag, origin := y.origin, direction := d, profileNo := y.profile.getD (s.tr t).selected
          copy := p, r := y.distance.map (fun (r : Nat) => (r : Int)), endReason := none
          arrivalUnit := y.arrivalUnit } } := by
  have hn : y.resolve (s.tr t).selected = y.profile.getD (s.tr t).selected := by rw [OrderRecord.resolve, hk]
  have hd : y.takeDirection = d := by simp [OrderRecord.takeDirection, hk, hdir]
  obtain ⟨mon, htake⟩ := takeTest_sets (p := p) hcan hq (entryServes_eq_some.mpr ⟨by rw [hn, hp], .inl hk⟩)
    fun _ c => by rw [hd]; exact hlim c
  let u : State := { s.setTr t (taking s t y others p) with monitor := mon }
  have hut : u.tr t = taking s t y others p := State.tr_setTr_self ..
  obtain ⟨v, hrun⟩ := runTasks_departs_waiting (s := u) (m := y.motion (y.resolve (s.tr t).selected) p)
    (by rw [hut]; rfl) hk (by rw [hut]; rfl) hr n l
  refine ⟨{ u with vacuum := v }, ?_, rfl, rfl, ?_⟩
  · rw [runTasks_succ, handle, htake]
    simp only [List.cons_append, List.nil_append, List.append_nil]
    exact hrun
  · refine hut.trans ?_
    rw [taking, hn, motion_of_move hk hdir, hk]
    rfl

/-- Settles O39: a record that is taken alone, from a port or the panel, starts; a head that ends at its take is answered and
the next record is taken (R25 to R27, R43, R44, R151). -/
theorem queuedOrderIsTakenAtRest : Obligations.QueuedOrderIsTakenAtRest := by
  intro h t p s tr hcond hphase hmot hband hv hroom step gates taken
  have hcan : ∀ q, (unpaused tr q).canTake = true := fun q =>
    canTake_iff.mpr ⟨hcond, hphase, hmot, rfl, hband⟩
  have hcan' : tr.paused = false → tr.canTake = true := fun hpaused =>
    canTake_iff.mpr ⟨hcond, hphase, hmot, hpaused, hband⟩
  have conclude : ∀ {u : State} {x : OrderRecord} {k : OrderKind} {d : Direction} {n : Fin 16} {r : Option Nat}
      {o : Origin} {g : Byte}, Taken s u t x {
        kind := k, tag := g, origin := o, direction := d, profileNo := n, copy := p
        r := r.map (fun (x : Nat) => (x : Int)), endReason := none, arrivalUnit := none } p →
      x.kind = k → k ≠ .load → taken u k d n r o g := by
    rintro u x k d n r o g hu rfl hk
    refine ⟨hu.queue, hu.condition.trans hcond, hu.motion, hu.departed, hu.servo, fun hkm => ?_, fun hkm => ?_,
      hu.tables⟩
    · rw [hu.load]
      have := atTake_sequence (s.tr t).load (s.tr t).position (s.servoOf t).approach hkm hk
      rwa [firstSubStep_eq] at this
    · rw [hu.load, hkm]; rfl
  refine ⟨?queued, ?panel, ?paused⟩
  case queued =>
    intro x hpaused hq hrel hl ht hm hs sent
    have take := exec_command_takes hl ht hm (hcan' hpaused) hs hq hrel hv hroom
    refine ⟨?_, ?_, ?_⟩
    · rintro d n r rfl
      refine ⟨fun hlim => ?_, fun code hlim hslot => ?_⟩
      · obtain ⟨u, hrun, hsent, hu⟩ := take fun d' n' r' hx => by cases hx; exact hlim
        refine ⟨u, hrun, hsent, conclude (x := arriving (.move d n r) h) ?_ rfl (by simp)⟩
        rwa [motion_of_move (d := d) rfl rfl] at hu
      · have hentry : s.tables.profiles.get ((arriving (.move d n r) h).resolve tr.selected) ≠ none := by
          rw [arriving_resolve, show s.tables.profiles.get _ = some p from hs.1]; simp
        have he : s.EndsAtTake t (arriving (.move d n r) h) code := .inr ⟨rfl, hentry, hlim⟩
        refine ⟨_, exec_command_ends hl ht hm (hcan' hpaused) hs hq hrel hslot he, rfl, fun q => ?_⟩
        have horigin : (arriving (.move d n r) h).origin = .port q ↔ q = h.port := by
          simp [arriving, QueuedOrder.record, eq_comm]
        simp only [port_sending, takeEnding, horigin]
        rfl
    · rintro n rfl
      obtain ⟨u, hrun, hsent, hu⟩ := take fun _ _ _ hx => by cases hx
      exact ⟨u, hrun, hsent, conclude hu rfl (by simp)⟩
    · rintro rfl
      obtain ⟨u, hrun, hsent, hu⟩ := take fun _ _ _ hx => by cases hx
      exact ⟨u, hrun, hsent, conclude hu rfl (by simp)⟩
  case panel =>
    intro hpaused hq hoff hpres hp hcls
    have press : ∀ k : OrderKind, k = .rewind ∨ k = .unload → ∃ u, panelOrder t k s = .next u ∧ u.ports = s.ports ∧
        u.owners = s.owners ∧ taken u k .reverse 15 none .panel 0 := by
      intro k hk
      obtain ⟨u, hrun, hports, howners, hu⟩ := panelOrder_takes hk hoff hpres (hcan' hpaused) hq hp hcls hv hroom
      refine ⟨u, hrun, hports, howners, conclude (x := panelRecord k) ?_ rfl ?_⟩ <;> obtain rfl | rfl := hk
      exacts [hu, hu, by simp, by simp]
    exact ⟨press .rewind (.inl rfl), press .unload (.inr rfl)⟩
  case paused =>
    intro x rest code hpaused hh hq he ht hm gone sends
    have hexec := exec_continue_ends ht hm hpaused hh (hcan _) hq he
    let w : State := sending (takeEnding s t x code) (gone.counted h.port)
    have hwt : w.tr t = unpaused tr rest := State.tr_setTr_self ..
    have hsends : sends (sending (doneTo h) w) := fun q => by
      rw [port_sending, port_sending, sent_sent]; rfl
    refine ⟨?_, ?_⟩
    · rintro rfl
      refine ⟨sending (doneTo h) w, hexec.trans ?_, rfl, hsends⟩
      change runTasks (4092 + 3) [.takeTest t, .answer h .done [], .idleReport t] w = _
      rw [runTasks_takeTest_empty (by rw [hwt]; rfl), runTasks_answer, runTasks_idleReport (s := sending (doneTo h) w)
        (by rw [tr_sending, hwt]; exact idle_of_stopped hcond hphase rfl), runTasks_nil]
    · rintro y others d rfl hk hdir hr hp hlim
      obtain ⟨u, hrun, hports, howners, hut⟩ := runTasks_takes_waiting (s := w) (y := y) (others := others) (p := p)
        (by rw [hwt]; exact hcan _) (by rw [hwt]; rfl) hk hdir (by rw [hwt]; exact hp)
        (fun c => by rw [State.LimitMet, hwt]; exact hlim c) hr 4092 [.answer h .done [], .idleReport t]
      refine ⟨sending (doneTo h) u, (hexec.trans hrun).trans ?_, fun q => ?_, ?_, ?_⟩
      · rw [runTasks_answer, runTasks_idleReport_waiting (s := sending (doneTo h) u)
          (by rw [tr_sending, hut, hwt]; exact hcond) (by rw [tr_sending, hut]), runTasks_nil]
      · rw [← hsends q, port_sending, port_sending, State.port, hports]; rfl
      · rw [owner_sending, State.owner, howners]
        exact State.owner_setOwner_self _ t (some h.port)
      · have hgone : gone.tr t = unpaused tr (y :: others) := State.tr_setTr_self ..
        rw [tr_sending, hut, hwt, hgone]
        rfl

end Sys2Proof.OrderQueue
end

section
/-! SUPPORT. The stop distance (R46), and the ramp step of a motion that meets no limit (R45, R48, R49, R57, R126, R179), with their statements. -/

namespace Sys2Proof.RampEngine

open Sys2Proof Sys2Proof.Machine Sys2Proof.OrderQueue

/-! ### The stop distance -/

/-- Truncating division is the floor of the exact quotient (R46). -/
theorem stopDistance_eq_floors (p : Profile) (v : Nat) : stopDistance p v =
    ⌊((v : ℚ) ^ 2 * p.tR) / (2 * p.aDec * 1000000)⌋₊ + ⌊((v : ℚ) * p.tR) / 1000000⌋₊ := by
  have hbrake := Nat.floor_div_eq_div (K := ℚ) (v * v * p.tR) (2 * p.aDec * 1000000)
  have hstep := Nat.floor_div_eq_div (K := ℚ) (v * p.tR) 1000000
  push_cast at hbrake hstep
  rw [stopDistance, pow_two, hbrake, hstep]

/-- For profile 0 as hard reset loads it the period of 250 µs cancels (R46). -/
theorem stopDistance_profile0 (v : Nat) : stopDistance profile0 v = v ^ 2 / 25000000 + v / 4000 := by
  have hbrake : v * v * 250 / (25000000 * 250) = v * v / 25000000 := Nat.mul_div_mul_right _ _ (by decide)
  have hstep : v * 250 / (4000 * 250) = v / 4000 := Nat.mul_div_mul_right _ _ (by decide)
  calc stopDistance profile0 v = v * v * 250 / (25000000 * 250) + v * 250 / (4000 * 250) := rfl
    _ = v ^ 2 / 25000000 + v / 4000 := by rw [hbrake, hstep, pow_two]

/-- Settles O48: the model's two truncating divisions, as floors and for profile 0 (R46). -/
theorem stopDistanceIsTheSumOfTwoFloors : Obligations.StopDistanceIsTheSumOfTwoFloors :=
  ⟨fun p v _ => stopDistance_eq_floors p v, stopDistance_zero,
    profile0, rfl, stopDistance_profile0, by decide, by decide, by decide, by decide⟩

/-! ### The parts of a ramp step that meets no limit -/

theorem hasPhase_of_runsOn {s : State} {t : TransportId} {m : Motion} (h : s.RunsOn t m) : (s.tr t).hasPhase = true := by
  obtain hc | ⟨hc, hl⟩ := h.condition
  · simp [Transport.hasPhase, hc]
  · simp [Transport.hasPhase, Transport.searching, hc, hl]

/-- Neither limit of part 1 is reached (R47). -/
theorem limitTests_of_runsOn {s : State} {t : TransportId} {m : Motion} (h : s.RunsOn t m) :
    limitTests t s = Reaction.idle s := by
  have he : eotLimitReached m (s.tr t).position (s.servoOf t).eotAllowance (s.tr t).engine.v.natAbs = false :=
    eotLimitReached_eq_false h.tape
  have hd : distanceReached m (s.tr t).engine.v.natAbs = false := by
    unfold distanceReached
    split
    · rename_i r hk hr
      exact decide_eq_false (not_le.mpr (h.distance hk r hr))
    · rfl
  simp [limitTests, h.motion, he, hd]

/-- A ramp step in ACCEL or CRUISE that meets no limit is its velocity update and its rest test (R45, R47). -/
theorem exec_rampStep_of_runsOn {s : State} {t : TransportId} {m : Motion} (h : s.RunsOn t m)
    (hp : (s.tr t).phase = .accel ∨ (s.tr t).phase = .cruise) :
    exec (.rampStep t) s = runTasks 4095 [.velocityUpdate t, .restTest t] s := by
  have hmoving : (s.tr t).phase.moving = true := by obtain hp | hp := hp <;> simp [hp, Phase.moving]
  rw [exec_rampStep_parts (hasPhase_of_runsOn h) hmoving h.timer, runTasks_succ, handle, limitTests_of_runsOn h]
  rfl

/-- In ACCEL or CRUISE the velocity is in no deceleration that could come to rest (R51). -/
theorem runTasks_restTest {s : State} {t : TransportId} (hp : (s.tr t).phase = .accel ∨ (s.tr t).phase = .cruise) (n : Nat) :
    runTasks (n + 1) [.restTest t] s = .next s := by
  rw [runTasks_succ, handle, restTest_idle hp]
  exact runTasks_nil ..

/-! ### The velocity update -/

/-- The transport at this speed in the direction of its motion, the tach-loss timer started where the velocity leaves 0
(R48, R57). -/
def speeded (s : State) (t : TransportId) (m : Motion) (v : Nat) : Transport :=
  { s.tr t with engine := { (s.tr t).engine with
      v := velocityOf m.direction v
      tachTimer := if (s.tr t).engine.v = 0 ∧ v ≠ 0 ∧ (s.tr t).engine.tach = .clear then
          some (1000 * (s.servoOf t).tachTimeout)
        else (s.tr t).engine.tachTimer } }

/-- An update to a speed other than 0 starts the timer by the velocity before it and the tach state (R57). -/
theorem speeded_of_pos {s : State} {t : TransportId} {v : Nat} (m : Motion) (hv : 0 < v) :
    speeded s t m v = { s.tr t with engine := { (s.tr t).engine with
      v := velocityOf m.direction v
      tachTimer := if (s.tr t).engine.v = 0 ∧ (s.tr t).engine.tach = .clear then
          some (1000 * (s.servoOf t).tachTimeout)
        else (s.tr t).engine.tachTimer } } := by
  simp [speeded, Nat.ne_of_gt hv]

/-- The timer stands where the velocity was not 0 (R57). -/
theorem speeded_of_moving {s : State} {t : TransportId} (m : Motion) (h0 : (s.tr t).engine.v ≠ 0) (v : Nat) :
    speeded s t m v = { s.tr t with engine := { (s.tr t).engine with v := velocityOf m.direction v } } := by
  simp [speeded, h0]

/-- What the velocity update does, by the speed it comes to and whether that is a CRUISE entry (R48 to R50). -/
theorem velocityUpdate_eq {s : State} {t : TransportId} {m : Motion} {v : Nat} {cruise : Bool}
    (hm : (s.tr t).motion = some m)
    (hn : nextSpeed (s.tr t).phase m.copy ((s.tr t).engine.workTop.getD m.copy.vTop) (s.tr t).engine.v.natAbs = (v, cruise)) :
    velocityUpdate t s = if cruise then
        giveUpGrant t (monitorCruise t (s.setTr t { speeded s t m v with phase := .cruise }))
      else Reaction.idle (s.setTr t (speeded s t m v)) := by
  have htimer : (if (s.tr t).engine.v == 0 && v != 0 && (s.tr t).engine.tach == .clear then
      some (s.servoOf t).tachTime else (s.tr t).engine.tachTimer) = (speeded s t m v).engine.tachTimer := by
    simp [speeded, ServoRecord.tachTime, ms, Nat.mul_comm, and_assoc]
  simp only [velocityUpdate, hm, hn, htimer, setPhase_setTr, signed_eq_velocityOf]
  rw [← hm]
  rfl

theorem nextSpeed_rises {p : Profile} {top v : Nat} (h : v + p.aAcc < top) :
    nextSpeed .accel p top v = (v + p.aAcc, false) := by
  have hv : v < top := by omega
  simp [nextSpeed, hv, h, Nat.le_of_lt h]

theorem nextSpeed_reaches {p : Profile} {top v : Nat} (hv : v < top) (h : top ≤ v + p.aAcc) :
    nextSpeed .accel p top v = (top, true) := by
  simp [nextSpeed, hv, h]

theorem nextSpeed_falls {p : Profile} {top v : Nat} (h : top < v) :
    nextSpeed .cruise p top v = (max (v - p.aDec) top, false) := by
  simp [nextSpeed, h]

/-- An update that enters no phase ends the ramp step (R48, R49). -/
theorem runTasks_velocityUpdate {s : State} {t : TransportId} {m : Motion} {v : Nat} (hm : (s.tr t).motion = some m)
    (hp : (s.tr t).phase = .accel ∨ (s.tr t).phase = .cruise)
    (hn : nextSpeed (s.tr t).phase m.copy ((s.tr t).engine.workTop.getD m.copy.vTop) (s.tr t).engine.v.natAbs = (v, false))
    (n : Nat) : runTasks (n + 2) [.velocityUpdate t, .restTest t] s = .next (s.setTr t (speeded s t m v)) := by
  have hrest := runTasks_restTest (s := s.setTr t (speeded s t m v)) (by rw [State.tr_setTr_self]; exact hp) n
  rw [runTasks_succ, handle, velocityUpdate_eq hm hn]
  exact hrest

/-! ### The entry to CRUISE -/

/-- The start measurement of the watched transport is complete at its CRUISE entry (R179). -/
theorem monitorCruise_completes {s : State} {t : TransportId} {start : Nat} (hr : s.monitor.running = some start)
    (hw : s.monitor.transport = t ∧ s.monitor.measure = .startLatency) :
    let latency := min 65535 ((s.clock - start) / 1000)
    monitorCruise t s = { s with monitor := { s.monitor with
      samples := min 65535 (s.monitor.samples + 1), last := some latency
      maximum := some (max (s.monitor.maximum.getD 0) latency), running := none } } := by
  cases hmax : s.monitor.maximum <;>
    simp [monitorCruise, Monitor.watches, hw, hr, hmax, Monitor.count, satSucc, counterTop]

/-- Without a measurement of this transport the CRUISE entry leaves the monitor (R179). -/
theorem monitorCruise_idle {s : State} {t : TransportId}
    (h : s.monitor.running = none ∨ ¬ (s.monitor.transport = t ∧ s.monitor.measure = .startLatency)) :
    monitorCruise t s = s := by
  unfold monitorCruise
  dsimp only
  split
  · rename_i hw hr
    obtain h | h := h
    · rw [h] at hr; cases hr
    · exact absurd (by simpa [Monitor.watches] using hw) h
  · rfl

theorem letGo_withMonitor (s : State) (t : TransportId) (x : Monitor) :
    ({ s with monitor := x } : State).letGo t = { s.letGo t with monitor := x } := by
  by_cases hg : (s.tr t).engine.grant = .held <;> simp only [State.letGo, State.tr_monitor, hg, if_true, if_false]
  rfl

theorem started_withMonitor (s : State) (t : TransportId) (x : Monitor) :
    ({ s with monitor := x } : State).started t = { s.started t with monitor := x } := by
  unfold State.started
  simp only [State.tr_monitor]
  split <;> rfl

/-- The heads that start leave the monitor: only a take or a CRUISE entry is reported to it (R179). -/
theorem served_withMonitor (s : State) (heads rest : List WaitEntry) (x : Monitor) :
    ({ s with monitor := x } : State).served heads rest = { s.served heads rest with monitor := x } := by
  let starts (w : State) (e : WaitEntry) : State := w.started e.transport
  exact List.foldl_hom (l := heads) (init := { s with arbiter := { s.arbiter with waiting := rest } })
    (g₁ := starts) (g₂ := starts) (fun w => { w with monitor := x }) fun w e => started_withMonitor w e.transport x

/-- Serving the list changes no transport that is not served. -/
theorem tr_served_ne {s : State} {t : TransportId} {heads : List WaitEntry} (h : ∀ e ∈ heads, e.transport ≠ t)
    (rest : List WaitEntry) : (s.served heads rest).tr t = s.tr t :=
  List.foldlRecOn (motive := fun w : State => w.tr t = s.tr t) heads _ rfl
    fun _ hw e he => (State.tr_started_ne (h e he).symm).trans hw

theorem serves_withMonitor {s : State} {heads rest : List WaitEntry} (h : s.Serves heads rest) (x : Monitor) :
    ({ s with monitor := x } : State).Serves heads rest where
  list := h.list
  starts e he := (h.starts e he).imp fun _ k => k.of_tr rfl rfl
  free := h.free
  once := h.once
  room := h.room
  full := h.full

/-- The list holds each transport once, so at most four heads are served. -/
theorem serves_length_le {s : State} {heads rest : List WaitEntry} (h : s.Serves heads rest) : heads.length ≤ 4 := by
  have hsub : heads.map WaitEntry.transport ⊆ transportIds := fun t _ => by cases t <;> simp [transportIds]
  simpa [transportIds] using (h.once.subperm hsub).length_le

/-- A CRUISE entry at a transport whose grant, if it holds one, no one waits for (R48, R126). -/
theorem runTasks_cruiseEntry_free {s : State} {t : TransportId} (hp : (s.tr t).phase = .cruise) (hf : s.FreeToLetGo t)
    (n : Nat) : runTasks (n + 2) ((giveUpGrant t s).now ++ [.restTest t] ++ (giveUpGrant t s).later) (giveUpGrant t s).state =
      .next (s.letGo t) := by
  by_cases hg : (s.tr t).engine.grant = .held
  · exact runTasks_cruiseEntry hp hg (hf.noneWaits hg) n
  · rw [giveUpGrant_of_not_requested hf.noRequest]
    simp only [hg, if_false, List.nil_append, List.append_nil, State.letGo]
    exact runTasks_restTest (.inr hp) (n + 1)

/-- A CRUISE entry at a holder whose grant goes to the heads that find room; the velocity it has keeps it from being one
of them (R48, R123 to R126). -/
theorem runTasks_cruiseEntry_serves {s : State} {t : TransportId} {heads rest : List WaitEntry}
    (hp : (s.tr t).phase = .cruise) (hv : (s.tr t).engine.v ≠ 0) (hg : (s.tr t).engine.grant = .held)
    (hs : (s.released t).Serves heads rest) :
    runTasks 4094 ((giveUpGrant t s).now ++ [.restTest t] ++ (giveUpGrant t s).later) (giveUpGrant t s).state =
      .next ((s.released t).served heads rest) := by
  have htr : (s.released t).tr t = { s.tr t with engine := { (s.tr t).engine with grant := .none } } :=
    State.tr_setTr_self ..
  have hne : ∀ e ∈ heads, e.transport ≠ t := by
    rintro e he rfl
    obtain ⟨k, hk⟩ := hs.starts e he
    exact hv (by simpa [htr] using hk.still)
  have hlen := serves_length_le hs
  obtain ⟨n, hn⟩ : ∃ n, 4094 = (n + 1) + 6 * heads.length + 1 := ⟨4092 - 6 * heads.length, by omega⟩
  rw [giveUpGrant_of_not_requested (by simp [hg])]
  simp only [hg, if_true, List.append_nil, List.singleton_append, State.letGo]
  rw [hn, runTasks_serve heads rest (n + 1) [.restTest t] _ hs]
  exact runTasks_restTest (.inr (by rw [tr_served_ne hne, htr]; exact hp)) n

/-- Settles O45: the velocity update, by the phase and by where the step leads (R45, R48, R49). -/
theorem rampStepFollowsTheWorkingTopSpeed : Obligations.RampStepFollowsTheWorkingTopSpeed := by
  intro t m s h tr e v top timer
  have hm : tr.motion = some m := h.motion
  refine ⟨fun hp hlt hpos => ?rises, fun hp hlt hle => ?enters, fun hp hv => ?stays, fun hp hlt => ?falls⟩
  case rises =>
    have hn : nextSpeed tr.phase m.copy top v = (v + m.copy.aAcc, false) := by rw [hp]; exact nextSpeed_rises hlt
    rw [exec_rampStep_of_runsOn h (.inl hp), runTasks_velocityUpdate hm (.inl hp) hn 4093, speeded_of_pos m hpos]
  case enters =>
    intro monitor cruises
    have hn : nextSpeed tr.phase m.copy top v = (top, true) := by rw [hp]; exact nextSpeed_reaches hlt hle
    have htop : 0 < top := by omega
    have hmonitor : monitorCruise t cruises = { cruises with monitor := monitor } := by
      cases hr : s.monitor.running with
      | none => simp only [monitor, hr]; exact monitorCruise_idle (.inl hr)
      | some start =>
        by_cases hw : s.monitor.transport = t ∧ s.monitor.measure = .startLatency
        · simp only [monitor, hr, if_pos hw]; exact monitorCruise_completes (s := cruises) hr hw
        · simp only [monitor, hr, if_neg hw]; exact monitorCruise_idle (.inr hw)
    have hupdate : velocityUpdate t s = giveUpGrant t { cruises with monitor := monitor } := by
      rw [velocityUpdate_eq hm hn, if_pos rfl, speeded_of_pos m htop, ← hmonitor]
    have htr : ({ cruises with monitor := monitor } : State).tr t = { tr with
        phase := .cruise, engine := { e with v := velocityOf m.direction top, tachTimer := timer } } :=
      State.tr_setTr_self ..
    have hexec : exec (.rampStep t) s = runTasks 4094 ((velocityUpdate t s).now ++ [.restTest t] ++ (velocityUpdate t s).later)
        (velocityUpdate t s).state := by
      rw [exec_rampStep_of_runsOn h (.inl hp), runTasks_succ, handle]
    rw [hupdate] at hexec
    refine ⟨fun hf => ?_, fun heads others hg hserves => ?_⟩
    · rw [hexec, runTasks_cruiseEntry_free (by rw [htr]) ⟨?_, ?_⟩ 4092, letGo_withMonitor]
      · rw [htr]; exact hf.noRequest
      · rw [htr]; exact hf.noneWaits
    · rw [hexec, runTasks_cruiseEntry_serves (by rw [htr]) ?_ (by rw [htr]; exact hg) (serves_withMonitor hserves monitor)]
      · exact congrArg _ (served_withMonitor (cruises.released t) heads others monitor)
      · rw [htr]
        cases m.direction <;> simp [velocityOf] <;> omega
  case stays => rw [exec_rampStep_of_runsOn h (.inr hp), runTasks_cruises hm hp hv 4093]
  case falls =>
    have hn : nextSpeed tr.phase m.copy top v = (max (v - m.copy.aDec) top, false) := by rw [hp]; exact nextSpeed_falls hlt
    have h0 : e.v ≠ 0 := Int.natAbs_ne_zero.mp (by omega)
    rw [exec_rampStep_of_runsOn h (.inr hp), runTasks_velocityUpdate hm (.inr hp) hn 4093, speeded_of_moving m h0]

end Sys2Proof.RampEngine
end

section
/-! SUPPORT. What a fault stop leaves of its transport once its event is over (R107 to R110), the tach-loss detection (R58) and the fault at the rest behind it (R60), with their statement. -/

namespace Sys2Proof.RampEngine

open Sys2Proof Sys2Proof.Machine Sys2Proof.OrderQueue

/-! ### The fault stop of one transport -/

theorem abortCurrent_eq (t : TransportId) (c : FaultCause) (s : State) : ∃ f, abortCurrent t c s = sending f s := by
  unfold abortCurrent
  dsimp only
  split
  · exact ⟨_, placeLoadEnding_eq ..⟩
  · split
    · exact ⟨_, (sending_none s).symm⟩
    · exact ⟨_, placeMotionEnding_eq ..⟩

theorem attend_eq (p : PortId) (t : TransportId) (k : AttentionKind) (b : List Byte) (s : State) :
    ∃ x, attend p t k b s = { s with ports := x } := by
  unfold attend
  split
  · exact ⟨s.ports, rfl⟩
  · split
    · rw [place_eq]; exact ⟨_, rfl⟩
    · exact ⟨_, rfl⟩

/-- Attentions change the ports alone (R161). -/
theorem attendAll_eq (ps : List PortId) (t : TransportId) (k : AttentionKind) (b : List Byte) (s : State) :
    ∃ x, attendAll ps t k b s = { s with ports := x } := by
  refine List.foldlRecOn (motive := fun w : State => ∃ x, w = { s with ports := x }) ps _ ⟨s.ports, rfl⟩ ?_
  rintro _ ⟨x, rfl⟩ p -
  obtain ⟨y, hy⟩ := attend_eq p t k b { s with ports := x }
  exact ⟨y, hy⟩

@[simp] theorem tr_relieved (s : State) (t : TransportId) : (s.relieved t).tr t = { s.tr t with release := none } := by
  cases hr : (s.tr t).release with
  | none => rw [relieved_none hr, ← hr]
  | some r => simp [State.relieved, hr]

@[simp] theorem relieved_arbiter (s : State) (t : TransportId) : (s.relieved t).arbiter = s.arbiter := by
  cases hr : (s.tr t).release <;> simp [State.relieved, hr]

/-- A fault stop settles the grant last (R110): by then the transport is stopped, its release has taken effect, and the
arbiter is as it was. -/
theorem faultStop_eq (t : TransportId) (c : FaultCause) (s : State) : ∃ w : State,
    faultStop t c s = (giveUpGrant t w).andThen [] [.vacuumReview] ∧
    w.tr t = { (s.tr t).faultStopped c ((s.tr t).takeSnapshot c) with release := none } ∧ w.arbiter = s.arbiter := by
  obtain ⟨f, hf⟩ := abortCurrent_eq t c s
  let flushed := flush t .aborted (some c) (sending f s)
  have hflushed : flushed.tr t = { s.tr t with queue := [] } := by
    simp only [flushed, flush_eq, tr_sending, State.tr_setTr_self]
  let u := flushed.setTr t ((flushed.tr t).faultStopped c ((s.tr t).takeSnapshot c))
  have hu : u.tr t = (s.tr t).faultStopped c ((s.tr t).takeSnapshot c) := by
    simp only [u, State.tr_setTr_self, hflushed]
    rfl
  have harb : u.arbiter = s.arbiter := by simp only [u, flushed, flush_eq, State.setTr_arbiter, sending_arbiter]
  obtain ⟨x, hx⟩ := attendAll_eq (attentionPorts (s.owner t) u) t .faultStop [BitVec.ofNat 8 c.code] u
  let attended : State := { u with ports := x }
  refine ⟨monitorEnd t (attended.relieved t), ?_, ?_, ?_⟩
  · simp only [faultStop, hf, ← completeRelease_eq, attended, ← hx]
    rfl
  · rw [monitorEnd_eq, State.tr_monitor, tr_relieved]
    exact congrArg (fun y : Transport => { y with release := none }) hu
  · rw [monitorEnd_eq]
    exact (relieved_arbiter ..).trans harb

/-- What a fault stop leaves of a transport whose grant, if it holds one, no one waits for, when its event is over (R107 to
R110). The blower's review behind it reaches waiting transports alone. -/
theorem runTasks_fault {s : State} {t : TransportId} (hc : (s.tr t).condition ≠ .faulted) (hf : s.FreeToLetGo t)
    (c : FaultCause) (n : Nat) : ∃ u, runTasks (n + 3) [.fault t c] s = .next u ∧
      u.tr t = { (s.tr t).faultStopped c ((s.tr t).takeSnapshot c) with release := none, engine := idleEngine } := by
  obtain ⟨w, hw, htr, harb⟩ := faultStop_eq t c s
  have hgrant : (w.tr t).engine.grant = (s.tr t).engine.grant := by rw [htr]; rfl
  have hfree : w.FreeToLetGo t := ⟨by rw [hgrant]; exact hf.noRequest, by rw [hgrant, harb]; exact hf.noneWaits⟩
  have hrun : runTasks (n + 3) [.fault t c] s = .next (reviewVacuum (w.letGo t)) := by
    have hhandle : handFault t c s = (giveUpGrant t w).andThen [] [.vacuumReview] := by
      rw [handFault, if_neg (by simpa using hc), hw]
    rw [runTasks_succ, handle, hhandle, giveUpGrant_of_not_requested hfree.noRequest]
    by_cases hg : (w.tr t).engine.grant = .held
    · simp only [Reaction.andThen, hg, if_true, List.append_nil, List.nil_append, List.singleton_append]
      rw [runTasks_serve_none (by rw [letGo_waiting]; exact hfree.noneWaits hg), runTasks_vacuumReview, runTasks_nil]
    · simp only [Reaction.andThen, hg, if_false, List.append_nil, List.nil_append]
      rw [runTasks_vacuumReview, runTasks_nil]
  have hreview := reviewVacuum_beside (t := t) (s := w.letGo t) (by rw [tr_letGo, htr]; nofun)
  refine ⟨_, hrun, hreview.transport.trans ?_⟩
  have hnone : (if (w.tr t).engine.grant = .held then GrantState.none else (w.tr t).engine.grant) = .none := by
    cases hg : (w.tr t).engine.grant with
    | none | held => rfl
    | requested => exact absurd hg hfree.noRequest
  rw [tr_letGo, hnone, htr]
  rfl

/-! ### Tach loss -/

/-- The transport after a tach-loss detection, but for its phase (R58). -/
def tachLost (tr : Transport) (m : Motion) : Transport :=
  { tr.tachDetected with motion := some { m with endReason := some (m.endReason.getD .tach) } }

/-- With the timer running and the velocity not 0 the detection sets the end reason, and forces a deceleration of a motion
that is not decelerating (R58). -/
theorem exec_tachLossDetection {s : State} {t : TransportId} {m : Motion} (hm : (s.tr t).motion = some m)
    (ht : (s.tr t).engine.tachTimer ≠ none) (hv : (s.tr t).engine.v ≠ 0) :
    exec (.tachLossDetection t) s = finish (if (s.tr t).phase = .accel ∨ (s.tr t).phase = .cruise then
        beginDecel t .decel (s.setTr t (tachLost (s.tr t) m))
      else Reaction.idle (s.setTr t (tachLost (s.tr t) m))) := by
  have hlost : setEndReason t .tach (s.setTr t (s.tr t).tachDetected) = s.setTr t (tachLost (s.tr t) m) := by
    rw [setEndReason_motion (m := m) (by rw [State.tr_setTr_self]; exact hm), State.tr_setTr_self, State.setTr_setTr]
    rfl
  simp [exec, execTachLossDetection, Option.isSome_iff_ne_none.mpr ht, hv, tachDetection, hlost]

/-- A deceleration that begins where no one waits for the grant given back ends its event (R52). -/
theorem finish_beginDecel {s : State} {t : TransportId} (hf : s.FreeToLetGo t) (ph : Phase) :
    finish (beginDecel t ph s) = .next ((s.setPhase t ph).letGo t) := by
  simpa [finish, agendaBound] using runTasks_beginDecel hf (n := 4095) (l := []) (runTasks_nil ..)

/-- Settles O55: the detection by phase (R58), and the rest behind it, which hands TACH LOSS to Fault Stop (R60). -/
theorem tachLossForcesAStop : Obligations.TachLossForcesAStop := by
  intro t m s hm tr lost
  refine ⟨fun ht hv => ⟨fun hp hf => ?forced, fun hp => ?slowing⟩, fun hc hs hp htach hv hf => ?rest⟩
  case forced =>
    have hfree : (s.setTr t (tachLost tr m)).FreeToLetGo t := freeToLetGo_setTr hf rfl
    rw [exec_tachLossDetection hm ht hv, if_pos hp, finish_beginDecel hfree, setPhase_setTr]
    rfl
  case slowing =>
    rw [exec_tachLossDetection hm ht hv, if_neg ?_]
    · exact runTasks_nil ..
    · obtain hp | hp := hp <;> simp [tr, hp]
  case rest =>
    have hh : tr.hasPhase = true := by simp [Transport.hasPhase, hc]
    let still : Transport := { tr with engine := { tr.engine with v := 0, stepTimer := false, tachTimer := none } }
    have hstill : (s.setTr t still).tr t = still := State.tr_setTr_self ..
    have hrest : rest t (s.setTr t still) = { state := s.setTr t still, now := [.fault t .tachLoss] } := by
      simp [rest, still, tr, hm, htach]
    obtain ⟨u, hrun, hu⟩ := runTasks_fault (s := s.setTr t still) (t := t) (by rw [hstill]; simp [still, hc])
      (freeToLetGo_setTr hf rfl) .tachLoss 4089
    refine ⟨u, ?_, by rw [hu]; rfl, by rw [hu]; rfl, by rw [hu]; rfl, by rw [hu]; rfl⟩
    rw [exec_rampStep_rests hm hs hh hp hv, runTasks_succ, handle, hrest]
    exact hrun

end Sys2Proof.RampEngine
end

section
/-! SUPPORT. How a recovery ends (R98 to R100): what takes its place in service, what the pop of slot 1 ends or starts, and the statement about a settled LOOP GUARD recovery (R89). -/

namespace Sys2Proof.Resumption

open Sys2Proof Sys2Proof.Machine Sys2Proof.OrderQueue

/-! ### What comes after an ended recovery -/

/-- The Hold Controller once the recovery from the cause `a` has left service (R98). -/
def recovered (h : Hold) (a : Rank) : Hold :=
  { h with inService := h.inService.put a false, active := none, settle := 0, timer := none }

/-- The transport with another Hold Controller record. -/
def holding (tr : Transport) (h : Hold) : Transport := { tr with hold := h }

/-- The transport on which the order saved in slot 1 stands in the motion context again (R99). -/
def resumed (tr : Transport) (m : Motion) (h : Hold) : Transport :=
  { tr with motion := some m, hold := { h with slot1 := .free } }

section
variable {s : State} {t : TransportId}

/-- A cause that enters service becomes the active recovery, and waits (R88, R89). -/
theorem runTasks_enterService {r : Rank} (hr : r = .sag → s.vacuum.ready = false) (n : Nat) (l : List Task) :
    runTasks (n + 1) (.enterService t r :: l) s =
      runTasks n l (s.setTr t (holding (s.tr t) (s.serving t (s.tr t).hold r))) := by
  have hwait : (r == .sag && s.vacuum.ready) = false := by
    by_cases hs : r = .sag
    · simp [hr hs]
    · simp [hs]
  have htimer : (if r == .loopGuard then some (ms (s.servoOf t).recoveryLimit) else none : Timer) =
      if r = .loopGuard then some (1000 * (s.servoOf t).recoveryLimit) else none := by
    simp [ms, Nat.mul_comm]
  simp only [runTasks_succ, handle, enterService, hwait, Bool.false_eq_true, if_false, List.nil_append, List.append_nil,
    htimer]
  rfl

variable {a : Rank} (ha : (s.tr t).hold.active = some a)
include ha

/-- A pending cause takes the place of the ended recovery (R98, choice 1). -/
theorem runTasks_recoveryEnd_pending {p : Rank} (hp : (s.tr t).hold.successor = some p) (hs : p ≠ .sag) (n : Nat)
    (l : List Task) : runTasks (n + 2) (.recoveryEnd t :: l) s = runTasks n l (s.setTr t
      (holding (s.tr t) (s.serving t ((recovered (s.tr t).hold a).dropPending p) p))) := by
  have hp' : (recovered (s.tr t).hold a).successor = some p := hp
  have hend : recoveryEnd t s =
      { state := s.setHold t ((recovered (s.tr t).hold a).dropPending p), now := [.enterService t p] } := by
    rw [recovered] at hp' ⊢
    simp only [recoveryEnd, ha, hp']
  rw [runTasks_succ, handle, hend]
  simp only [List.append_nil, List.singleton_append]
  rw [runTasks_enterService (fun h => absurd h hs), State.setHold, State.tr_setTr_self, State.setTr_setTr]
  rfl

variable (hn : (s.tr t).hold.successor = none)
include hn

/-- With no pending cause to go before it the recovery in slot 2 is active again (R98, choice 2). -/
theorem runTasks_recoveryEnd_slot2 {x : SavedRecovery} (h2 : (s.tr t).hold.slot2 = some x) (hs : x.rank ≠ .sag) (n : Nat)
    (l : List Task) : runTasks (n + 2) (.recoveryEnd t :: l) s = runTasks n l (s.setTr t
      (holding (s.tr t) (s.serving t { recovered (s.tr t).hold a with slot2 := none } x.rank))) := by
  have hn' : (recovered (s.tr t).hold a).successor = none := hn
  have hend : recoveryEnd t s =
      { state := s.setHold t { recovered (s.tr t).hold a with slot2 := none }, now := [.enterService t x.rank] } := by
    rw [recovered] at hn' ⊢
    simp only [recoveryEnd, ha, hn']
    simp only [h2]
  rw [runTasks_succ, handle, hend]
  simp only [List.append_nil, List.singleton_append]
  rw [runTasks_enterService (fun h => absurd h hs), State.setHold, State.tr_setTr_self, State.setTr_setTr]
  rfl

variable (h2 : (s.tr t).hold.slot2 = none)
include h2

theorem recoveryEnd_pops : recoveryEnd t s =
    { state := s.setTr t (holding (s.tr t) (recovered (s.tr t).hold a)), now := [.popSlot1 t] } := by
  have hn' : (recovered (s.tr t).hold a).successor = none := hn
  rw [recovered] at hn' ⊢
  simp only [recoveryEnd, ha, hn']
  simp only [h2]
  rfl

/-- With nothing else to serve an empty context is popped, and the transport stands STOPPED with an empty queue (R98,
R100). -/
theorem runTasks_recoveryEnd_empty (h1 : (s.tr t).hold.slot1 = .emptyContext) (hq : (s.tr t).queue = []) (n : Nat)
    (l : List Task) : runTasks (n + 3) (.recoveryEnd t :: l) s = runTasks n (l ++ [.idleReport t, .vacuumReview])
      (s.setTr t { s.tr t with phase := .stopped, hold := { recovered (s.tr t).hold a with slot1 := .free } }) := by
  rw [runTasks_succ, handle, recoveryEnd_pops ha hn h2]
  simp only [List.append_nil, List.singleton_append]
  have h1' : (recovered (s.tr t).hold a).slot1 = .emptyContext := h1
  have hpop : popSlot1 t (s.setTr t (holding (s.tr t) (recovered (s.tr t).hold a))) = afterEnding t
      (s.setTr t { s.tr t with phase := .stopped, hold := { recovered (s.tr t).hold a with slot1 := .free } }) := by
    simp only [popSlot1, State.tr_setTr_self, State.setTr_setTr, holding, h1']
  rw [runTasks_succ, handle, hpop]
  simp only [afterEnding, List.cons_append, List.nil_append]
  rw [runTasks_takeTest_empty (by rw [State.tr_setTr_self]; exact hq)]

/-- With nothing else to serve a saved order stands in the motion context again, and is tested (R98, R99). -/
theorem runTasks_recoveryEnd_saved {m : Motion} (h1 : (s.tr t).hold.slot1 = .saved m) (n : Nat) (l : List Task) :
    runTasks (n + 2) (.recoveryEnd t :: l) s =
      runTasks n (.resume t :: l) (s.setTr t (resumed (s.tr t) m (recovered (s.tr t).hold a))) := by
  rw [runTasks_succ, handle, recoveryEnd_pops ha hn h2]
  simp only [List.append_nil, List.singleton_append]
  have h1' : (recovered (s.tr t).hold a).slot1 = .saved m := h1
  have hpop : popSlot1 t (s.setTr t (holding (s.tr t) (recovered (s.tr t).hold a))) =
      { state := s.setTr t (resumed (s.tr t) m (recovered (s.tr t).hold a)), now := [.resume t] } := by
    simp only [popSlot1, State.tr_setTr_self, State.setTr_setTr, holding, h1', resumed]
  rw [runTasks_succ, handle, hpop]
  simp only [List.append_nil, List.singleton_append]

end

theorem successor_of_none {h : Hold} (hp : h.pending = noRanks) : h.successor = none := by
  rw [Hold.successor, hp]; rfl

theorem mostUrgent_put (p : Rank) : (noRanks.put p true).mostUrgent = some p := by cases p <;> rfl

/-- A lone pending cause that outranks what stands in slot 2 comes next (R98). -/
theorem successor_of_outranks {h : Hold} {p : Rank} (hp : h.pending = noRanks.put p true)
    (hr : ∀ x, h.slot2 = some x → p.outranks x.rank = true) : h.successor = some p := by
  rw [Hold.successor, hp, mostUrgent_put]
  cases h2 : h.slot2 with
  | none => rfl
  | some x => exact if_pos (hr x h2)

/-- A lone pending cause that what stands in slot 2 outranks stays pending (R98). -/
theorem successor_of_outranked {h : Hold} {p : Rank} {x : SavedRecovery} (hp : h.pending = noRanks.put p true)
    (h2 : h.slot2 = some x) (hr : p.outranks x.rank = false) : h.successor = none := by
  rw [Hold.successor, hp, mostUrgent_put, h2]
  exact if_neg (by simp [hr])

/-! ### The tests of a resumption -/

section
variable {s : State} {t : TransportId} {m : Motion} (hm : (s.tr t).motion = some m)
include hm

/-- A resumed MOVE with nothing left to go is DONE (R99). -/
theorem resume_done (hk : m.kind = .move) (hd : ¬ ∀ r, m.r = some r → 0 < r) : resume t s = endOrder t m .done s := by
  have hv : resumeVerdict m (s.tr t).position (s.servoOf t).eotAllowance = some .done := by
    cases hr : m.r with
    | none => simp [hr] at hd
    | some r =>
      have h0 : r ≤ 0 := by simpa [hr] using hd
      simp [resumeVerdict, hr, h0]
  simp only [resume, hm, hk, hv]

/-- A MOVE with way to go is tested for its end reason BOT, and then for the tape limits (R99). -/
theorem resume_tested (hk : m.kind = .move) (hd : ∀ r, m.r = some r → 0 < r) {st : Status}
    (h : m.endReason = some .bot ∧ st = .atBot ∨ m.endReason ≠ some .bot ∧
      limitAtRest m.direction (s.tr t).position (s.servoOf t).eotAllowance = some st) :
    resume t s = endOrder t m st s := by
  have hv : resumeVerdict m (s.tr t).position (s.servoOf t).eotAllowance = some st := by
    have hr0 : ∀ r, m.r = some r → ¬ r ≤ 0 := fun r hr => by have := hd r hr; omega
    obtain ⟨he, rfl⟩ | ⟨he, hl⟩ := h
    · cases hr : m.r with
      | none => simp [resumeVerdict, hr, he]
      | some r => simp [resumeVerdict, hr, he, hr0 r hr]
    · cases hr : m.r with
      | none => simp [resumeVerdict, hr, he, hl]
      | some r => simp [resumeVerdict, hr, he, hl, hr0 r hr]
  simp only [resume, hm, hk, hv]

/-- A resumed REWIND or UNLOAD with end reason BOT is at BOT (R153, R154). -/
theorem resume_atBot (hk : m.kind = .rewind ∨ m.kind = .unload) (he : m.endReason = some .bot) :
    resume t s = endAtBot t m s := by
  obtain hk | hk := hk <;> simp [resume, hm, hk, he]

/-- A resumed REWIND or UNLOAD whose search has reached its limit ends NO BOT (R153). -/
theorem resume_noBot (hk : m.kind = .rewind ∨ m.kind = .unload) (he : m.endReason ≠ some .bot)
    (ho : (s.tr t).load.outcome = .limit) : resume t s = endOrder t m .noBot s := by
  obtain hk | hk := hk <;> simp [resume, hm, hk, he, ho]

/-- A resumed LOAD with a search outcome ends LOADED (R148). -/
theorem resume_loadEnds (hk : m.kind = .load) (ho : (s.tr t).load.outcome ≠ .none) :
    resume t s = endLoadLoaded t (s.tr t).load.outcome.status s := by
  simp [resume, hm, hk, ho]

/-- A resumed order that meets none of its endings starts from rest (R99, R148, R153). -/
theorem resume_starts
    (hmove : m.kind = .move → (∀ r, m.r = some r → 0 < r) ∧ m.endReason ≠ some .bot ∧
      ∀ code, ¬ s.LimitMet t m.direction code)
    (hseq : m.kind = .rewind ∨ m.kind = .unload → m.endReason ≠ some .bot ∧ (s.tr t).load.outcome ≠ .limit)
    (hload : m.kind = .load → (s.tr t).load.outcome = .none) :
    resume t s = { state := s, now := [.startFromRest t] } := by
  cases hk : m.kind with
  | move =>
    obtain ⟨hd, he, hl⟩ := hmove hk
    exact resume_move hm hk he hl hd
  | rewind => simp [resume, hm, hk, hseq (.inl hk)]
  | unload => simp [resume, hm, hk, hseq (.inr hk)]
  | load => simp [resume, hm, hk, hload hk]

end

/-! ### The settled recovery -/

theorem exec_recoverySettled {s : State} {t : TransportId} (ha : (s.tr t).hold.active = some .loopGuard) :
    exec (.recoverySettled t) s = runTasks 4097 [.recoveryEnd t] s := by
  simp [exec, execRecoverySettled, ha, finish, agendaBound, handle]

section
variable {s : State} {t : TransportId} {m : Motion} {h : Hold} {n : Nat}

theorem tr_resumed : (s.setTr t (resumed (s.tr t) m h)).tr t = resumed (s.tr t) m h := State.tr_setTr_self ..

/-- A resumed order that ends, here with an empty queue: its response goes out, the transport stands STOPPED, and a
pending release takes effect (R32, R40, R99). -/
theorem runTasks_resume_ends {st : Status}
    (hr : resume t (s.setTr t (resumed (s.tr t) m h)) = endOrder t m st (s.setTr t (resumed (s.tr t) m h)))
    (hq : (s.tr t).queue = []) (hc : (s.tr t).condition = .loaded) :
    ∃ w : State, runTasks (n + 4) [.resume t] (s.setTr t (resumed (s.tr t) m h)) =
        .next (reviewVacuum (w.relieved t)) ∧
      w = { (s.setTr t { resumed (s.tr t) m h with phase := .stopped }).orderGone t with ports := w.ports } ∧
      ∀ q, w.port q = (s.port q).sent (s.endingOf t q m st.code none) := by
  have hphase : ((s.setTr t (resumed (s.tr t) m h)).orderGone t).setPhase t .stopped =
      (s.setTr t { resumed (s.tr t) m h with phase := .stopped }).orderGone t := by
    simp only [State.setPhase, setTr_orderGone, tr_orderGone, tr_resumed, State.setTr_setTr]
    simp only [State.orderGone, State.tr_setTr_self, State.setTr_setTr]
    rfl
  have hend := hr.trans (endOrder_eq ..)
  rw [hphase] at hend
  simp only [endingOf_setTr s t _ m _ none (show (resumed (s.tr t) m h).sense.position = _ from rfl)] at hend
  refine ⟨_, runTasks_ends (k := .resume t) hend ?_ ?_ ?_ n, rfl, fun q => by rw [port_sending]; rfl⟩
  · rw [tr_sending, tr_orderGone, State.tr_setTr_self]; exact hc
  · rw [tr_sending, tr_orderGone, State.tr_setTr_self]
  · rw [tr_sending, tr_orderGone, State.tr_setTr_self]; exact hq

/-- A resumed UNLOAD with end reason BOT begins WIND (R99, R154). -/
theorem runTasks_resume_winds (hk : m.kind = .unload) (he : m.endReason = some .bot) :
    runTasks (n + 2) [.resume t] (s.setTr t (resumed (s.tr t) m h)) =
      .next (reviewVacuum ((s.setTr t (resumed (s.tr t) m h)).windBegun t)) := by
  rw [runTasks_succ, handle, resume_atBot (by rw [tr_resumed]; rfl) (.inr hk) he]
  simp only [endAtBot, hk, beq_self_eq_true, if_true, windStart, List.nil_append]
  rw [runTasks_vacuumReview, runTasks_nil]
  simp only [State.windBegun, ms, Nat.mul_comm]

/-- A resumed LOAD with a search outcome ends LOADED, here with an empty queue (R99, R148, R149). -/
theorem runTasks_resume_loads (hk : m.kind = .load) (ho : (s.tr t).load.outcome ≠ .none) (hq : (s.tr t).queue = []) :
    let c := (s.tr t).load.outcome.status.code
    ∃ w : State, runTasks (n + 4) [.resume t] (s.setTr t (resumed (s.tr t) m h)) =
        .next (reviewVacuum (w.relieved t)) ∧
      w = { (s.setTr t (resumed (s.tr t) m h)).loadEnded t c with ports := w.ports } ∧
      ∀ q, w.port q = (s.port q).sent ((s.loadMarked t c).loadEnding t q c none) := by
  intro c
  have hres := resume_loadEnds (s := s.setTr t (resumed (s.tr t) m h)) (t := t) (m := m) (by rw [tr_resumed]; rfl) hk
    (by rw [tr_resumed]; exact ho)
  have hstatus : ((s.setTr t (resumed (s.tr t) m h)).tr t).load.outcome.status = (s.tr t).load.outcome.status := by
    rw [tr_resumed]; rfl
  rw [hstatus, endLoadLoaded_eq (by rw [tr_resumed]; rfl)] at hres
  simp only [loadMarked_loadEnding (s := s) (x := resumed (s.tr t) m h) (t := t) _ rfl rfl] at hres
  refine ⟨_, runTasks_ends (k := .resume t) hres ?_ ?_ ?_ n, rfl, fun q => ?_⟩
  · rw [tr_sending, State.loadEnded, State.tr_setTr_self]
  · rw [tr_sending, State.loadEnded, State.tr_setTr_self]
  · rw [tr_sending, State.loadEnded, State.tr_setTr_self, loadMarked_eq, State.tr_setTr_self, State.tr_setTr_self]
    exact (marked_keeps _ _).1.trans hq
  · rw [port_sending, State.loadEnded, loadMarked_eq]; rfl

/-- A resumed order that meets none of its endings waits for vacuum, with READY false (R43, R62, R99). -/
theorem runTasks_resume_waits (hv : s.vacuum.ready = false)
    (hmove : m.kind = .move → (∀ r, m.r = some r → 0 < r) ∧ m.endReason ≠ some .bot ∧
      ∀ code, ¬ s.LimitMet t m.direction code)
    (hseq : m.kind = .rewind ∨ m.kind = .unload → m.endReason ≠ some .bot ∧ (s.tr t).load.outcome ≠ .limit)
    (hload : m.kind = .load → (s.tr t).load.outcome = .none) :
    runTasks (n + 2) [.resume t] (s.setTr t (resumed (s.tr t) m h)) = .next (s.setTr t { resumed (s.tr t) m h with
      phase := .waitVacuum
      engine := { (s.tr t).engine with
        workTop := if m.kind = .move then (s.tr t).engine.workTop
          else some (s.topFor t m (s.tr t).load.step) } }) := by
  have hm : ((s.setTr t (resumed (s.tr t) m h)).tr t).motion = some m := by rw [tr_resumed]; rfl
  have hlim : ∀ code, (s.setTr t (resumed (s.tr t) m h)).LimitMet t m.direction code ↔ s.LimitMet t m.direction code :=
    limitMet_setTr (s := s) (x := resumed (s.tr t) m h) rfl m.direction
  have htop : (resumed (s.tr t) m h).topAtStart m (s.servoOf t).approach =
      if m.kind = .move then (s.tr t).engine.workTop else some (s.topFor t m (s.tr t).load.step) := by
    by_cases hk : m.kind = .move
    · simp only [Transport.topAtStart, hk, if_true]; rfl
    · rw [if_neg hk]; exact topAtStart_eq (s := s) (t := t) (tr := resumed (s.tr t) m h) hk rfl
  rw [runTasks_succ, handle, resume_starts hm (fun hk => (hmove hk).imp_right fun k => k.imp_right fun hl code =>
    (hlim code).not.mpr (hl code)) (by rw [tr_resumed]; exact hseq) (by rw [tr_resumed]; exact hload)]
  simp only [List.append_nil]
  rw [runTasks_succ, handle, startFromRest_waits hm hv, tr_resumed, State.servoOf_setTr, htop, State.setTr_setTr]
  exact runTasks_nil ..

end

/-- Settles O59: a settled LOOP GUARD recovery gives way to a pending PAUSE, or slot 1 is popped and its content ends or
starts (R89, R98 to R100). -/
theorem recoverySettledEndsTheRecovery : Obligations.RecoverySettledEndsTheRecovery := by
  intro t s tr h
  refine ⟨fun ha => ?other, fun ha hin h2 => ?_⟩
  case other =>
    simp only [exec, execRecoverySettled, beq_iff_eq]
    exact if_neg ha
  rw [exec_recoverySettled ha]
  intro ended
  have hout : recovered h .loopGuard = ended := by
    simp only [recovered, hin, ended]
    rfl
  refine ⟨fun hp => ?pause, fun hp h1 hq hcr => ?empty, fun m hp h1 => ?saved⟩
  case pause =>
    have hs : h.successor = some .pause := successor_of_outranks hp (by simp [h2])
    rw [runTasks_recoveryEnd_pending ha hs nofun, runTasks_nil]
    change Host.Outcome.next (s.setTr t (holding tr (s.serving t ((recovered h .loopGuard).dropPending .pause) .pause))) = _
    rw [hout]
    simp only [holding, State.serving, Hold.dropPending, ended, hp]
    rfl
  case empty =>
    rw [runTasks_recoveryEnd_empty ha (successor_of_none hp) h2 h1 hq, List.nil_append]
    change runTasks _ _ (s.setTr t { tr with phase := .stopped, hold := { recovered h .loopGuard with slot1 := .free } }) = _
    rw [hout]
    generalize hu : s.setTr t { tr with phase := .stopped, hold := { ended with slot1 := .free } } = u
    have hut : u.tr t = { tr with phase := .stopped, hold := { ended with slot1 := .free } } := by
      rw [← hu, State.tr_setTr_self]
    have hreport : runTasks 4094 [.idleReport t, .vacuumReview] u = runTasks 4093 [.vacuumReview] (u.relieved t) := by
      obtain hc | hr := hcr
      · exact runTasks_idleReport (idle_of_stopped (by rw [hut]; exact hc) (by rw [hut]) (by rw [hut]; exact hq)) ..
      · have hr' : (u.tr t).release = none := by rw [hut]; exact hr
        have hsame : (if (u.tr t).idle then completeRelease t u else u) = u.relieved t := by
          rw [completeRelease_eq, relieved_none hr', ite_self]
        simp only [runTasks_succ, handle, idleReport, hsame, Reaction.idle, List.nil_append, List.append_nil]
    rw [hreport, runTasks_vacuumReview, runTasks_nil]
  case saved =>
    intro u ends bot left
    have hpop : runTasks 4097 [.recoveryEnd t] s = runTasks 4095 [.resume t] (s.setTr t (resumed tr m ended)) := by
      rw [← hout]; exact runTasks_recoveryEnd_saved ha (successor_of_none hp) h2 h1 4095 []
    rw [hpop]
    have hm : ((s.setTr t (resumed tr m ended)).tr t).motion = some m := by rw [tr_resumed]; rfl
    have hend : ∀ st : Status, resume t (s.setTr t (resumed tr m ended)) =
        endOrder t m st (s.setTr t (resumed tr m ended)) → ends st.code := fun st hr hq hc => by
      obtain ⟨w, hw, hstate, hports⟩ := runTasks_resume_ends (n := 4091) hr hq hc
      refine ⟨w, hpop.trans hw, hstate.trans ?_, hports⟩
      simp only [u, State.tr_setTr_self, State.setTr_setTr]
      rfl
    refine ⟨fun hk hd => ?done, fun hk hd he => ?moveAtBot, fun code hk hd he hl => ?limit, fun hk he => ?rewindAtBot,
      fun hk he => ?winds, fun hk he ho => ?noBot, fun code hk ho hq hcode => ?loads, fun hmove hseq hload hv => ?waits⟩
    case done => exact hend .done (resume_done hm hk hd)
    case moveAtBot => exact hend .atBot (resume_tested hm hk hd (.inl ⟨he, rfl⟩))
    case limit =>
      obtain ⟨st, hst, rfl⟩ := limitAtRest_of_limitMet (s := s.setTr t (resumed tr m ended))
        ((limitMet_setTr (s := s) (x := resumed tr m ended) rfl m.direction code).mpr hl)
      exact hend st (resume_tested hm hk hd (.inr ⟨he, hst⟩))
    case rewindAtBot =>
      refine hend .atBot ((resume_atBot hm (.inl hk) he).trans ?_)
      simp only [endAtBot, hk]
      rfl
    case winds => exact runTasks_resume_winds hk he
    case noBot => exact hend .noBot (resume_noBot hm hk he (by rw [tr_resumed]; exact ho))
    case loads =>
      have hc : tr.load.outcome.status.code = code := by
        rw [hcode]; cases htr : tr.load.outcome <;> rfl
      rw [← hc]
      exact runTasks_resume_loads (n := 4091) hk ho hq
    case waits =>
      refine (runTasks_resume_waits hv (fun hk => ?_) hseq hload).trans ?_
      · obtain ⟨hd, he, hl⟩ := hmove hk
        exact ⟨hd, he, hl⟩
      · simp only [u, State.tr_setTr_self, State.setTr_setTr]
        rfl

end Sys2Proof.Resumption
end

section
/-! SUPPORT. READY becoming true at one transport (R137): the VACUUM step of LOAD, the request of a motion that waits, the end of a VACUUM SAG recovery. The statement about READY and the economy timer. -/

namespace Sys2Proof.Resumption

open Sys2Proof Sys2Proof.Machine Sys2Proof.OrderQueue

/-! ### The transports that are told -/

theorem handedTransports_alone {s : State} {t : TransportId} (ho : ∀ u, u ≠ t → (s.tr u).condition = .unloaded)
    (hc : (s.tr t).condition ≠ .unloaded) : s.handedTransports = [t] := by
  cases t <;> simp [State.handedTransports, transportIds, ho, hc]

theorem handedTransports_none {s : State} (h : s.allUnloaded = true) : s.handedTransports = [] := by
  rw [State.handedTransports, List.filter_eq_nil_iff]
  intro t _
  simpa using (all_transportIds _).mp h t

/-! ### READY at one transport -/

section
variable {s : State} {t : TransportId}

/-- What READY becoming true asks of a transport (R137). -/
theorem runTasks_readyTrue (n : Nat) (l : List Task) : runTasks (n + 1) (.readyTrue t :: l) s = runTasks n
    ((if (s.tr t).hasPhase = true ∧ (s.tr t).phase = .waitVacuum then [.enterWaitGrant t] else []) ++
      (if (s.tr t).hold.active = some .sag then [.recoveryEnd t] else []) ++ .vacuumStepTest t :: l) s := by
  simp [handle, readyTrue]

/-- A transport that is not LOADING has no VACUUM step (R144). -/
theorem runTasks_vacuumStepTest_idle (hc : (s.tr t).condition = .loaded) (n : Nat) (l : List Task) :
    runTasks (n + 1) (.vacuumStepTest t :: l) s = runTasks n l s := by
  simp [handle, vacuumStepTest, hc, Reaction.idle]

/-- With READY true the VACUUM step of a LOAD gives way to DRAW (R145, R146). -/
theorem runTasks_vacuumStepTest_draws (hc : (s.tr t).condition = .loading) (hl : (s.tr t).load.step = some .vacuum)
    (hr : s.vacuum.ready = true) (n : Nat) (l : List Task) :
    runTasks (n + 1) (.vacuumStepTest t :: l) s = runTasks n l (drawStart t s) := by
  simp [handle, vacuumStepTest, hc, hl, hr, Reaction.idle]

/-- A LOAD in its VACUUM step, with no recovery, that hears of READY begins DRAW (R137, R145). -/
theorem runTasks_readyTrue_draws (hc : (s.tr t).condition = .loading) (hl : (s.tr t).load.step = some .vacuum)
    (ha : (s.tr t).hold.active = none) (hr : s.vacuum.ready = true) (n : Nat) :
    runTasks (n + 2) [.readyTrue t] s = .next (drawStart t s) := by
  have hphase : (s.tr t).hasPhase = false := by simp [Transport.hasPhase, Transport.searching, hc, hl]
  rw [runTasks_readyTrue, hphase, ha]
  simp only [Bool.false_eq_true, false_and, reduceCtorEq, if_false, List.nil_append]
  rw [runTasks_vacuumStepTest_draws hc hl hr, runTasks_nil]

/-- A LOADED transport that neither waits for vacuum nor recovers from a VACUUM SAG hears of READY without effect
(R137). -/
theorem runTasks_readyTrue_idle (hc : (s.tr t).condition = .loaded) (hp : (s.tr t).phase ≠ .waitVacuum)
    (ha : (s.tr t).hold.active = none) (n : Nat) : runTasks (n + 2) [.readyTrue t] s = .next s := by
  rw [runTasks_readyTrue, if_neg (fun h => hp h.2), ha]
  simp only [reduceCtorEq, if_false, List.nil_append]
  rw [runTasks_vacuumStepTest_idle hc, runTasks_nil]

end

/-! ### Requests beside an empty waiting list -/

/-- Transport `t` waits for a grant with the motion `m`, the only one in the list (R44, R122). -/
def queued (s : State) (t : TransportId) (m : Motion) : State :=
  { s.setTr t { s.tr t with phase := .waitGrant, engine := { (s.tr t).engine with grant := .requested } } with
    arbiter := { s.arbiter with
      waiting := [{ transport := t, priority := m.copy.priority, joined := s.arbiter.nextJoin }]
      nextJoin := s.arbiter.nextJoin + 1 } }

theorem startsOnGrant_setPhase {s : State} {t : TransportId} {m : Motion} (h : s.StartsOnGrant t m) (p : Phase) :
    (s.setPhase t p).StartsOnGrant t m := by
  have htr : (s.setPhase t p).tr t = { s.tr t with phase := p } := State.tr_setTr_self ..
  exact {
    motion := by rw [htr]; exact h.motion
    kind := h.kind
    condition := by rw [htr]; exact h.condition
    distance := h.distance
    tape := by
      have hservo : (s.setPhase t p).servoOf t = s.servoOf t := rfl
      simpa [State.ShortOfEot, htr, hservo] using h.tape
    still := by rw [htr]; exact h.still
    tach := by rw [htr]; exact h.tach
    cause := by rw [htr]; exact h.cause
    copy := h.copy }

theorem started_setPhase (s : State) (t : TransportId) (p : Phase) {m : Motion} (hm : (s.tr t).motion = some m) :
    (s.setPhase t p).started t = s.started t := by
  have htr : (s.setPhase t p).tr t = { s.tr t with phase := p } := State.tr_setTr_self ..
  simp only [State.started, htr, hm]
  simp only [State.setPhase, State.setTr, Quad.set_set]
  rfl

theorem started_condition {s : State} {t : TransportId} {m : Motion} (hm : (s.tr t).motion = some m) :
    ((s.started t).tr t).condition = (s.tr t).condition := by
  simp only [State.started, hm, State.tr_setTr_self]

theorem queued_condition (s : State) (t : TransportId) (m : Motion) :
    ((queued s t m).tr t).condition = (s.tr t).condition := by
  simp only [queued, State.tr_arbiter, State.tr_setTr_self]

/-- Without a holder and a listed entry of its own a transport's request is decided by the room under the limit (R121). -/
theorem enterWaitGrant_free {s : State} {t : TransportId} {m : Motion} (hm : (s.tr t).motion = some m)
    (hf : s.arbiter.holders.get t = false) (hw : s.arbiter.waiting = []) : enterWaitGrant t s =
      if s.arbiter.room = true then
        { state := ({ s.setPhase t .waitGrant with arbiter := s.arbiter.hold t } : State).setGrant t .held
          now := [.deliver t] }
      else Reaction.idle (queued s t m) := by
  have hin : ¬ ((s.setPhase t .waitGrant).arbiter.holders.get t || (s.setPhase t .waitGrant).arbiter.lists t) = true := by
    simp [State.setPhase, hf, Arbiter.lists, hw]
  have hqueued : (({ s.setPhase t .waitGrant with arbiter := s.arbiter.join t m.copy.priority } : State).setGrant t
      .requested) = queued s t m := by
    simp only [State.setGrant, State.setPhase, State.tr_arbiter, State.tr_setTr_self]
    simp only [queued, State.setTr, Quad.set_set, Arbiter.join, hw, insertEntry]
  simp only [enterWaitGrant, hm]
  rw [← hqueued]
  exact if_neg hin

section
variable {s : State} {t : TransportId} {m : Motion} (hm : (s.tr t).motion = some m)
  (hf : s.arbiter.holders.get t = false) (hw : s.arbiter.waiting = [])
include hm hf hw

/-- A request with room is granted, and the motion makes its first ramp step (R44, R45, R121, R125). -/
theorem runTasks_enterWaitGrant_room (hs : s.StartsOnGrant t m)
    (hroom : s.arbiter.limit = 0 ∨ s.holderCount < s.arbiter.limit) (n : Nat) (l : List Task) :
    runTasks (n + 6) (.enterWaitGrant t :: l) s = runTasks n l (s.started t) := by
  rw [runTasks_succ, handle, enterWaitGrant_free hm hf hw, if_pos ((room_iff s).mpr hroom)]
  simp only [List.append_nil, List.singleton_append]
  exact (runTasks_deliver (startsOnGrant_setPhase hs .waitGrant) n l).trans (by rw [started_setPhase _ _ _ hm])

/-- A request without room waits in the list (R44, R121, R122). -/
theorem runTasks_enterWaitGrant_full (hroom : s.arbiter.limit ≠ 0 ∧ s.arbiter.limit ≤ s.holderCount) (n : Nat)
    (l : List Task) : runTasks (n + 1) (.enterWaitGrant t :: l) s = runTasks n l (queued s t m) := by
  have hroom' : ¬ s.arbiter.room = true := (room_iff s).not.mpr (by omega)
  rw [runTasks_succ, handle, enterWaitGrant_free hm hf hw, if_neg hroom']
  simp only [Reaction.idle, List.nil_append, List.append_nil]

/-- A transport that waits for vacuum with no recovery hears of READY, and asks for its grant (R43, R137). -/
theorem runTasks_readyTrue_asks (hc : (s.tr t).condition = .loaded) (hp : (s.tr t).phase = .waitVacuum)
    (ha : (s.tr t).hold.active = none) (n : Nat) :
    (s.StartsOnGrant t m → s.arbiter.limit = 0 ∨ s.holderCount < s.arbiter.limit →
      runTasks (n + 8) [.readyTrue t] s = .next (s.started t)) ∧
    (s.arbiter.limit ≠ 0 ∧ s.arbiter.limit ≤ s.holderCount →
      runTasks (n + 8) [.readyTrue t] s = .next (queued s t m)) := by
  have hphase : (s.tr t).hasPhase = true := by simp [Transport.hasPhase, hc]
  rw [runTasks_readyTrue, if_pos ⟨hphase, hp⟩, ha]
  simp only [reduceCtorEq, if_false, List.append_nil, List.singleton_append]
  refine ⟨fun hs hroom => ?_, fun hroom => ?_⟩
  · rw [runTasks_enterWaitGrant_room hm hf hw hs hroom,
      runTasks_vacuumStepTest_idle ((started_condition hm).trans hc), runTasks_nil]
  · rw [runTasks_enterWaitGrant_full hm hf hw hroom,
      runTasks_vacuumStepTest_idle ((queued_condition s t m).trans hc), runTasks_nil]

end

/-! ### The end of a VACUUM SAG recovery -/

/-- With READY true a MOVE that starts from rest goes on to ask for its grant (R43). -/
theorem runTasks_startFromRest_ready {s : State} {t : TransportId} {m : Motion} (hm : (s.tr t).motion = some m)
    (hk : m.kind = .move) (hr : s.vacuum.ready = true) (n : Nat) (l : List Task) :
    runTasks (n + 1) (.startFromRest t :: l) s = runTasks n (.enterWaitGrant t :: l) (s.setPhase t .waitVacuum) := by
  have hstart : startFromRest t s = { state := s.setPhase t .waitVacuum, now := [.enterWaitGrant t] } := by
    simp only [startFromRest, hm, hr, if_true, Transport.topAtStart, hk]
    rw [← hm]
    rfl
  rw [runTasks_succ, handle, hstart]
  simp only [List.append_nil, List.singleton_append]

/-- READY becoming true at a HELD transport whose active recovery is a VACUUM SAG ends that recovery (R90, R98 to R100,
R137). -/
theorem sagEnds_readyTrue {s : State} {t : TransportId} (hc : (s.tr t).condition = .loaded)
    (hp : (s.tr t).phase = .held) (ha : (s.tr t).hold.active = some .sag) (hr : s.vacuum.ready = true) (n : Nat) :
    s.SagEnds t (runTasks (n + 14) [.readyTrue t] s) := by
  have hrun : runTasks (n + 14) [.readyTrue t] s = runTasks (n + 13) [.recoveryEnd t, .vacuumStepTest t] s := by
    rw [runTasks_readyTrue, if_neg (fun h => by simp [hp] at h), if_pos ha]
    rfl
  rw [hrun]
  unfold State.SagEnds
  intro tr h out put
  have idle : ∀ (k : Nat) (x : Hold),
      runTasks (k + 1) [.vacuumStepTest t] (s.setTr t (holding (s.tr t) x)) = .next (put x) := fun k x => by
    rw [runTasks_vacuumStepTest_idle (by rw [State.tr_setTr_self]; exact hc), runTasks_nil]
    rfl
  have hdrop : ∀ p : Rank, h.pending = noRanks.put p true →
      (recovered h .sag).dropPending p = { out with pending := noRanks } := fun p hpend => by
    have hnone : h.pending.put p false = noRanks := by rw [hpend]; cases p <;> rfl
    rw [← hnone]
    rfl
  refine ⟨fun hpend h2 => ?guardNext, fun hpend h2 => ?pauseNext, fun x h2 hx hpend => ?slot2, fun hpend h2 h1 hq => ?empty,
    fun m hpend h2 h1 he hl hg hf hw => ?saved⟩
  case guardNext =>
    have hs : h.successor = some .loopGuard := successor_of_outranks hpend fun x hx => by rw [h2 x hx]; rfl
    rw [runTasks_recoveryEnd_pending ha hs nofun, idle, hdrop _ hpend]
  case pauseNext =>
    have hs : h.successor = some .pause := successor_of_outranks hpend (by simp [h2])
    rw [runTasks_recoveryEnd_pending ha hs nofun, idle, hdrop _ hpend]
  case slot2 =>
    have hs : h.successor = none := by
      obtain hpend | ⟨hpend, hrank⟩ := hpend
      · exact successor_of_none hpend
      · exact successor_of_outranked hpend h2 (by rw [hrank]; rfl)
    rw [runTasks_recoveryEnd_slot2 ha hs h2 hx, idle]
    rfl
  case empty =>
    rw [runTasks_recoveryEnd_empty ha (successor_of_none hpend) h2 h1 hq]
    simp only [List.cons_append, List.nil_append]
    rw [runTasks_vacuumStepTest_idle (by rw [State.tr_setTr_self]; exact hc),
      runTasks_idleReport (by rw [State.tr_setTr_self]; exact idle_of_stopped hc rfl hq), runTasks_vacuumReview,
      runTasks_nil]
    rfl
  case saved =>
    intro u hu
    let w : State := s.setTr t (resumed (s.tr t) m (recovered (s.tr t).hold .sag))
    have hwm : (w.tr t).motion = some m := by rw [tr_resumed]; rfl
    have hwait : w.setPhase t .waitVacuum = u.setPhase t .waitVacuum := by
      simp only [w, u, setPhase_setTr]
      rfl
    have hres : resume t w = { state := w, now := [.startFromRest t] } :=
      resume_move hwm hu.kind he (fun code =>
        (limitMet_setTr (s := s) (x := resumed (s.tr t) m _) rfl _ code).not.mpr (hl code)) hu.distance
    rw [runTasks_recoveryEnd_saved ha (successor_of_none hpend) h2 h1, runTasks_succ, handle, hres]
    simp only [List.append_nil, List.singleton_append]
    rw [runTasks_startFromRest_ready hwm hu.kind hr]
    have hum : (u.tr t).motion = some m := by simp only [u, State.tr_setTr_self]
    have hut : ((u.setPhase t .waitVacuum).tr t) = { u.tr t with phase := .waitVacuum } := State.tr_setTr_self ..
    have hm : ((u.setPhase t .waitVacuum).tr t).motion = some m := by rw [hut]; exact hum
    rw [hwait]
    refine ⟨fun hroom => ?_, fun h0 hfull => ?_⟩
    · rw [runTasks_enterWaitGrant_room hm hf hw (startsOnGrant_setPhase hu .waitVacuum) hroom, started_setPhase _ _ _ hum]
      rw [runTasks_vacuumStepTest_idle ((started_condition hum).trans hu.condition), runTasks_nil]
    · rw [runTasks_enterWaitGrant_full hm hf hw ⟨h0, hfull⟩,
        runTasks_vacuumStepTest_idle ((queued_condition ..).trans (by rw [hut]; exact hu.condition)), runTasks_nil]
      have hqueued : queued (u.setPhase t .waitVacuum) t m =
          { u.setTr t { u.tr t with engine := { tr.engine with grant := .requested } } with
            arbiter := { s.arbiter with
              waiting := [{ transport := t, priority := m.copy.priority, joined := s.arbiter.nextJoin }]
              nextJoin := s.arbiter.nextJoin + 1 } } := by
        simp only [queued, u, setPhase_setTr, State.tr_setTr_self, State.setTr_setTr]
        rfl
      rw [hqueued]

/-! ### READY and the economy timer -/

/-- The state in which READY has become true (R137, log 24). -/
def madeReady (s : State) : State :=
  { s with vacuum := { s.vacuum with settle := some 300, ready := true }, freeCount := s.freeCount + 4 }

theorem exec_readyBecomesTrue {s : State} (hb : s.vacuum.blower = .normal) (hr : s.vacuum.ready = false) :
    exec .readyBecomesTrue s =
      runTasks 4096 ((freeOrder 4 s.freeCount s.handedTransports).map .readyTrue) (madeReady s) := by
  simp [exec, execReadyBecomesTrue, settleComplete, hb, hr, finish, agendaBound, madeReady, settleGoal]

/-- Beside UNLOADED transports READY becoming true reaches one transport (R137). -/
theorem exec_readyBecomesTrue_alone {s : State} {t : TransportId} (hb : s.vacuum.blower = .normal)
    (hr : s.vacuum.ready = false) (ho : ∀ u, u ≠ t → (s.tr u).condition = .unloaded)
    (hc : (s.tr t).condition ≠ .unloaded) : exec .readyBecomesTrue s = runTasks 4096 [.readyTrue t] (madeReady s) := by
  rw [exec_readyBecomesTrue hb hr, handedTransports_alone ho hc]
  rfl

/-- Where no transport waits for a grant, the loss of READY is reported without effect (R138). -/
theorem reportReadyFalse_idle {s : State} (h : ∀ t, (s.tr t).phase ≠ .waitGrant) : reportReadyFalse s = s := by
  have hlose : ∀ t, loseReady t s = s := fun t => by simp [loseReady, h t]
  simp only [reportReadyFalse, transportIds, List.foldl_cons, List.foldl_nil, hlose]

/-- Settles O50: READY reaches the transport that waits for it (R137), and the expiry of the economy timer lowers the blower
(R134). -/
theorem readyAndEconomyEvents : Obligations.ReadyAndEconomyEvents := by
  intro s
  refine ⟨fun he hb hp => ?expiry, fun hb hr => ?_⟩
  case expiry =>
    have hnone := reportReadyFalse_idle (s := { s with
      vacuum := { s.vacuum with blower := .economy, settle := none, ready := false } }) hp
    simp only [exec, execEconomyTimerExpiry, Option.isSome_iff_ne_none.mpr he, if_true, economyExpiry, setBlower,
      if_neg hb, hnone, ite_self]
  intro up
  refine ⟨fun h => ?quiet, fun t ho hc hp ha => ?recovery, fun t ho hh => ?_⟩
  case quiet =>
    rw [exec_readyBecomesTrue hb hr, handedTransports_none h]
    rfl
  case recovery =>
    rw [exec_readyBecomesTrue_alone hb hr ho (by rw [hc]; nofun)]
    exact sagEnds_readyTrue (s := up) hc hp ha rfl 4082
  intro tr
  have hactive : tr.hold.active = none := congrArg Hold.active hh
  refine ⟨fun hc hl => ?draws, fun m hc hp hm hg hf hw => ?_⟩
  case draws =>
    rw [exec_readyBecomesTrue_alone hb hr ho (by rw [hc]; nofun),
      runTasks_readyTrue_draws (s := madeReady s) hc hl hactive rfl]
    exact ⟨_, rfl, rfl, rfl, hc, rfl, rfl, rfl, rfl, by simp only [ms, Nat.mul_comm]; rfl⟩
  intro held count
  have hasks := runTasks_readyTrue_asks (s := madeReady s) hm hf hw hc hp hactive 4088
  rw [exec_readyBecomesTrue_alone hb hr ho (by rw [hc]; nofun)]
  refine ⟨hasks.2, fun hroom hk hd htape hv htach ha htop => ?starts⟩
  case starts =>
    have hstarts : (madeReady s).StartsOnGrant t m :=
      { motion := hm, kind := hk, condition := hc, distance := hd, tape := htape, still := hv, tach := htach
        cause := congrArg Hold.cause hh, copy := ⟨ha, htop⟩ }
    rw [hasks.1 hstarts hroom]
    simp only [State.started, hstarts.motion]
    rw [← hstarts.motion]
    rfl

end Sys2Proof.Resumption
end

section
/-! SUPPORT. What a fault stop leaves of the whole state once its event is over (R107 to R111): the frames on each port, the transport, and what the review of the blower behind it leaves alone. -/

namespace Sys2Proof.Resumption

open Sys2Proof Sys2Proof.Machine Sys2Proof.OrderQueue Sys2Proof.RampEngine

/-! ### Attentions -/

/-- A port after one attention has come for it: an UP port with room takes the frame, any other counts it as dropped
(R161). -/
def delivered (x : Port) (t : TransportId) (k : AttentionKind) (b : List Byte) : Port :=
  if x.up = true ∧ x.tx.length < 16 then
    { x with tx := x.tx ++ [{ kind := .attention, unit := lowestUnit x.unitMap t, tag := 0, code := k.code
                              body := transportByte t :: b }] }
  else { x with counters := { x.counters with dropped := min 65535 (x.counters.dropped + 1) } }

section
variable (t : TransportId) (k : AttentionKind) (b : List Byte)

@[simp] theorem attend_resetHold (p : PortId) (s : State) : (attend p t k b s).resetHold = s.resetHold := by
  obtain ⟨x, hx⟩ := attend_eq p t k b s
  rw [hx]

/-- An attention reaches its port alone, and none while a PART RESET hold stands (R161, R170). -/
theorem port_attend (p q : PortId) (s : State) : (attend p t k b s).port q =
    if q = p ∧ s.resetHold.isSome = false then delivered (s.port q) t k b else s.port q := by
  unfold attend
  by_cases hr : s.resetHold.isSome = true
  · simp [hr]
  · rw [if_neg hr]
    by_cases hu : ((s.port p).up && decide ((s.port p).tx.length < readyLowAt)) = true
    · have hroom : (s.port p).up = true ∧ (s.port p).tx.length < 16 := by
        simp only [Bool.and_eq_true, decide_eq_true_eq] at hu
        exact hu
      rw [if_pos hu, place, if_pos hroom.1, State.port_setPort]
      by_cases hq : q = p
      · subst hq; simp [hr, delivered, hroom]
      · simp [hq]
    · have hroom : ¬ ((s.port p).up = true ∧ (s.port p).tx.length < 16) := by
        simp only [Bool.and_eq_true, decide_eq_true_eq] at hu
        exact hu
      rw [if_neg hu, countDropped, State.port_setPort]
      by_cases hq : q = p
      · subst hq; rw [if_pos rfl, if_pos ⟨rfl, by simpa using hr⟩, delivered, if_neg hroom]; rfl
      · simp [hq]

theorem port_attendAll {ps : List PortId} (hn : ps.Nodup) (q : PortId) (s : State) : (attendAll ps t k b s).port q =
    if q ∈ ps ∧ s.resetHold.isSome = false then delivered (s.port q) t k b else s.port q := by
  induction ps generalizing s with
  | nil => simp [attendAll]
  | cons p ps ih =>
    obtain ⟨hp, hn⟩ := List.nodup_cons.mp hn
    have hstep : attendAll (p :: ps) t k b s = attendAll ps t k b (attend p t k b s) := rfl
    rw [hstep, ih hn, attend_resetHold, port_attend]
    by_cases hq : q = p
    · subst hq; simp [hp]
    · simp [hq]

theorem nodup_attentionPorts (o : Option PortId) (s : State) : (attentionPorts o s).Nodup := by
  cases o with
  | some p => exact List.nodup_singleton p
  | none => exact List.Nodup.filter _ (by decide)

theorem mem_attentionPorts {o : Option PortId} {s : State} {q : PortId} :
    q ∈ attentionPorts o s ↔ o = some q ∨ (o = none ∧ (s.port q).up = true) := by
  cases o with
  | some p => simp only [attentionPorts, List.mem_singleton, Option.some.injEq, reduceCtorEq, false_and, or_false, eq_comm]
  | none => cases q <;> simp [attentionPorts]

/-- The attention of a transport on each port, as R161 says where it goes. -/
theorem port_attentions (q : PortId) (s : State) : (attendAll (attentionPorts (s.owner t) s) t k b s).port q =
    if s.resetHold.isSome = true then s.port q else s.attended t k.code b q := by
  rw [port_attendAll t k b (nodup_attentionPorts _ _)]
  simp only [mem_attentionPorts, State.attended]
  by_cases hr : s.resetHold.isSome = true
  · simp [hr]
  · by_cases ho : s.owner t = some q ∨ (s.owner t = none ∧ (s.port q).up = true)
    · rw [if_pos ⟨ho, by simpa using hr⟩, if_neg hr, if_pos ho, delivered]
    · rw [if_neg (fun h => ho h.1), if_neg hr, if_neg ho]

end

/-! ### The frames of a fault stop -/

/-- The ABORTED endings that port `q` gets in a fault stop: of the current order, or the LOAD, and of the queue (R109). -/
def aborted (s : State) (t : TransportId) (c : FaultCause) (q : PortId) : List OutFrame :=
  (if (s.tr t).condition = .loading then s.loadEnding t q 0x10 (some c)
    else ((s.tr t).current.map fun m => s.endingOf t q m 0x10 (some c)).getD []) ++ s.flushed t q 0x10 (some c)

theorem faultPort_eq (s : State) (t : TransportId) (c : FaultCause) (q : PortId) : s.faultPort t c q =
    let x := (s.port q).sent (aborted s t c q)
    let y := if s.resetHold.isSome = true then x else (s.setPort q x).attended t 2 [BitVec.ofNat 8 c.code] q
    y.sent (((s.tr t).release.map fun r => if r.port = q then
      [{ kind := .response, unit := lowestUnit y.unitMap t, tag := r.tag, code := 0, body := [transportByte t] }]
      else []).getD []) := by
  unfold State.faultPort aborted
  cases hr : (s.tr t).release <;> cases hm : (s.tr t).current <;> rfl

theorem abortCurrent_flush (s : State) (t : TransportId) (c : FaultCause) :
    flush t .aborted (some c) (abortCurrent t c s) =
      sending (aborted s t c) (s.setTr t { s.tr t with queue := [] }) := by
  have habort : abortCurrent t c s = sending (fun q => if (s.tr t).condition = .loading then s.loadEnding t q 0x10 (some c)
      else ((s.tr t).current.map fun m => s.endingOf t q m 0x10 (some c)).getD []) s := by
    unfold abortCurrent
    by_cases hc : (s.tr t).condition = .loading
    · simp only [hc, beq_self_eq_true, if_true, placeLoadEnding_eq]; rfl
    · simp only [beq_iff_eq, if_neg hc]
      cases (s.tr t).current with
      | none => exact (sending_none s).symm
      | some m => exact placeMotionEnding_eq ..
  rw [flush_eq, habort]
  simp only [flushed_sending, tr_sending, setTr_sending, sending_sending]
  rfl

theorem port_relieved (s : State) (t : TransportId) (q : PortId) : (s.relieved t).port q =
    (s.port q).sent (((s.tr t).release.map fun r => if r.port = q then
      [{ kind := .response, unit := lowestUnit (s.port q).unitMap t, tag := r.tag, code := 0, body := [transportByte t] }]
      else []).getD []) := by
  cases hr : (s.tr t).release with
  | none => rw [relieved_none hr]; simp
  | some r =>
    simp only [State.relieved, hr, State.port_setPort, Option.map_some, Option.getD_some]
    by_cases hq : q = r.port
    · subst hq; simp
    · simp [hq, Ne.symm hq]

@[simp] theorem relieved_tables (s : State) (t : TransportId) : (s.relieved t).tables = s.tables := by
  cases hr : (s.tr t).release <;> simp [State.relieved, hr]

@[simp] theorem relieved_vacuum (s : State) (t : TransportId) : (s.relieved t).vacuum = s.vacuum := by
  cases hr : (s.tr t).release <;> simp [State.relieved, hr]

theorem owner_relieved (s : State) (t : TransportId) :
    (s.relieved t).owner t = if (s.tr t).release.isSome then none else s.owner t := by
  cases hr : (s.tr t).release <;> simp [State.relieved, hr]

theorem tr_relieved_ne {s : State} {t v : TransportId} (hv : v ≠ t) : (s.relieved t).tr v = s.tr v := by
  cases hr : (s.tr t).release with
  | none => rw [relieved_none hr]
  | some r => simpa [State.relieved, hr] using State.tr_setTr_ne _ _ hv

/-! ### The state that a fault stop leaves -/

/-- What the state `w` is after a fault stop of transport `t` in the state `s`, but for its grant and the review of the
blower (R108 to R111). -/
structure Stopped (s w : State) (t : TransportId) (c : FaultCause) : Prop where
  transport : w.tr t = { (s.tr t).faultStopped c ((s.tr t).takeSnapshot c) with release := none }
  others : ∀ v, v ≠ t → w.tr v = s.tr v
  ports : ∀ q, w.port q = s.faultPort t c q
  owner : w.owner t = if (s.tr t).release.isSome then none else s.owner t
  tables : w.tables = s.tables
  vacuum : w.vacuum = s.vacuum
  arbiter : w.arbiter = s.arbiter

theorem attended_congr {s w : State} {t : TransportId} {q : PortId} (ho : w.owner t = s.owner t)
    (hp : w.port q = s.port q) (k : Byte) (b : List Byte) : w.attended t k b q = s.attended t k b q := by
  simp only [State.attended, ho, hp]

theorem faultStop_stopped (t : TransportId) (c : FaultCause) (s : State) : ∃ w : State,
    faultStop t c s = (giveUpGrant t w).andThen [] [.vacuumReview] ∧ Stopped s w t c := by
  let x : Transport := ({ s.tr t with queue := [] } : Transport).faultStopped c ((s.tr t).takeSnapshot c)
  let u : State := sending (aborted s t c) (s.setTr t x)
  obtain ⟨ports, hports⟩ := attendAll_eq (attentionPorts (s.owner t) u) t .faultStop [BitVec.ofNat 8 c.code] u
  let a : State := { u with ports := ports }
  have hu : u.tr t = x := by simp only [u, tr_sending, State.tr_setTr_self]
  have ha : a.tr t = x := hu
  have hport : ∀ q, a.port q = (if s.resetHold.isSome = true then (s.port q).sent (aborted s t c q)
      else (s.setPort q ((s.port q).sent (aborted s t c q))).attended t 2 [BitVec.ofNat 8 c.code] q) := fun q => by
    have hsent : u.port q = (s.port q).sent (aborted s t c q) := port_sending ..
    have hat : u.attended t 2 [BitVec.ofNat 8 c.code] q =
        (s.setPort q ((s.port q).sent (aborted s t c q))).attended t 2 [BitVec.ofNat 8 c.code] q :=
      attended_congr (s := s.setPort q ((s.port q).sent (aborted s t c q))) (w := u) rfl
        (by rw [hsent, State.port_setPort_self]) ..
    have hall := port_attentions t .faultStop [BitVec.ofNat 8 c.code] q u
    rw [show attendAll (attentionPorts (u.owner t) u) t .faultStop [BitVec.ofNat 8 c.code] u = a from hports] at hall
    rw [hall, ← hat, ← hsent]
    rfl
  refine ⟨monitorEnd t (a.relieved t), ?_, ?_⟩
  · have hflush := abortCurrent_flush s t c
    have hattend : attendAll (attentionPorts (s.owner t) u) t .faultStop [BitVec.ofNat 8 c.code] u = a := hports
    rw [← completeRelease_eq, ← hattend]
    simp only [faultStop, hflush, setTr_sending, tr_sending, State.tr_setTr_self, State.setTr_setTr]
    rfl
  · have hmon : monitorEnd t (a.relieved t) = { a.relieved t with monitor := (monitorEnd t (a.relieved t)).monitor } := by
      rw [monitorEnd_eq]
    rw [hmon]
    generalize (monitorEnd t (a.relieved t)).monitor = mon
    have hrel : (a.tr t).release = (s.tr t).release := by rw [ha]; rfl
    exact {
      transport := by rw [State.tr_monitor, tr_relieved, ha]; rfl
      others := fun v hv => by rw [State.tr_monitor, tr_relieved_ne hv]; exact State.tr_setTr_ne _ _ hv
      ports := fun q => by
        rw [State.port_monitor, port_relieved, hrel, hport, faultPort_eq]
      owner := by rw [State.owner_monitor, owner_relieved, hrel]; rfl
      tables := relieved_tables ..
      vacuum := relieved_vacuum ..
      arbiter := relieved_arbiter .. }

/-! ### The review of the blower -/

/-- Setting the blower to what it is changes nothing; otherwise READY and the settle timer go with it (R133, R138). -/
theorem setBlower_cases (b : Blower) (s : State) : (s.vacuum.blower = b ∧ setBlower b s = s) ∨
    (s.vacuum.blower ≠ b ∧ (setBlower b s).vacuum = { s.vacuum with blower := b, settle := none, ready := false }) := by
  unfold setBlower
  dsimp only
  split
  · exact .inl ⟨‹_›, rfl⟩
  · refine .inr ⟨‹_›, ?_⟩
    split
    · exact reportReadyFalse_vacuum _
    · rfl

theorem reviewVacuum_lastPressure (s : State) : (reviewVacuum s).vacuum.lastPressure = s.vacuum.lastPressure := by
  have hl : (reviewVacuum s).vacuum.lastPressure =
    (setBlower (blowerFor s.vacuum.mode s.allUnloaded s.quiet s.vacuum.blower) s).vacuum.lastPressure := rfl
  obtain ⟨-, h⟩ | ⟨-, h⟩ := setBlower_cases (blowerFor s.vacuum.mode s.allUnloaded s.quiet s.vacuum.blower) s <;>
    rw [hl, h]

/-- A review that leaves the blower as it is leaves the transports as they are (R133, R138). -/
theorem reviewVacuum_transports {s : State} (h : (reviewVacuum s).vacuum.blower = s.vacuum.blower) :
    (reviewVacuum s).transports = s.transports := by
  have hb : (setBlower (blowerFor s.vacuum.mode s.allUnloaded s.quiet s.vacuum.blower) s).vacuum.blower =
    s.vacuum.blower := h
  obtain ⟨-, hs⟩ | ⟨hne, hv⟩ := setBlower_cases (blowerFor s.vacuum.mode s.allUnloaded s.quiet s.vacuum.blower) s
  · have hset := congrArg State.transports hs
    exact hset
  · rw [hv] at hb; exact absurd hb.symm hne

/-- The order that a snapshot records: the LOAD while LOADING, or the current order (R111). -/
theorem snapshotOrder_eq (tr : Transport) : tr.snapshotOrder =
    if tr.condition = .loading ∧ tr.load.record.isSome then
      tr.load.record.map (fun l => { kind := .load, tag := l.tag, origin := l.origin })
    else tr.current.map (fun m => { kind := m.kind, tag := m.tag, origin := m.origin }) := by
  unfold Transport.snapshotOrder
  cases hc : tr.condition <;> cases hl : tr.load.record <;> simp

/-- A fault stop of a transport whose grant, if it holds one, no one waits for, with the review of the blower behind it
(R107 to R111). -/
theorem Stopped.faultStopped {s w : State} {t : TransportId} {c : FaultCause} (h : Stopped s w t c)
    (hf : s.FreeToLetGo t) : s.FaultStopped (reviewVacuum (w.letGo t)) t c := by
  have hreview := reviewVacuum_beside (t := t) (s := w.letGo t) (by rw [tr_letGo, h.transport]; nofun)
  have hgrant : (w.tr t).engine.grant = (s.tr t).engine.grant := by rw [h.transport]; rfl
  have hnone : (if (w.tr t).engine.grant = .held then GrantState.none else (w.tr t).engine.grant) = .none := by
    cases hg : (w.tr t).engine.grant with
    | none | held => rfl
    | requested => exact absurd (hgrant.symm.trans hg) hf.noRequest
  have htr : (reviewVacuum (w.letGo t)).tr t =
      { (s.tr t).faultStopped c ((s.tr t).takeSnapshot c) with release := none, engine := idleEngine } := by
    rw [hreview.transport, tr_letGo, hnone, h.transport]
    rfl
  have hstopped : ∀ v, v ≠ t → (w.letGo t).tr v = s.tr v := fun v hv => by
    rw [State.letGo, ← h.others v hv]
    split
    · exact State.tr_setTr_ne _ _ hv
    · rfl
  exact {
    condition := by rw [htr]; rfl
    cause := by rw [htr]; rfl
    brakes := by rw [htr]; rfl
    valve := by rw [htr]; rfl
    still := by rw [htr]; rfl
    demands := by rw [htr]; exact ⟨rfl, rfl⟩
    loopGuard := by rw [htr]; rfl
    radii := by rw [htr]; exact ⟨rfl, rfl⟩
    empty := by rw [htr]; exact ⟨rfl, rfl, rfl, rfl, rfl, rfl, rfl, rfl, rfl⟩
    kept := by rw [htr]; exact ⟨rfl, rfl, rfl⟩
    counter := by rw [htr]; rfl
    snapshot := ⟨(s.tr t).takeSnapshot c, by rw [htr]; rfl, rfl, rfl, rfl, rfl, rfl, rfl, rfl, rfl, rfl, rfl, rfl, rfl,
      snapshotOrder_eq _, by cases hm : (s.tr t).current <;> simp [Transport.takeSnapshot, hm, Motion.stopError], rfl⟩
    others := fun hb v hv => by
      have hsame := reviewVacuum_transports (hb.trans (by rw [letGo_vacuum, h.vacuum]))
      exact (State.tr_congr hsame v).trans (hstopped v hv)
    frames := fun q => (congrArg (fun x : PerPort Port => x.get q) (hreview.ports.trans (letGo_ports ..))).trans (h.ports q)
    released := (congrArg (fun x : Quad (Option PortId) => x.get t) (hreview.owners.trans (letGo_owners ..))).trans h.owner
    tables := hreview.tables.trans ((letGo_tables ..).trans h.tables) }

/-- A cause handed to Fault Stop at a transport that is not FAULTED yet, with nothing else to do in its event (R107). -/
theorem runTasks_faultStops {s : State} {t : TransportId} (hc : (s.tr t).condition ≠ .faulted) (hf : s.FreeToLetGo t)
    (c : FaultCause) (n : Nat) : ∃ u, runTasks (n + 3) [.fault t c] s = .next u ∧ s.FaultStopped u t c ∧
      u.vacuum.lastPressure = s.vacuum.lastPressure := by
  obtain ⟨w, hw, hs⟩ := faultStop_stopped t c s
  have hgrant : (w.tr t).engine.grant = (s.tr t).engine.grant := by rw [hs.transport]; rfl
  have hfree : w.FreeToLetGo t := ⟨by rw [hgrant]; exact hf.noRequest, by rw [hgrant, hs.arbiter]; exact hf.noneWaits⟩
  refine ⟨reviewVacuum (w.letGo t), ?_, hs.faultStopped hf, by rw [reviewVacuum_lastPressure, letGo_vacuum, hs.vacuum]⟩
  have hhandle : handFault t c s = (giveUpGrant t w).andThen [] [.vacuumReview] := by
    rw [handFault, if_neg (by simpa using hc), hw]
  rw [runTasks_succ, handle, hhandle, giveUpGrant_of_not_requested hfree.noRequest]
  by_cases hg : (w.tr t).engine.grant = .held
  · simp only [Reaction.andThen, hg, if_true, List.append_nil, List.nil_append, List.singleton_append]
    rw [runTasks_serve_none (by rw [letGo_waiting]; exact hfree.noneWaits hg), runTasks_vacuumReview, runTasks_nil]
  · simp only [Reaction.andThen, hg, if_false, List.append_nil, List.nil_append]
    rw [runTasks_vacuumReview, runTasks_nil]

end Sys2Proof.Resumption
end

section
/-! SUPPORT. What a pressure sample finds (R132, R136 to R140), what its findings do at one transport (R85 to R97), and the statement about it. -/

namespace Sys2Proof.Resumption

open Sys2Proof Sys2Proof.Machine Sys2Proof.OrderQueue

/-! ### A free order of the hand-offs -/

/-- A free order is an order of the same things (R136, log 6). -/
theorem freeOrder_perm {α : Type} (fuel n : Nat) (xs : List α) : (freeOrder fuel n xs).Perm xs := by
  induction fuel generalizing n xs with
  | zero => exact .refl xs
  | succ fuel ih =>
    match xs with
    | [] | [_] => exact .refl _
    | x :: y :: rest =>
      have hi : Config.freeChoice n % (x :: y :: rest).length < (x :: y :: rest).length :=
        Nat.mod_lt _ (Nat.succ_pos _)
      have hget : (x :: y :: rest).getD (Config.freeChoice n % (x :: y :: rest).length) x =
          (x :: y :: rest)[Config.freeChoice n % (x :: y :: rest).length] :=
        List.getD_eq_getElem _ _ hi
      simp only [freeOrder, hget]
      exact ((ih _ _).cons _).trans (List.getElem_cons_eraseIdx_perm hi)

theorem handedTransports_length (s : State) : s.handedTransports.length ≤ 4 := List.length_filter_le ..

/-! ### What a sample finds -/

/-- The state in which the vacuum supply has taken a sample (R136, step 1; log 24). -/
def sampledAt (s : State) (p : Nat) : State :=
  { s with vacuum := s.vacuum.sampled p, freeCount := s.freeCount + 4 }

theorem exec_pressureSample (s : State) (x : Byte) : exec (.pressureSample x) s =
    runTasks 4096 ((freeOrder 4 s.freeCount s.handedTransports).map fun t =>
      .pressure t (findingOf s.vacuum (s.vacuum.sampled x.toNat))) (sampledAt s x.toNat) := by
  simp [exec, execPressureSample, pressureSample, finish, agendaBound, sampledAt]

/-- Beside UNLOADED transports a sample is handed to one transport (R136). -/
theorem exec_pressureSample_alone {s : State} {t : TransportId} (ho : ∀ u, u ≠ t → (s.tr u).condition = .unloaded)
    (hc : (s.tr t).condition ≠ .unloaded) (x : Byte) : exec (.pressureSample x) s =
      runTasks 4096 [.pressure t (findingOf s.vacuum (s.vacuum.sampled x.toNat))] (sampledAt s x.toNat) := by
  rw [exec_pressureSample, handedTransports_alone ho hc]
  rfl

section
variable {v : Vacuum} {p : Nat}

theorem finding_loss (h : p < v.loss) : (findingOf v (v.sampled p)).belowLoss = true := decide_eq_true h

/-- A sample at or above LOSS and below SAG takes READY away, if it was true (R138, R139). -/
theorem finding_sag (hl : v.loss ≤ p) (hs : p < v.sag) : findingOf v (v.sampled p) =
    { belowLoss := false, belowSag := true, becameTrue := false, becameFalse := v.ready } := by
  simp [findingOf, Vacuum.sampled, nextReady, hs, Nat.not_lt.mpr hl]

/-- A sample at or above SAG brings READY at the end of the settle time (R137). -/
theorem finding_above (ho : v.Ordered) (hs : v.sag ≤ p) : findingOf v (v.sampled p) =
    { belowLoss := false, belowSag := false, becameTrue := !v.ready && nextSettle v p == some 300, becameFalse := false } := by
  have hl : ¬ p < v.loss := by have := ho.lossSag; omega
  cases hr : v.ready <;> simp [findingOf, Vacuum.sampled, nextReady, hl, Nat.not_lt.mpr hs, hr, settleGoal]

/-- The end of the settle time needs a sample at or above RUN (R137). -/
theorem run_le_of_settled (h : nextSettle v p = some 300) : v.run ≤ p := by
  by_contra hp
  simp [nextSettle, Nat.not_le.mp hp] at h

end

/-- The sample at the end of the settle time brings READY (R137). -/
theorem sampled_ready {v : Vacuum} {p : Nat} (ho : v.Ordered) (hset : nextSettle v p = some 300) :
    (v.sampled p).ready = true := by
  have hsag : ¬ p < v.sag := by have := run_le_of_settled hset; have := ho.sagRun; omega
  simp [Vacuum.sampled, nextReady, hsag, hset, settleGoal]

/-! ### A sample below LOSS -/

section
variable {s : State} {t : TransportId}

/-- VACUUM LOSS at a LOADED transport (R140). -/
theorem runTasks_pressure_loss {f : Finding} (hf : f.belowLoss = true) (hc : (s.tr t).condition = .loaded) (n : Nat) :
    runTasks (n + 1) [.pressure t f] s = runTasks n [.fault t .vacuumLoss] s := by
  simp [handle, pressure, hf, Transport.lossReaches, hc]

/-! ### A sample at or above SAG -/

/-- The transport after a sample at or above SAG: with a motion phase it has no VACUUM SAG pending (R86). -/
def unsagged (tr : Transport) : Transport := if tr.hasPhase then holding tr (tr.hold.dropPending .sag) else tr

theorem unsagged_unsagged (tr : Transport) : unsagged (unsagged tr) = unsagged tr := by
  unfold unsagged
  by_cases h : tr.hasPhase = true
  · have h' : (holding tr (tr.hold.dropPending .sag)).hasPhase = true := h
    simp only [h, h', if_true]
    rfl
  · rw [if_neg h, if_neg h]

theorem unsagged_of_not_pending {tr : Transport} (h : tr.hold.pending.sag = false) : unsagged tr = tr := by
  have hsame : tr.hold.dropPending .sag = tr.hold := by
    have hput : tr.hold.pending.put .sag false = tr.hold.pending := by rw [RankSet.put, ← h]
    rw [Hold.dropPending, hput]
  rw [unsagged, hsame]
  exact ite_self _

theorem runTasks_pressure_above (b : Bool) (n : Nat) (l : List Task) :
    runTasks (n + 1) (.pressure t { belowLoss := false, belowSag := false, becameTrue := b, becameFalse := false } :: l) s =
      runTasks n ((if b then [.readyTrue t] else []) ++ l) (s.setTr t (unsagged (s.tr t))) := by
  have hstate : (if (s.tr t).hasPhase = true then endCondition t .sag s else s) = s.setTr t (unsagged (s.tr t)) := by
    unfold unsagged
    split
    · rfl
    · exact (State.setTr_tr s t).symm
  simp [handle, pressure, hstate]

end

/-- The findings of a sample at or above SAG that brings no READY, at these transports. -/
theorem runTasks_pressure_all (ts : List TransportId) (n : Nat) (s : State) : ∃ u,
    runTasks (n + ts.length) (ts.map fun t =>
      .pressure t { belowLoss := false, belowSag := false, becameTrue := false, becameFalse := false }) s = .next u ∧
    u = { s with transports := u.transports } ∧ ∀ t, u.tr t = if t ∈ ts then unsagged (s.tr t) else s.tr t := by
  induction ts generalizing s with
  | nil => exact ⟨s, runTasks_nil .., rfl, fun t => by simp⟩
  | cons t ts ih =>
    obtain ⟨u, hrun, hu, htr⟩ := ih (s.setTr t (unsagged (s.tr t)))
    refine ⟨u, ?_, hu, fun v => ?_⟩
    · rw [List.map_cons, List.length_cons, ← Nat.add_assoc, runTasks_pressure_above]
      exact hrun
    · rw [htr, State.tr_setTr]
      by_cases hv : v = t
      · subst hv; simp [unsagged_unsagged]
      · simp [hv]

/-! ### A sample at or above LOSS and below SAG -/

section
variable {s : State} {t : TransportId}

theorem loseReady_idle (hp : (s.tr t).phase ≠ .waitGrant) : loseReady t s = s := by simp [loseReady, hp]

/-- VACUUM SAG is handed to the Hold Controller of a transport with a motion phase (R139). -/
theorem runTasks_pressure_sag (hh : (s.tr t).hasPhase = true) (b : Bool) (n : Nat) :
    runTasks (n + 1) [.pressure t { belowLoss := false, belowSag := true, becameTrue := false, becameFalse := b }] s =
      runTasks n [.arrive t .sag] (if b then loseReady t s else s) := by
  simp [handle, pressure, hh]

theorem stands_sag (x : Hold) :
    x.stands .sag = true ↔ x.cause = some .sag ∨ x.inService.sag = true ∨ x.pending.sag = true := by
  simp [Hold.stands, RankSet.has, or_assoc]

/-- VACUUM SAG changes nothing where it stands already, and it does not arise in STOPPED, DECEL and WAIT VACUUM (R85, R91,
R93). -/
theorem runTasks_sag_idle (hs : (s.tr t).phase = .stopped ∨ (s.tr t).phase = .decel ∨ (s.tr t).phase = .waitVacuum ∨
    (s.tr t).hold.stands .sag = true) (n : Nat) : runTasks (n + 1) [.arrive t .sag] s = .next s := by
  have harrive : arriveCause t .sag s = Reaction.idle s := by
    by_cases hn : (!(s.tr t).hasPhase || (s.tr t).hold.stands .sag) = true
    · exact if_pos hn
    · have hsn : ¬ (s.tr t).hold.stands .sag = true := fun h => hn (by rw [h, Bool.or_true])
      obtain hp | hp | hp := hs.imp_right fun h => h.imp_right fun h => h.resolve_right hsn <;>
        exact (if_neg hn).trans (by simp [hp])
  rw [runTasks_succ, handle, harrive]
  exact runTasks_nil ..

variable (hc : (s.tr t).condition = .loaded) (hs : (s.tr t).hold.stands .sag = false)
include hc hs

/-- VACUUM SAG in motion becomes the hold cause of a deceleration (R92). -/
theorem runTasks_sag_moving (hp : (s.tr t).phase = .accel ∨ (s.tr t).phase = .cruise) (hf : s.FreeToLetGo t) (n : Nat) :
    runTasks (n + 2) [.arrive t .sag] s = .next ((s.setTr t
      { s.tr t with phase := .holdDecel, hold := { (s.tr t).hold with cause := some .sag } }).letGo t) := by
  have harrive : arriveCause t .sag s =
      beginDecel t .holdDecel (s.setTr t { s.tr t with hold := { (s.tr t).hold with cause := some .sag } }) := by
    obtain hp | hp := hp <;> simp [arriveCause, Transport.hasPhase, hc, hs, hp, State.setHold]
  rw [runTasks_succ, handle, harrive]
  rw [runTasks_beginDecel (freeToLetGo_setTr hf (by rfl)) (runTasks_nil ..), setPhase_setTr]

/-- VACUUM SAG in HOLD DECEL becomes pending (R94). -/
theorem runTasks_sag_pends (hp : (s.tr t).phase = .holdDecel) (n : Nat) :
    runTasks (n + 1) [.arrive t .sag] s = .next (s.setTr t { s.tr t with
      hold := { (s.tr t).hold with pending := { (s.tr t).hold.pending with sag := true } } }) := by
  have harrive : arriveCause t .sag s = addPending t .sag s := by
    simp [arriveCause, Transport.hasPhase, hc, hs, hp]
  rw [runTasks_succ, handle, harrive]
  exact runTasks_nil ..

variable {a : Rank} (hp : (s.tr t).phase = .held) (ha : (s.tr t).hold.active = some a) (hn : a ≠ .sag)
include hp ha hn

theorem arriveCause_sag_held : arriveCause t .sag s =
    if (s.tr t).hold.slot2.isSome then { state := s, now := [.fault t .suspendOverflow] }
    else { state := pushRecovery t a s, now := [.enterService t .sag] } := by
  have hout : Rank.sag.outranks a = true := by
    cases a with
    | sag => exact absurd rfl hn
    | loopGuard | pause => rfl
  simp [arriveCause, Transport.hasPhase, hc, hs, hp, arriveHeld, ha, hout]

/-- VACUUM SAG goes before another active recovery, which waits in slot 2 (R87, R97). -/
theorem runTasks_sag_pushes (h2 : (s.tr t).hold.slot2 = none) (hr : s.vacuum.ready = false) (n : Nat) :
    runTasks (n + 2) [.arrive t .sag] s = .next (s.setTr t { s.tr t with hold := { (s.tr t).hold with
      slot2 := some { rank := a, settle := (s.tr t).hold.settle }
      inService := { (s.tr t).hold.inService with sag := true }, active := some .sag, settle := 0, timer := none } }) := by
  rw [runTasks_succ, handle, arriveCause_sag_held hc hs hp ha hn, h2]
  simp only [Option.isSome_none, Bool.false_eq_true, if_false, List.append_nil]
  rw [runTasks_enterService (s := pushRecovery t a s) (fun _ => hr), runTasks_nil, pushRecovery, State.setHold, State.tr_setTr_self,
    State.setTr_setTr]
  rfl

/-- With slot 2 taken there is no room for another recovery (R87). -/
theorem runTasks_sag_overflows (h2 : (s.tr t).hold.slot2 ≠ none) (n : Nat) :
    runTasks (n + 1) [.arrive t .sag] s = runTasks n [.fault t .suspendOverflow] s := by
  rw [runTasks_succ, handle, arriveCause_sag_held hc hs hp ha hn, if_pos (Option.isSome_iff_ne_none.mpr h2)]
  rfl

end

/-- A READY lost sends a motion from WAIT GRANT back to WAIT VACUUM, where VACUUM SAG does not arise (R44, R91, R138). -/
theorem runTasks_pressure_withdraws {s : State} {t : TransportId} (hc : (s.tr t).condition = .loaded)
    (hp : (s.tr t).phase = .waitGrant) (hg : (s.tr t).engine.grant = .requested) (n : Nat) :
    runTasks (n + 2) [.pressure t { belowLoss := false, belowSag := true, becameTrue := false, becameFalse := true }] s =
      .next ((s.withdrawn t).setPhase t .waitVacuum) := by
  have hh : (s.tr t).hasPhase = true := by simp [Transport.hasPhase, hc]
  have hlose : loseReady t s = (s.withdrawn t).setPhase t .waitVacuum := by
    have hgive := giveUpGrant_of_not_held (s := s) (t := t) (by rw [hg]; nofun)
    simp [loseReady, hh, hp, hgive, Reaction.idle]
  rw [runTasks_pressure_sag hh, if_pos rfl, hlose]
  exact runTasks_sag_idle (.inr (.inr (.inl (by rw [State.setPhase, State.tr_setTr_self])))) n

/-! ### The sample -/

/-- A fault stop does not depend on what the vacuum supply has sampled. -/
theorem faultStopped_of_sampledAt {s u : State} {t : TransportId} {c : FaultCause} {p : Nat}
    (h : (sampledAt s p).FaultStopped u t c) : s.FaultStopped u t c :=
  { condition := h.condition, cause := h.cause, brakes := h.brakes, valve := h.valve, still := h.still
    demands := h.demands, loopGuard := h.loopGuard, radii := h.radii, empty := h.empty, kept := h.kept
    counter := h.counter, snapshot := h.snapshot, others := h.others, frames := h.frames, released := h.released
    tables := h.tables }

/-- A sample at or above SAG that brings no READY takes a pending VACUUM SAG away, and changes no more (R86). -/
theorem exec_pressureSample_above {s : State} {x : Byte} (ho : s.vacuum.Ordered) (hs : s.vacuum.sag ≤ x.toNat)
    (hr : s.vacuum.ready = true ∨ nextSettle s.vacuum x.toNat ≠ some 300) : ∃ u, exec (.pressureSample x) s = .next u ∧
      u = { sampledAt s x.toNat with transports := u.transports } ∧ ∀ t, u.tr t = unsagged (s.tr t) := by
  have hnone : (!s.vacuum.ready && nextSettle s.vacuum x.toNat == some 300) = false := by
    obtain hr | hr := hr <;> simp [hr]
  have hperm := freeOrder_perm 4 s.freeCount s.handedTransports
  obtain ⟨u, hrun, hu, htr⟩ := runTasks_pressure_all (freeOrder 4 s.freeCount s.handedTransports)
    (4096 - (freeOrder 4 s.freeCount s.handedTransports).length) (sampledAt s x.toNat)
  rw [Nat.sub_add_cancel (by have := handedTransports_length s; rw [hperm.length_eq]; omega)] at hrun
  refine ⟨u, ?_, hu, fun t => ((htr t).trans (if_congr hperm.mem_iff rfl rfl)).trans ?_⟩
  · rw [exec_pressureSample, finding_above ho hs, hnone, hrun]
  · split
    · rfl
    · rename_i hmem
      have hc : (s.tr t).condition = .unloaded := by
        simpa [State.handedTransports, show t ∈ transportIds by cases t <;> simp [transportIds]] using hmem
      exact (if_neg (by simp [Transport.hasPhase, Transport.searching, hc])).symm

section
variable {s : State} {t : TransportId} {x : Byte} (hall : ∀ u, u ≠ t → (s.tr u).condition = .unloaded)
include hall

/-- A sample below LOSS beside UNLOADED transports is a fault stop of the LOADED one (R140). -/
theorem exec_pressureSample_loss (hl : x.toNat < s.vacuum.loss) (hc : (s.tr t).condition = .loaded) :
    exec (.pressureSample x) s = runTasks 4095 [.fault t .vacuumLoss] (sampledAt s x.toNat) := by
  rw [exec_pressureSample_alone hall (by rw [hc]; nofun)]
  exact runTasks_pressure_loss (s := sampledAt s x.toNat) (finding_loss hl) hc 4095

/-- The sample at the end of the settle time is READY becoming true at the one transport, with no VACUUM SAG pending (R86,
R137). -/
theorem exec_pressureSample_ready (ho : s.vacuum.Ordered) (hr : s.vacuum.ready = false)
    (hset : nextSettle s.vacuum x.toNat = some 300) (hc : (s.tr t).condition ≠ .unloaded) :
    exec (.pressureSample x) s =
      runTasks 4095 [.readyTrue t] ((sampledAt s x.toNat).setTr t (unsagged (s.tr t))) := by
  have hsag : s.vacuum.sag ≤ x.toNat := by have := run_le_of_settled hset; have := ho.sagRun; omega
  rw [exec_pressureSample_alone hall hc, finding_above ho hsag, hr, hset]
  exact runTasks_pressure_above (s := sampledAt s x.toNat) true 4095 []

theorem exec_pressureSample_calm (ho : s.vacuum.Ordered) (hr : s.vacuum.ready = false)
    (hset : nextSettle s.vacuum x.toNat = some 300) (hc : (s.tr t).condition ≠ .unloaded)
    (hn : (s.tr t).hold.pending.sag = false) :
    exec (.pressureSample x) s = runTasks 4095 [.readyTrue t] (sampledAt s x.toNat) := by
  rw [exec_pressureSample_ready hall ho hr hset hc, unsagged_of_not_pending hn]
  exact congrArg _ (State.setTr_tr (sampledAt s x.toNat) t)

variable (hc : (s.tr t).condition = .loaded) (hl : s.vacuum.loss ≤ x.toNat) (hs : x.toNat < s.vacuum.sag)
include hc hl hs

/-- A sample at or above LOSS and below SAG is a VACUUM SAG at the LOADED transport, here one that does not wait for a grant
(R139). -/
theorem exec_pressureSample_sag (hp : (s.tr t).phase ≠ .waitGrant) :
    exec (.pressureSample x) s = runTasks 4095 [.arrive t .sag] (sampledAt s x.toNat) := by
  have hh : ((sampledAt s x.toNat).tr t).hasPhase = true := by
    rw [show (sampledAt s x.toNat).tr t = s.tr t from rfl]
    simp [Transport.hasPhase, hc]
  rw [exec_pressureSample_alone hall (by rw [hc]; nofun), finding_sag hl hs, runTasks_pressure_sag hh,
    loseReady_idle (s := sampledAt s x.toNat) hp, ite_self]

/-- The same sample at a transport that waits for a grant, with READY true before (R138). -/
theorem exec_pressureSample_withdraws (hp : (s.tr t).phase = .waitGrant) (hr : s.vacuum.ready = true)
    (hg : (s.tr t).engine.grant = .requested) : exec (.pressureSample x) s =
      .next (((sampledAt s x.toNat).withdrawn t).setPhase t .waitVacuum) := by
  rw [exec_pressureSample_alone hall (by rw [hc]; nofun), finding_sag hl hs, hr]
  exact runTasks_pressure_withdraws (s := sampledAt s x.toNat) hc hp hg 4094

end

/-- Settles O49: what a pressure sample finds reaches each transport by its condition, its phase and its recovery (R136 to
R140). -/
theorem pressureSampleSettlesAndFaults : Obligations.PressureSampleSettlesAndFaults := by
  intro x s p v settle ready sampled
  have hsettle : nextSettle v p = settle := by
    simp only [settle, nextSettle]
    by_cases hb : v.blower = .normal ∧ v.run ≤ p
    · rw [if_pos hb, if_neg (by simp [hb.1, hb.2])]
      cases v.settle <;> rfl
    · rw [if_neg hb, if_pos (by simpa [Classical.not_and_iff_not_or_not, or_iff_not_imp_left] using hb)]
  have hready : nextReady v p settle = ready := by
    simp only [ready, nextReady, settleGoal, beq_eq_decide]
  have hsampled : sampledAt s p = sampled := by
    have hv : s.vacuum.sampled p = { v with lastPressure := p, settle := settle, ready := ready } := by
      rw [← hready, ← hsettle]
      rfl
    rw [sampledAt, hv]
  clear_value sampled ready settle
  subst hsampled hready hsettle
  refine ⟨fun h => ?unloaded, fun ho hs hr hn => ?steady, fun ho hs hr => ?drops, fun t hl hc hf hall => ?loss,
    fun t hall => ?_⟩
  case unloaded =>
    rw [exec_pressureSample, handedTransports_none h]
    rfl
  case steady =>
    obtain ⟨u, hrun, hu, htr⟩ := exec_pressureSample_above ho hs hr
    have hsame : u.transports = s.transports := Quad.ext_get fun t => (htr t).trans (unsagged_of_not_pending (hn t))
    rw [hrun, hu, hsame]
    rfl
  case drops =>
    obtain ⟨u, hrun, hu, htr⟩ := exec_pressureSample_above ho hs hr
    refine ⟨u, hrun, hu, fun t => (htr t).trans ?_⟩
    refine if_congr ?_ rfl rfl
    simp [Transport.hasPhase, Transport.searching]
  case loss =>
    rw [exec_pressureSample_loss hall hl hc]
    obtain ⟨u, hrun, hu, hp⟩ := runTasks_faultStops (s := sampledAt s p) (t := t) (fun h => by cases hc.symm.trans h)
      ⟨hf.noRequest, hf.noneWaits⟩ .vacuumLoss 4092
    exact ⟨u, hrun, faultStopped_of_sampledAt hu, hp⟩
  intro tr h stands
  have hstands : (s.tr t).hold.stands .sag = true ↔ stands := stands_sag _
  have hclear : ¬ stands → (s.tr t).hold.stands .sag = false := fun hn => by simpa using hstands.not.mpr hn
  have hcalm : h = idleHold → (s.tr t).hold.pending.sag = false := fun hh => congrArg (fun k : Hold => k.pending.sag) hh
  refine ⟨fun ho hl hs hc => ⟨fun hp => ?arisesNot, fun hp hn hf => ?moving, fun hp hn => ?slowing, fun hp hr hg => ?withdraws,
    fun a hp hn ha hne h2 => ?pushes, fun a hp hn ha hne h2 hf => ?overflows⟩,
    fun ho hr hset hc hp ha => ?recovery, fun ho hr hset hh => ⟨fun hc hp => ?idle, fun hc hl => ?draws,
    fun m hp hst hg hf hw => ?asks⟩⟩
  case arisesNot =>
    have hp' : tr.phase ≠ .waitGrant := by obtain hp | hp | hp | ⟨hp, -⟩ := hp <;> simp [hp]
    rw [exec_pressureSample_sag hall hc hl hs hp']
    refine runTasks_sag_idle (s := sampledAt s p) ?_ 4094
    exact hp.imp_right fun h => h.imp_right fun h => h.imp_right fun h => hstands.mpr h.2
  case moving =>
    have hp' : tr.phase ≠ .waitGrant := by obtain hp | hp := hp <;> simp [hp]
    rw [exec_pressureSample_sag hall hc hl hs hp']
    exact runTasks_sag_moving (s := sampledAt s p) hc (hclear hn) hp ⟨hf.noRequest, hf.noneWaits⟩ 4093
  case slowing =>
    rw [exec_pressureSample_sag hall hc hl hs (ne_of_eq_of_ne hp nofun)]
    exact runTasks_sag_pends (s := sampledAt s p) hc (hclear hn) hp 4094
  case withdraws => exact exec_pressureSample_withdraws hall hc hl hs hp hr hg
  case pushes =>
    rw [exec_pressureSample_sag hall hc hl hs (ne_of_eq_of_ne hp nofun)]
    exact runTasks_sag_pushes (s := sampledAt s p) hc (hclear hn) hp ha hne h2 (if_pos hs) 4093
  case overflows =>
    rw [exec_pressureSample_sag hall hc hl hs (ne_of_eq_of_ne hp nofun)]
    have hover := runTasks_sag_overflows (s := sampledAt s p) hc (hclear hn) hp ha hne h2 4094
    obtain ⟨u, hrun, hu, hpress⟩ := runTasks_faultStops (s := sampledAt s p) (t := t) (fun h => by cases hc.symm.trans h)
      ⟨hf.noRequest, hf.noneWaits⟩ .suspendOverflow 4091
    exact ⟨u, hover.trans hrun, faultStopped_of_sampledAt hu, hpress⟩
  case recovery =>
    have hun : unsagged tr = { tr with hold := { h with pending := { h.pending with sag := false } } } :=
      if_pos (by simp [Transport.hasPhase, hc])
    rw [exec_pressureSample_ready hall ho hr hset (by rw [hc]; nofun), ← hun]
    have htr : ((sampledAt s p).setTr t (unsagged tr)).tr t = unsagged tr := State.tr_setTr_self ..
    exact sagEnds_readyTrue (s := (sampledAt s p).setTr t (unsagged tr)) (by rw [htr, hun]; exact hc)
      (by rw [htr, hun]; exact hp) (by rw [htr, hun]; exact ha) (sampled_ready ho hset) 4081
  case idle =>
    rw [exec_pressureSample_calm hall ho hr hset (by rw [hc]; nofun) (hcalm hh)]
    exact runTasks_readyTrue_idle (s := sampledAt s p) hc hp (congrArg Hold.active hh) 4093
  case draws =>
    rw [exec_pressureSample_calm hall ho hr hset (by rw [hc]; nofun) (hcalm hh),
      runTasks_readyTrue_draws (s := sampledAt s p) hc hl (congrArg Hold.active hh) (sampled_ready ho hset)]
    exact ⟨_, rfl, hc, rfl, rfl, rfl, by simp only [ms, Nat.mul_comm]; rfl⟩
  case asks =>
    have hasks := runTasks_readyTrue_asks (s := sampledAt s p) hst.motion hf hw hst.condition hp
      (congrArg Hold.active hh) 4087
    rw [exec_pressureSample_calm hall ho hr hset (by rw [hst.condition]; nofun) (hcalm hh)]
    exact ⟨hasks.1 (hst.of_tr rfl rfl), fun h0 hfull => hasks.2 ⟨h0, hfull⟩⟩

end Sys2Proof.Resumption
end

section
/-! SUPPORT. The faults counter (R118): what a handed cause, READ COUNTERS and the two resets do to it, with its statement. -/

namespace Sys2Proof.FaultReports

open Sys2Proof Sys2Proof.Machine Sys2Proof.OrderQueue Sys2Proof.Resumption

/-! ### Frames that are answered -/

/-- A counted frame that is answered DONE with a body. -/
theorem done_counted {h : Head} {s : State} (hu : (s.port h.port).up = true) (b : List Byte) :
    done h b (s.counted h.port) = .next (s.answered h 0 b) := by
  rw [done, respond_eq (by rw [up_counted, hu])]
  rfl

/-- A part-wide frame with unit 255 is counted and served. -/
theorem partFrame_counted {h : Head} {b : List Byte} {s : State} (serve : State → Result) (ht : s.Takes h.port b)
    (hu : h.unit = 255) : partFrame h b serve s = serve (s.counted h.port) :=
  partFrame_served serve ht.ready ht.fits hu

/-! ### The faults counter -/

theorem giveUpGrant_counters (t u : TransportId) (s : State) :
    ((giveUpGrant t s).state.tr u).counters = (s.tr u).counters := by
  cases hg : (s.tr t).engine.grant with
  | none => simp only [giveUpGrant, hg, Reaction.idle]
  | held | requested =>
    simp only [giveUpGrant, hg, Reaction.idle, State.setGrant, State.tr_setTr, State.tr_arbiter]
    split
    · subst u; rfl
    · rfl

theorem furtherFault_counters (t u : TransportId) (s : State) :
    ((furtherFault t s).tr u).counters = (s.tr u).counters := by
  simp only [furtherFault, State.tr_setTr]
  split
  · subst u; rfl
  · rfl

/-- A fault stop counts itself at its own transport (R118). -/
theorem faultStop_faults (t u : TransportId) (c : FaultCause) (s : State) :
    (((faultStop t c s).state).tr u).counters.faults =
      if u = t then min 65535 ((s.tr u).counters.faults + 1) else (s.tr u).counters.faults := by
  obtain ⟨w, hw, hs⟩ := faultStop_stopped t c s
  have hcounters : ((faultStop t c s).state.tr u).counters = (w.tr u).counters := by
    rw [hw]; exact giveUpGrant_counters t u w
  rw [hcounters]
  by_cases hu : u = t
  · subst hu; rw [if_pos rfl, hs.transport]; rfl
  · rw [if_neg hu, hs.others u hu]

theorem handFault_faults (t u : TransportId) (c : FaultCause) (s : State) :
    (((handFault t c s).state).tr u).counters.faults =
      if u = t ∧ (s.tr t).condition ≠ .faulted then min 65535 ((s.tr u).counters.faults + 1)
      else (s.tr u).counters.faults := by
  by_cases hc : (s.tr t).condition = .faulted
  · have hfurther : (handFault t c s).state = furtherFault t s := by simp [handFault, hc, Reaction.idle]
    rw [hfurther, furtherFault_counters, if_neg (fun h => h.2 hc)]
  · have hstop : handFault t c s = faultStop t c s := by simp [handFault, hc]
    simp only [hstop, faultStop_faults, hc, ne_eq, not_false_eq_true, and_true]

/-- The place of a transport's faults counter in the body of READ COUNTERS (R190). -/
theorem countersBody_faults (s : State) (t : TransportId) :
    ((countersBody s).drop (22 + 8 * (transportByte t).toNat)).take 2 = bytesOf 2 (s.tr t).counters.faults := by
  cases t <;> rfl

@[simp] theorem clearCounters_tr (s : State) (t : TransportId) : (clearCounters s).tr t = (s.tr t).uncounted := by
  cases t <;> rfl

/-- Settles O54: a fault stop counts and a further fault does not (R113, R118), READ COUNTERS takes the counters into its
body before it clears them (R181), and both resets write whole transports anew. -/
theorem faultsCounterCountsFaultStops : Obligations.FaultsCounterCountsFaultStops := by
  refine ⟨handFault_faults, fun h s hu ht => ?reported, fun h s hu ht => ?cleared, fun s => ⟨_, rfl, fun t => ?hard⟩,
    fun h s hu ht => ⟨_, partFrame_counted _ ht hu, fun t => ?part⟩⟩
  case reported =>
    refine ⟨countersBody (s.counted h.port), ?_, countersBody_faults (s.counted h.port)⟩
    exact (partFrame_counted _ ht hu).trans (done_counted (up_of_ready ht.ready) _)
  case cleared =>
    refine ⟨_, partFrame_counted _ ht hu, fun t => ?_⟩
    rw [respond, place_eq, tr_sending, clearCounters_tr]
    rfl
  case hard => cases t <;> rfl
  case part => cases t <;> rfl

end Sys2Proof.FaultReports
end

section
/-! SUPPORT. CLEAR FAULT by the fault cause (R115 to R117), with its statement: the review of the blower beside the transmit queues, and what an event does behind a fault stop. -/

namespace Sys2Proof.FaultReports

open Sys2Proof Sys2Proof.Machine Sys2Proof.OrderQueue Sys2Proof.Resumption

/-! ### The review of the blower does not see the transmit queues -/

section
variable (f : PortId → List OutFrame)

theorem giveUpGrant_sending (t : TransportId) (s : State) :
    (giveUpGrant t (sending f s)).state = sending f (giveUpGrant t s).state := by
  cases hg : (s.tr t).engine.grant <;> simp only [giveUpGrant, tr_sending, hg, Reaction.idle] <;> rfl

theorem loseReady_sending (t : TransportId) (s : State) : loseReady t (sending f s) = sending f (loseReady t s) := by
  unfold loseReady
  dsimp only
  rw [tr_sending, giveUpGrant_sending, setPhase_sending]
  split <;> rfl

theorem reportReadyFalse_sending (s : State) : reportReadyFalse (sending f s) = sending f (reportReadyFalse s) := by
  unfold reportReadyFalse
  generalize transportIds = ts
  induction ts generalizing s with
  | nil => rfl
  | cons t ts ih => rw [List.foldl_cons, List.foldl_cons, loseReady_sending, ih]

theorem setBlower_sending (b : Blower) (s : State) : setBlower b (sending f s) = sending f (setBlower b s) := by
  unfold setBlower
  dsimp only
  rw [sending_vacuum]
  split
  · rfl
  · split
    · exact reportReadyFalse_sending f { s with vacuum := { s.vacuum with blower := b, settle := none, ready := false } }
    · rfl

/-- Frames placed before the review of the blower stand as if placed behind it. -/
theorem reviewVacuum_sending (s : State) : reviewVacuum (sending f s) = sending f (reviewVacuum s) := by
  have hset := setBlower_sending f (blowerFor s.vacuum.mode s.allUnloaded s.quiet s.vacuum.blower) s
  unfold reviewVacuum
  dsimp only
  rw [show (sending f s).allUnloaded = s.allUnloaded from rfl, show (sending f s).quiet = s.quiet from rfl, sending_vacuum,
    hset]
  rfl

end

/-! ### Behind a fault stop -/

/-- The event of a fault stop of a transport whose grant, if it holds one, no one waits for, goes on with what stands
behind the cause, and reviews the blower at its end (R107, R110). -/
theorem runTasks_behind_fault {s u w : State} {t : TransportId} {c : FaultCause} {n : Nat} {l : List Task}
    (hw : faultStop t c s = (giveUpGrant t w).andThen [] [.vacuumReview]) (hs : Stopped s w t c)
    (hc : (s.tr t).condition ≠ .faulted) (hf : s.FreeToLetGo t)
    (h : runTasks n (l ++ [.vacuumReview]) (w.letGo t) = .next u) : runTasks (n + 2) (.fault t c :: l) s = .next u := by
  have hgrant : (w.tr t).engine.grant = (s.tr t).engine.grant := by rw [hs.transport]; rfl
  have hnow : handFault t c s = (giveUpGrant t w).andThen [] [.vacuumReview] := by
    rw [handFault, if_neg (by simpa using hc), hw]
  rw [runTasks_succ, handle, hnow, giveUpGrant_of_not_requested (by rw [hgrant]; exact hf.noRequest)]
  by_cases hg : (w.tr t).engine.grant = .held
  · have hnone : (w.letGo t).arbiter.waiting = [] := by
      rw [letGo_waiting, hs.arbiter]; exact hf.noneWaits (hgrant ▸ hg)
    simp only [Reaction.andThen, hg, if_true, List.append_nil, List.nil_append, List.cons_append]
    rw [runTasks_serve_none hnone]
    exact h
  · simp only [Reaction.andThen, hg, if_false, List.append_nil, List.nil_append]
    exact runTasks_succ_of_next h

theorem faultPort_up (s : State) (t : TransportId) (c : FaultCause) (q : PortId) :
    (s.faultPort t c q).up = (s.port q).up := by
  simp only [faultPort_eq, Port.sent, State.attended, State.port_setPort_self]
  split_ifs <;> rfl

/-- An immediate order whose effect is a fault stop: the frames of the fault stop stand before the DONE (R117, log 15). -/
theorem answerDone_fault {h : Head} {s : State} {t : TransportId} {c : FaultCause} (hc : (s.tr t).condition ≠ .faulted)
    (hf : s.FreeToLetGo t) (hu : (s.port h.port).up = true) : ∃ u : State,
      answerDone h { state := s, now := [.fault t c], later := [.vacuumReview] } =
        .next (reviewVacuum (u.responded h 0 [])) ∧ s.FaultStopped u t c := by
  obtain ⟨w, hw, hs⟩ := faultStop_stopped t c s
  have hstopped := hs.faultStopped hf
  have hup : ((reviewVacuum (w.letGo t)).port h.port).up = true := by rw [hstopped.frames, faultPort_up, hu]
  refine ⟨reviewVacuum (w.letGo t), ?_, hstopped⟩
  have hresponded : (reviewVacuum (w.letGo t)).responded h 0 [] = sending (doneTo h) (reviewVacuum (w.letGo t)) := by
    rw [← respond_done_eq, respond_eq hup]
    rfl
  have hrun : runTasks 4094 [.answer h .done [], .vacuumReview, .vacuumReview] (w.letGo t) =
      .next (reviewVacuum (reviewVacuum (sending (doneTo h) (w.letGo t)))) := by
    rw [runTasks_answer, runTasks_vacuumReview, runTasks_vacuumReview, runTasks_nil]
  rw [hresponded, ← reviewVacuum_sending]
  exact runTasks_behind_fault hw hs hc hf hrun

/-! ### CLEAR FAULT -/

/-- CLEAR FAULT past the checks of the Port Controller (R115). -/
theorem exec_clearFault {s : State} {h : Head} {t : TransportId} (ht : s.Takes h.port []) (hm : s.MayOrder h t) :
    exec (.clearFault h) s = answerDone h (clearFaultEffect t ((s.setOwner t (some h.port)).counted h.port)) := by
  rw [← setOwner_counted, ← reserveFor_eq (maySend_counted hm.toMaySend)]
  exact orderFrame_counted _ ht hm.toMaySend (.inl hm.online)

section
variable {s : State} {t : TransportId} {c : FaultCause} (hc : (s.tr t).condition = .faulted)
  (hf : (s.tr t).faultCause = some c)
include hc hf

theorem clearFaultEffect_unloads (hu : c.clearsToUnloaded = true) : clearFaultEffect t s =
    { state := s.setTr t (s.tr t).clearedUnloaded, later := [.vacuumReview] } := by
  simp [clearFaultEffect, hc, hf, hu]

theorem clearFaultEffect_loads (hl : c.clearsToUnloaded = false) : clearFaultEffect t s =
    { state := s.setTr t (s.tr t).clearedLoaded
      now := if (s.tr t).sense.coverOpen then [.fault t .coverOpen] else [.takeTest t]
      later := [.vacuumReview] } := by
  simp [clearFaultEffect, hc, hf, hl]

end

theorem clearsToUnloaded_eq_true {c : FaultCause}
    (h : c = .vacuumLoss ∨ c = .columnEnd ∨ c = .tapeBreak ∨ c = .coverOpen) : c.clearsToUnloaded = true := by
  obtain rfl | rfl | rfl | rfl := h <;> rfl

theorem clearsToUnloaded_eq_false {c : FaultCause}
    (h : c = .tachLoss ∨ c = .driveSaturation ∨ c = .suspendOverflow ∨ c = .recoveryTimeout) :
    c.clearsToUnloaded = false := by
  obtain rfl | rfl | rfl | rfl := h <;> rfl

/-- An immediate order that leaves nothing but the review of the blower for the end of its event. -/
theorem answerDone_reviewed {h : Head} {s : State} (hu : (s.port h.port).up = true) :
    answerDone h { state := s.counted h.port, later := [.vacuumReview] } = .next (reviewVacuum (s.answered h 0 [])) := by
  refine (runTasks_answer h _ 4095 [.vacuumReview]).trans ?_
  rw [runTasks_vacuumReview, runTasks_nil, ← sending_done_counted hu]
  rfl

/-- The same with a take test that finds an empty queue (R25). -/
theorem answerDone_takeTest_reviewed {h : Head} {s : State} {t : TransportId} (hq : (s.tr t).queue = [])
    (hu : (s.port h.port).up = true) :
    answerDone h { state := s.counted h.port, now := [.takeTest t], later := [.vacuumReview] } =
      .next (reviewVacuum (s.answered h 0 [])) := by
  refine (runTasks_takeTest_empty (s := s.counted h.port) hq 4095 [.answer h .done [], .vacuumReview]).trans ?_
  rw [runTasks_answer, runTasks_vacuumReview, runTasks_nil, ← sending_done_counted hu]

/-- Settles O36: the two outcomes of CLEAR FAULT (R115), and the fault stop that an OPEN cover makes of a transport left
LOADED (R12, R117). -/
theorem clearFaultByCause : Obligations.ClearFaultByCause := by
  intro h t c s ht hm hc hf
  have hup := up_of_ready ht.ready
  have hunloads := clearFaultEffect_unloads (s := (s.setOwner t (some h.port)).counted h.port) hc hf
  have hloads := clearFaultEffect_loads (s := (s.setOwner t (some h.port)).counted h.port) hc hf
  let loaded : State := (s.setTr t (s.tr t).clearedLoaded).setOwner t (some h.port)
  have hloaded : loaded.tr t = (s.tr t).clearedLoaded := State.tr_setTr_self ..
  rw [exec_clearFault ht hm]
  refine ⟨fun hcause => ?unloads, fun hcause hcover hq => ?loads, fun hcause hcover hfree => ?faults⟩
  case unloads =>
    refine ⟨(s.tr t).clearedUnloaded, ?_, rfl, rfl, rfl, rfl, rfl, rfl, rfl, rfl, rfl, rfl, rfl, rfl, rfl, rfl, rfl⟩
    rw [hunloads (clearsToUnloaded_eq_true hcause)]
    exact answerDone_reviewed (s := (s.setTr t (s.tr t).clearedUnloaded).setOwner t (some h.port)) hup
  case loads =>
    rw [hloads (clearsToUnloaded_eq_false hcause), if_neg (by simpa using hcover)]
    exact answerDone_takeTest_reviewed (s := loaded) (by rw [hloaded]; exact hq) hup
  case faults =>
    rw [hloads (clearsToUnloaded_eq_false hcause), if_pos (by simpa using hcover)]
    have hfree' : (s.setTr t (s.tr t).clearedLoaded).FreeToLetGo t := freeToLetGo_setTr hfree rfl
    have hnot : ((loaded.counted h.port).tr t).condition ≠ .faulted := by rw [tr_counted, hloaded]; nofun
    exact answerDone_fault hnot (freeToLetGo_counted (s := loaded) ⟨hfree'.noRequest, hfree'.noneWaits⟩ h.port)
      ((up_counted loaded h.port h.port).trans hup)

end Sys2Proof.FaultReports
end

section
/-! SUPPORT. Requests that only read (R112, R158 to R160, R162), and that every command has a meaning, with their statement. -/

namespace Sys2Proof.FaultReports

open Sys2Proof Sys2Proof.Machine Sys2Proof.OrderQueue

/-! ### Requests that only read -/

/-- A frame served in the state `s` that is answered DONE with a body, or refused, and does nothing else. -/
def Answers (h : Head) (s : State) (r : Result) : Prop :=
  (∃ b, r = done h b s) ∨ ∃ st : Status, 0x20 ≤ st.code.toNat ∧ r = refused h st s

theorem answers_done (h : Head) (s : State) (b : List Byte) : Answers h s (done h b s) := .inl ⟨b, rfl⟩

theorem answers_refused {h : Head} {s : State} {st : Status} (hst : 0x20 ≤ st.code.toNat) :
    Answers h s (refused h st s) := .inr ⟨st, hst, rfl⟩

/-- A frame that changes nothing but its port, and is counted and answered once when it is taken. -/
def Reports (h : Head) (s : State) (r : Result) : Prop :=
  ∃ u, r = .next u ∧ u = s.setPort h.port (u.port h.port) ∧
    (s.receiveReady h.port = true →
      (∃ b, u = s.answered h 0 b) ∨ (∃ x : Byte, 0x20 ≤ x.toNat ∧ u = s.turnedAway h x []))

theorem setPort_setPort (s : State) (p : PortId) (x y : Port) : (s.setPort p x).setPort p y = s.setPort p y := by
  simp [State.setPort]

theorem answered_changes_port (s : State) (h : Head) (c : Byte) (b : List Byte) :
    s.answered h c b = s.setPort h.port ((s.answered h c b).port h.port) := by
  simp only [State.answered, State.responded, State.counted, setPort_setPort, State.port_setPort_self]

theorem turnedAway_changes_port (s : State) (h : Head) (c : Byte) (b : List Byte) :
    s.turnedAway h c b = s.setPort h.port ((s.turnedAway h c b).port h.port) := by
  simp only [State.turnedAway, State.responded, State.counted, setPort_setPort, State.port_setPort_self]

/-- A frame that is not taken is discarded, or adds a check error (R158, R159, R162, R170). -/
theorem arrival_not_ready {p : PortId} {b : List Byte} (serve : State → Result) {s : State}
    (hr : s.receiveReady p ≠ true) : ∃ x, arrival p b serve s = .next (s.setPort p x) := by
  unfold arrival
  split
  · exact ⟨s.port p, by rw [State.setPort_port]⟩
  · rw [if_pos (by simp [hr])]
    exact ⟨_, rfl⟩

theorem reports_arrival {h : Head} {s : State} {b : List Byte} {serve : State → Result} (hb : b.length ≤ 60)
    (hs : Answers h (s.counted h.port) (serve (s.counted h.port))) : Reports h s (arrival h.port b serve s) := by
  by_cases hr : s.receiveReady h.port = true
  · have harrival : arrival h.port b serve s = serve (s.counted h.port) := arrival_taken serve hr hb
    rw [harrival]
    obtain ⟨body, hd⟩ | ⟨st, hst, hd⟩ := hs
    · rw [hd, done_counted (up_of_ready hr)]
      exact ⟨_, rfl, answered_changes_port .., fun _ => .inl ⟨body, rfl⟩⟩
    · rw [hd, refused_counted (up_of_ready hr)]
      exact ⟨_, rfl, turnedAway_changes_port .., fun _ => .inr ⟨st.code, hst, rfl⟩⟩
  · obtain ⟨x, hx⟩ := arrival_not_ready (b := b) serve hr
    exact ⟨_, hx, by rw [State.port_setPort_self], fun h => absurd h hr⟩

/-- An order that any port may send reaches its transport, or is refused UNIT ABSENT (R163, R164). -/
theorem answers_unitFrame {h : Head} {s : State} {serve : TransportId → State → Result}
    (hs : ∀ t, Answers h s (serve t s)) : Answers h s (unitFrame h .openOrder serve s) := by
  unfold unitFrame
  split
  · exact answers_refused (by decide)
  · exact hs _

section
variable {h : Head} {b : List Byte} {s : State} (hb : b.length ≤ 60)
include hb

theorem reports_orderFrame {serve : TransportId → State → Result} (hs : ∀ t u, Answers h u (serve t u)) :
    Reports h s (orderFrame h b .openOrder true serve s) :=
  reports_arrival hb (answers_unitFrame fun t => by simpa using hs t _)

theorem reports_servoFrame {serve : TransportId → State → Result} (hs : ∀ t u, Answers h u (serve t u)) :
    Reports h s (servoFrame h b .openOrder serve s) :=
  reports_arrival hb (answers_unitFrame fun t => hs t _)

/-- A part-wide request is served, or refused BAD FIELD for its unit (R165). -/
theorem reports_partFrame {serve : State → Result} (hs : ∀ u, Answers h u (serve u)) :
    Reports h s (partFrame h b serve s) := by
  refine reports_arrival hb ?_
  split
  · exact hs _
  · exact answers_refused (by decide)

end

theorem answers_readProfile (h : Head) (body : List Byte) (s : State) : Answers h s (serveReadProfile h body s) := by
  unfold serveReadProfile
  split
  · exact answers_refused (by decide)
  · split
    · exact answers_refused (by decide)
    · exact answers_done ..

/-! ### Every command has a meaning -/

/-- The outcome is not a refusal of the model. -/
structure HasMeaning (r : Result) : Prop where
  not_refused : ∀ x : Refusal, r ≠ .refused x

@[simp] theorem hasMeaning_next (s : State) : HasMeaning (.next s) := ⟨nofun⟩

@[simp] theorem hasMeaning_fault (x : Fault) : HasMeaning (.fault x) := ⟨nofun⟩

@[simp] theorem hasMeaning_ite (p : Prop) [Decidable p] (a b : Result) :
    HasMeaning (if p then a else b) ↔ (p → HasMeaning a) ∧ (¬ p → HasMeaning b) := by
  by_cases hp : p <;> simp [hp]

/-- The hand-offs of an event come to an end or to the model's fault (log 19). -/
theorem hasMeaning_runTasks (n : Nat) (l : List Task) (s : State) : HasMeaning (runTasks n l s) := by
  induction n generalizing l s with
  | zero => cases l <;> simp [runTasks]
  | succ n ih =>
    cases l with
    | nil => simp
    | cons k l => exact ih ..

@[simp] theorem hasMeaning_finish (r : Reaction) : HasMeaning (finish r) := hasMeaning_runTasks ..

@[simp] theorem hasMeaning_answerDone (h : Head) (r : Reaction) : HasMeaning (answerDone h r) := hasMeaning_finish _

@[simp] theorem hasMeaning_refused (h : Head) (st : Status) (s : State) : HasMeaning (refused h st s) :=
  hasMeaning_next _

@[simp] theorem hasMeaning_done (h : Head) (b : List Byte) (s : State) : HasMeaning (done h b s) := hasMeaning_next _

theorem hasMeaning_mapNext {r : Result} (hr : HasMeaning r) (f : State → State) : HasMeaning (mapNext f r) := by
  cases r with
  | next s => simp [mapNext]
  | fault x => simp [mapNext]
  | refused x => exact absurd rfl (hr.not_refused x)

section
variable {h : Head} {b : List Byte} {c : OrderClass} {o : Bool} {s : State}

theorem hasMeaning_arrival {p : PortId} {serve : State → Result} (hs : ∀ u, HasMeaning (serve u)) :
    HasMeaning (arrival p b serve s) := by
  simp [arrival, hs]

theorem hasMeaning_unitFrame {serve : TransportId → State → Result} (hs : ∀ t u, HasMeaning (serve t u)) :
    HasMeaning (unitFrame h c serve s) := by
  unfold unitFrame
  split
  · simp
  · simp [hs]

theorem hasMeaning_orderFrame {serve : TransportId → State → Result} (hs : ∀ t u, HasMeaning (serve t u)) :
    HasMeaning (orderFrame h b c o serve s) :=
  hasMeaning_arrival fun _ => hasMeaning_unitFrame fun t u => by simp [hs]

theorem hasMeaning_servoFrame {serve : TransportId → State → Result} (hs : ∀ t u, HasMeaning (serve t u)) :
    HasMeaning (servoFrame h b c serve s) :=
  hasMeaning_arrival fun _ => hasMeaning_unitFrame hs

theorem hasMeaning_partFrame {serve : State → Result} (hs : ∀ u, HasMeaning (serve u)) :
    HasMeaning (partFrame h b serve s) :=
  hasMeaning_arrival fun _ => by simp [hs]

end

section
variable (h : Head) (b : List Byte) (t : TransportId) (s : State)

theorem hasMeaning_serveQueued (x : Option OrderRecord) : HasMeaning (serveQueued h x t s) := by
  unfold serveQueued
  split
  · simp
  · simp
  · split
    · simp
    · exact hasMeaning_mapNext (hasMeaning_finish _) _

theorem hasMeaning_serveLoad : HasMeaning (serveLoad h t s) := by
  unfold serveLoad
  split <;> simp

theorem hasMeaning_servePause : HasMeaning (servePause h t s) := by
  unfold servePause
  split <;> simp

theorem hasMeaning_serveContinue : HasMeaning (serveContinue h t s) := by
  simp [serveContinue]

theorem hasMeaning_serveSelect : HasMeaning (serveSelect h b t s) := by
  unfold serveSelect
  rw [hasMeaning_ite]
  refine ⟨fun _ => hasMeaning_refused .., fun _ => ?_⟩
  split
  · simp
  · split <;> simp

theorem hasMeaning_serveReserve : HasMeaning (serveReserve h t s) := by
  unfold serveReserve
  split <;> simp

theorem hasMeaning_serveRelease : HasMeaning (serveRelease h t s) := by
  unfold serveRelease
  split <;> simp [releaseOwned]

theorem hasMeaning_serveForce : HasMeaning (serveForce h t s) := by
  unfold serveForce
  split <;> simp

theorem hasMeaning_serveLoadProfile : HasMeaning (serveLoadProfile h b s) := by
  unfold serveLoadProfile
  split <;> simp

theorem hasMeaning_serveReadProfile : HasMeaning (serveReadProfile h b s) := by
  obtain ⟨_, hd⟩ | ⟨_, _, hd⟩ := answers_readProfile h b s <;> simp [hd]

theorem hasMeaning_serveLockBank : HasMeaning (serveLockBank h b s) := by
  unfold serveLockBank
  split <;> simp

theorem hasMeaning_serveLoadServo : HasMeaning (serveLoadServo h b t s) := by
  rw [serveLoadServo, hasMeaning_ite]
  refine ⟨fun _ => hasMeaning_refused .., fun _ => ?_⟩
  split <;> simp

theorem hasMeaning_serveSetUnitMap : HasMeaning (serveSetUnitMap h b s) := by
  unfold serveSetUnitMap
  split <;> simp

theorem hasMeaning_serveSetVacuum : HasMeaning (serveSetVacuum h b s) := by
  rw [serveSetVacuum, hasMeaning_ite]
  refine ⟨fun _ => hasMeaning_refused .., fun _ => ?_⟩
  dsimp only
  split <;> simp

theorem hasMeaning_serveSetGrantLimit : HasMeaning (serveSetGrantLimit h b s) := by
  unfold serveSetGrantLimit
  split <;> simp

theorem hasMeaning_serveSetMonitor : HasMeaning (serveSetMonitor h b s) := by
  unfold serveSetMonitor
  split <;> simp

theorem hasMeaning_serveReadCounters : HasMeaning (serveReadCounters h b s) := by
  unfold serveReadCounters
  split <;> simp

theorem hasMeaning_capstanCount (cta ctb : Bool) : HasMeaning (execCapstanCount t cta ctb s) := by
  unfold execCapstanCount
  dsimp only
  split <;> simp

theorem hasMeaning_partResetHoldExpiry : HasMeaning (execPartResetHoldExpiry s) := by
  unfold execPartResetHoldExpiry
  split <;> simp

end

/-- Every command ends in a next state or in the model's fault, never in a refusal of the model. -/
theorem exec_hasMeaning (c : Instr) (s : State) : HasMeaning (exec c s) := by
  cases c with
  | hardReset => exact hasMeaning_next _
  | capstanCount t a b => exact hasMeaning_capstanCount t s a b
  | reelCount t x => exact hasMeaning_next _
  | servoSample t l => exact hasMeaning_finish _
  | rampStep t => exact hasMeaning_finish _
  | pressureSample p => exact hasMeaning_finish _
  | markerInputChange t m a => simp [exec, execMarkerInputChange]
  | coverChange t o => simp [exec, execCoverChange]
  | reelPresentChange t x p => exact hasMeaning_next _
  | transportPresentChange t p => simp [exec, execTransportPresentChange]
  | onlineSwitchChange t o => simp [exec, execOnlineSwitchChange]
  | panelLoadPress t => simp [exec, execPanelLoadPress]
  | panelRewindPress t => simp [exec, execPanelRewindPress, panelOrder]
  | panelUnloadPress t => simp [exec, execPanelUnloadPress, panelOrder]
  | carrierUp p => simp [exec, execCarrierUp]
  | carrierDown p => simp [exec, execCarrierDown]
  | transmissionEnd p => simp [exec, execTransmissionEnd]
  | frameCheckFailure p d => simp [exec, execFrameCheckFailure]
  | unknownCodeFrame h k x => exact hasMeaning_arrival fun _ => hasMeaning_refused ..
  | move h b => exact hasMeaning_orderFrame fun t u => hasMeaning_serveQueued h t u _
  | rewind h b => exact hasMeaning_orderFrame fun t u => hasMeaning_serveQueued h t u _
  | unload h => exact hasMeaning_orderFrame fun t u => hasMeaning_serveQueued h t u _
  | load h => exact hasMeaning_orderFrame (hasMeaning_serveLoad h)
  | stop h => exact hasMeaning_orderFrame fun _ _ => hasMeaning_answerDone ..
  | halt h => exact hasMeaning_orderFrame fun _ _ => hasMeaning_answerDone ..
  | pause h => exact hasMeaning_orderFrame (hasMeaning_servePause h)
  | continueOrder h => exact hasMeaning_orderFrame (hasMeaning_serveContinue h)
  | selectProfile h b => exact hasMeaning_orderFrame (hasMeaning_serveSelect h b)
  | reserve h => exact hasMeaning_orderFrame (hasMeaning_serveReserve h)
  | release h => exact hasMeaning_orderFrame (hasMeaning_serveRelease h)
  | forceRelease h => exact hasMeaning_orderFrame (hasMeaning_serveForce h)
  | clearFault h => exact hasMeaning_orderFrame fun _ _ => hasMeaning_answerDone ..
  | sense h => exact hasMeaning_orderFrame fun _ _ => hasMeaning_done ..
  | readSnapshot h => exact hasMeaning_orderFrame fun _ _ => hasMeaning_done ..
  | loadProfile h b => exact hasMeaning_partFrame (hasMeaning_serveLoadProfile h b)
  | readProfile h b => exact hasMeaning_partFrame (hasMeaning_serveReadProfile h b)
  | lockBank h b => exact hasMeaning_partFrame (hasMeaning_serveLockBank h b)
  | loadServo h b => exact hasMeaning_servoFrame (hasMeaning_serveLoadServo h b)
  | readServo h => exact hasMeaning_servoFrame fun _ _ => hasMeaning_done ..
  | setUnitMap h b => exact hasMeaning_partFrame (hasMeaning_serveSetUnitMap h b)
  | readUnitMap h => exact hasMeaning_partFrame fun _ => hasMeaning_done ..
  | setVacuum h b => exact hasMeaning_partFrame (hasMeaning_serveSetVacuum h b)
  | setGrantLimit h b => exact hasMeaning_partFrame (hasMeaning_serveSetGrantLimit h b)
  | senseString h => exact hasMeaning_partFrame fun _ => hasMeaning_done ..
  | setMonitor h b => exact hasMeaning_partFrame (hasMeaning_serveSetMonitor h b)
  | readMonitor h => exact hasMeaning_partFrame fun _ => hasMeaning_done ..
  | readCounters h b => exact hasMeaning_partFrame (hasMeaning_serveReadCounters h b)
  | partReset h => exact hasMeaning_partFrame fun _ => hasMeaning_next _
  | partResetHoldExpiry => exact hasMeaning_partResetHoldExpiry s
  | tachLossDetection t => simp [exec, execTachLossDetection]
  | loopGuardTimerExpiry t => simp [exec, execLoopGuardTimerExpiry]
  | recoveryTimerExpiry t => simp [exec, execRecoveryTimerExpiry]
  | economyTimerExpiry => simp [exec, execEconomyTimerExpiry]
  | vacuumStepExpiry t => simp [exec, execVacuumStepExpiry]
  | drawLimitExpiry t => simp [exec, execDrawLimitExpiry]
  | unloadWindExpiry t => simp [exec, execUnloadWindExpiry]
  | readyBecomesTrue => exact hasMeaning_finish _
  | markerCrossingQualified t m => simp [exec, execMarkerCrossingQualified]
  | tapeBreak t x => simp [exec, execTapeBreak]
  | columnEnd t x e => simp [exec, execColumnEnd]
  | driveSaturation t x => simp [exec, execDriveSaturation]
  | recoverySettled t => simp [exec, execRecoverySettled]
  | radiusWindowClose t x => simp [exec, execRadiusWindowClose]
  | searchLimitReached t => exact hasMeaning_finish _

/-- Settles O23: a reading request is answered in its arrival event and nowhere else, whatever the state (R112, R158 to R160,
R162), and no command is without a meaning. -/
theorem reportsAnswerOnceAndChangeNothing : Obligations.ReportsAnswerOnceAndChangeNothing := by
  refine ⟨fun h body k code s hb => ?_, fun c s => (exec_hasMeaning c s).not_refused⟩
  have hempty : ([] : List Byte).length ≤ 60 := Nat.zero_le _
  change ∀ c ∈ _, Reports h s (exec c s)
  simp only [List.forall_mem_cons, List.not_mem_nil, false_implies, implies_true, and_true]
  refine ⟨?sense, ?snapshot, ?profile, ?servo, ?map, ?string, ?monitor, ?unknown⟩
  case sense => exact reports_orderFrame hempty fun _ _ => answers_done ..
  case snapshot => exact reports_orderFrame hempty fun _ _ => answers_done ..
  case profile => exact reports_partFrame hb (answers_readProfile h body)
  case servo => exact reports_servoFrame hempty fun _ _ => answers_done ..
  case map => exact reports_partFrame hempty fun _ => answers_done ..
  case string => exact reports_partFrame hempty fun _ => answers_done ..
  case monitor => exact reports_partFrame hempty fun _ => answers_done ..
  case unknown => exact reports_arrival hempty (answers_refused (by decide))

end Sys2Proof.FaultReports
end

section
/-! SUPPORT. The fields of the bytes that SENSE and READ SNAPSHOT send, each at its offset (R188 to R190). -/

namespace Sys2Proof.FaultReports

open Sys2Proof Sys2Proof.Machine Sys2Proof.OrderQueue

/-! ### Codes fit their fields -/

theorem conditionCode_lt (x : Condition) : x.code < 8 := by cases x <;> decide

theorem phaseCode_lt (x : Option Phase) : phaseCode x < 16 := by rcases x with _ | x <;> [decide; cases x <;> decide]

theorem stepCode_lt (x : Option SeqStep) : stepCode x < 16 := by rcases x with _ | x <;> [decide; cases x <;> decide]

theorem kindCode_lt (x : Option OrderKind) : kindCode x < 8 := by rcases x with _ | x <;> [decide; cases x <;> decide]

/-- The orders of the queue fit two bits (R19, R189). -/
theorem kindCode_queued {x : OrderKind} (h : x ≠ .load) : kindCode (some x) < 4 := by
  cases x with
  | load => exact absurd rfl h
  | move | rewind | unload => decide

theorem originCode_lt (x : Origin) : x.code < 4 := by rcases x with p | _ <;> [cases p <;> decide; decide]

theorem ownerCode_lt (x : Option PortId) : ownerCode x < 4 := by rcases x with _ | p <;> [decide; cases p <;> decide]

theorem grantCode_lt (x : GrantState) : x.code < 4 := by cases x <;> decide

theorem bandCode_lt (x : Band) : x.code < 4 := by cases x <;> decide

theorem causeCode_lt (x : FaultCause) : x.code < 8 := by cases x <;> decide

theorem rankCode_lt (x : Option Rank) : rankCode x < 4 := by rcases x with _ | x <;> [decide; cases x <;> decide]

theorem slotCode_lt (x : Slot1) : x.code < 4 := by cases x <;> simp [Slot1.code]

/-! ### Bytes made of bit fields -/

theorem toNat_packed (f : List (Nat × Nat)) :
    (packed f).toNat = (f.foldl (fun acc x => acc + x.1 * 2 ^ x.2) 0) % 256 := BitVec.toNat_ofNat ..

/-- A flag at bit `k` of a byte. -/
theorem getLsbD_of_div {x : Byte} {k : Nat} {b : Bool} (h : x.toNat / 2 ^ k % 2 = b.toNat) : x.getLsbD k = b := by
  rw [BitVec.getLsbD, Nat.testBit_eq_decide_div_mod_eq, h]
  cases b <;> rfl

/-- Condition, phase and a flag (R189 byte 0, R190 byte 1). -/
theorem packed_condition {c p : Nat} (hc : c < 8) (hp : p < 16) {f : Bool} {x : Byte}
    (hx : packed [(c, 0), (p, 3), (f.toNat, 7)] = x) :
    x.toNat % 8 = c ∧ x.getLsbD 7 = f ∧ x.toNat / 8 % 16 = p := by
  subst hx
  have hf := f.toNat_lt
  refine ⟨?_, getLsbD_of_div ?_, ?_⟩ <;> simp only [toNat_packed, List.foldl] <;> omega

/-- Owner, two flags and the selected profile (R189 byte 2). -/
theorem packed_owner {o n : Nat} (ho : o < 4) (hn : n < 16) {f g : Bool} {x : Byte}
    (hx : packed [(o, 0), (f.toNat, 2), (g.toNat, 3), (n, 4)] = x) :
    x.toNat % 4 = o ∧ x.getLsbD 2 = f ∧ x.getLsbD 3 = g ∧ x.toNat / 16 = n := by
  subst hx
  have hf := f.toNat_lt
  have hg := g.toNat_lt
  refine ⟨?_, getLsbD_of_div ?_, getLsbD_of_div ?_, ?_⟩ <;> simp only [toNat_packed, List.foldl] <;> omega

/-- Kind, direction, port of origin of an order, and whether R is present (R189 byte 3). -/
theorem packed_order {k o : Nat} (hk : k < 8) (ho : o < 4) {d r : Bool} {x : Byte}
    (hx : packed [(k, 0), (d.toNat, 3), (o, 4), (r.toNat, 6)] = x) :
    x.toNat % 8 = k ∧ x.getLsbD 3 = d ∧ x.toNat / 16 % 4 = o ∧ x.getLsbD 6 = r := by
  subst hx
  have hd := d.toNat_lt
  have hr := r.toNat_lt
  refine ⟨?_, getLsbD_of_div ?_, ?_, getLsbD_of_div ?_⟩ <;> simp only [toNat_packed, List.foldl] <;> omega

/-- Profile number and step (R189 byte 5). -/
theorem packed_step {n k : Nat} (hn : n < 16) (hk : k < 16) {x : Byte}
    (hx : packed [(n, 0), (k, 4)] = x) :
    x.toNat % 16 = n ∧ x.toNat / 16 = k := by
  subst hx
  constructor <;> simp only [toNat_packed, List.foldl] <;> omega

/-- Queue depth, grant state and fault cause (R189 byte 10); a queue beyond its capacity would spill over. -/
theorem packed_depth {n g c : Nat} (hg : g < 4) (hc : c < 8) {x : Byte}
    (hx : packed [(n, 0), (g, 3), (c, 5)] = x) :
    x.toNat % 8 = n % 8 ∧ (n ≤ 6 → x.toNat / 8 % 4 = g ∧ x.toNat / 32 = c) := by
  subst hx
  refine ⟨?_, fun hn => ⟨?_, ?_⟩⟩ <;> simp only [toNat_packed, List.foldl] <;> omega

/-- Kind and port of origin of a queue entry (R189 bytes 11 to 22). -/
theorem packed_entry {k o : Nat} (hk : k < 4) (ho : o < 4) {x : Byte}
    (hx : packed [(k, 0), (o, 2)] = x) :
    x.toNat % 4 = k ∧ x.toNat / 4 % 4 = o := by
  subst hx
  constructor <;> simp only [toNat_packed, List.foldl] <;> omega

/-- Hold cause, active recovery, slot 1 and a flag (R189 byte 26). -/
theorem packed_hold {c a l : Nat} (hc : c < 4) (ha : a < 4) (hl : l < 4) {f : Bool} {x : Byte}
    (hx : packed [(c, 0), (a, 2), (l, 4), (f.toNat, 6)] = x) :
    x.toNat % 4 = c ∧ x.toNat / 4 % 4 = a ∧ x.toNat / 16 % 4 = l ∧ x.getLsbD 6 = f := by
  subst hx
  have hf := f.toNat_lt
  refine ⟨?_, ?_, ?_, getLsbD_of_div ?_⟩ <;> simp only [toNat_packed, List.foldl] <;> omega

/-- A byte holds two sets of ranks in its low six bits (R189 byte 27, R190 byte 29). -/
structure HoldsRankSets (y : Byte) (a b : RankSet) : Prop where
  bit0 : y.getLsbD 0 = a.sag
  bit1 : y.getLsbD 1 = a.loopGuard
  bit2 : y.getLsbD 2 = a.pause
  bit3 : y.getLsbD 3 = b.sag
  bit4 : y.getLsbD 4 = b.loopGuard
  bit5 : y.getLsbD 5 = b.pause

theorem packed_rankSets {a b : RankSet} {r : Nat} (hr : r < 4) {x : Byte}
    (hx : packed [(a.bits, 0), (b.bits, 3), (r, 6)] = x) :
    HoldsRankSets x a b ∧ x.toNat / 64 = r := by
  subst hx
  have ha0 := a.sag.toNat_lt
  have ha1 := a.loopGuard.toNat_lt
  have ha2 := a.pause.toNat_lt
  have hb0 := b.sag.toNat_lt
  have hb1 := b.loopGuard.toNat_lt
  have hb2 := b.pause.toNat_lt
  refine ⟨⟨getLsbD_of_div ?_, getLsbD_of_div ?_, getLsbD_of_div ?_, getLsbD_of_div ?_, getLsbD_of_div ?_,
    getLsbD_of_div ?_⟩, ?_⟩ <;> simp only [toNat_packed, List.foldl, RankSet.bits] <;> omega

/-- Band standing and four flags (R189 byte 51). -/
theorem packed_band {n : Nat} (hn : n < 4) {f g k l : Bool} {x : Byte}
    (hx : packed [(n, 0), (f.toNat, 2), (g.toNat, 3), (k.toNat, 4), (l.toNat, 5)] = x) :
    x.toNat % 4 = n ∧ x.getLsbD 2 = f ∧ x.getLsbD 3 = g ∧ x.getLsbD 4 = k ∧ x.getLsbD 5 = l := by
  subst hx
  have hf := f.toNat_lt
  have hg := g.toNat_lt
  have hk := k.toNat_lt
  have hl := l.toNat_lt
  refine ⟨?_, getLsbD_of_div ?_, getLsbD_of_div ?_, getLsbD_of_div ?_, getLsbD_of_div ?_⟩ <;>
    simp only [toNat_packed, List.foldl] <;> omega

/-! ### The bytes of SENSE at their offsets -/

/-- The first byte of entry `i` of a queue as SENSE sends it, 0 where there is none (R189). -/
def entryByte (q : List OrderRecord) (i : Nat) : Byte :=
  (q[i]?.map fun x => packed [(kindCode (some x.kind), 0), (x.origin.code, 2)]).getD 0

/-- The tag of entry `i` of a queue as SENSE sends it, 0 where there is none (R189). -/
def entryTag (q : List OrderRecord) (i : Nat) : Byte := (q[i]?.map OrderRecord.tag).getD 0

theorem queueBytes_eq (q : List OrderRecord) : queueBytes q =
    [entryByte q 0, entryTag q 0, entryByte q 1, entryTag q 1, entryByte q 2, entryTag q 2, entryByte q 3, entryTag q 3,
      entryByte q 4, entryTag q 4, entryByte q 5, entryTag q 5] := by
  match q with
  | [] | [_] | [_, _] | [_, _, _] | [_, _, _, _] | [_, _, _, _, _] | _ :: _ :: _ :: _ :: _ :: _ :: _ => rfl

@[simp] theorem length_bytesOf (n : Nat) (v : Int) : (bytesOf n v).length = n := by simp [bytesOf]

@[simp] theorem length_optBytes (n : Nat) (v : Option Int) : (optBytes n v).length = n := length_bytesOf ..

@[simp] theorem length_positionBytes (x : Position) : x.bytes.length = 17 := by simp [Position.bytes]

@[simp] theorem length_queueBytes (q : List OrderRecord) : (queueBytes q).length = 12 := by rw [queueBytes_eq]; rfl

section
variable (tr : Transport) (o : Option PortId)

theorem senseBody_length : (senseBody tr o).length = 60 := by simp [senseBody]

theorem phaseCode_phaseSeen : phaseCode tr.phaseSeen =
    if tr.condition = .loaded ∨ (tr.condition = .loading ∧ tr.load.step = some .search) then phaseCode (some tr.phase)
    else 0 := by
  by_cases h : tr.condition = .loaded ∨ (tr.condition = .loading ∧ tr.load.step = some .search)
  · rw [if_pos h, Transport.phaseSeen, if_pos (by simpa [Transport.hasPhase, Transport.searching] using h)]
  · rw [if_neg h, Transport.phaseSeen, if_neg (by simpa [Transport.hasPhase, Transport.searching] using h)]
    rfl

theorem senseBody_condition : ∀ x, (senseBody tr o)[0]? = some x →
    x.toNat % 8 = tr.condition.code ∧ x.getLsbD 7 = tr.sense.offline ∧ x.toNat / 8 % 16 = phaseCode tr.phaseSeen := by
  intro x hx
  exact packed_condition (conditionCode_lt _) (phaseCode_lt _) (by simpa [senseBody] using hx)

theorem sensedFurther_eq : tr.sensedFurther =
    if tr.condition = .faulted then (tr.snapshot.map Snapshot.further).getD 0 else 0 := by
  unfold Transport.sensedFurther
  cases tr.condition <;> cases tr.snapshot <;> rfl

/-- SENSE sends the further-fault count of the snapshot while FAULTED, elsewhere 0 (R177, log 13). -/
theorem senseBody_further : (senseBody tr o)[1]? = some (BitVec.ofNat 8
    (if tr.condition = .faulted then (tr.snapshot.map Snapshot.further).getD 0 else 0)) := by
  rw [← sensedFurther_eq]
  simp [senseBody]

theorem senseBody_owner : ∀ x, (senseBody tr o)[2]? = some x →
    x.toNat % 4 = ownerCode o ∧ x.getLsbD 2 = tr.release.isSome ∧ x.getLsbD 3 = tr.paused ∧
      x.toNat / 16 = tr.selected.val := by
  intro x hx
  exact packed_owner (ownerCode_lt o) tr.selected.isLt (by simpa [senseBody] using hx)

end

/-! ### The order that SENSE reports -/

theorem directionBit_eq (d : Direction) : directionBit d = (decide (d = .reverse)).toNat := by cases d <;> rfl

section
variable {tr : Transport} (o : Option PortId)

theorem sensedOrder_of_current {m : Motion} (h : tr.current = some m) : tr.sensedOrder = some m.sensed := by
  simp [Transport.sensedOrder, h]

theorem sensedOrder_of_load {g : LoadRecord} (h : tr.current = none) (hg : tr.load.record = some g) :
    tr.sensedOrder =
      some { kind := .load, direction := 0, origin := g.origin.code, tag := g.tag, profileNo := 0, r := none } := by
  simp [Transport.sensedOrder, h, hg]

theorem sensedOrder_absent (h : tr.current = none) (hg : tr.load.record = none) : tr.sensedOrder = none := by
  simp [Transport.sensedOrder, h, hg]

theorem sensedProfile_lt (tr : Transport) : (tr.sensedOrder.map SensedOrder.profileNo).getD 0 < 16 := by
  cases hm : tr.current with
  | some m => rw [sensedOrder_of_current hm]; exact m.profileNo.isLt
  | none =>
    cases hg : tr.load.record with
    | some g => rw [sensedOrder_of_load hm hg]; exact Nat.zero_lt_succ 15
    | none => rw [sensedOrder_absent hm hg]; decide

theorem senseBody_order : (senseBody tr o)[3]? = some (packed [(kindCode (tr.sensedOrder.map SensedOrder.kind), 0),
    ((tr.sensedOrder.map SensedOrder.direction).getD 0, 3), ((tr.sensedOrder.map SensedOrder.origin).getD 0, 4),
    ((tr.sensedOrder.bind SensedOrder.r).isSome.toNat, 6)]) := by simp [senseBody]

theorem senseBody_current {m : Motion} (h : tr.current = some m) : ∀ x, (senseBody tr o)[3]? = some x →
    x.toNat % 8 = kindCode (some m.kind) ∧ x.getLsbD 3 = decide (m.direction = .reverse) ∧
      x.toNat / 16 % 4 = m.origin.code ∧ x.getLsbD 6 = m.r.isSome := by
  rw [senseBody_order, sensedOrder_of_current h]
  intro x hx
  exact packed_order (kindCode_lt _) (originCode_lt _) (by simpa [Motion.sensed, directionBit_eq] using hx)

theorem senseBody_load {g : LoadRecord} (h : tr.current = none) (hg : tr.load.record = some g) :
    ∀ x, (senseBody tr o)[3]? = some x →
      x.toNat % 8 = 4 ∧ x.toNat / 16 % 4 = g.origin.code ∧ x.getLsbD 6 = false := by
  rw [senseBody_order, sensedOrder_of_load h hg]
  intro x hx
  obtain ⟨hkind, -, horigin, hr⟩ := packed_order (d := false) (r := false) (kindCode_lt (some .load))
    (originCode_lt g.origin) (by simpa using hx)
  exact ⟨hkind, horigin, hr⟩

theorem senseBody_absent (h : tr.current = none) (hg : tr.load.record = none) :
    ∀ x, (senseBody tr o)[3]? = some x → x.toNat % 8 = 0 := by
  rw [senseBody_order, sensedOrder_absent h hg]
  intro x hx
  exact (packed_order (d := false) (r := false) (kindCode_lt none) (show 0 < 4 by decide) (by simpa using hx)).1

theorem senseBody_tag : (senseBody tr o)[4]? = some ((tr.sensedOrder.map SensedOrder.tag).getD 0) := by
  simp [senseBody]

theorem senseBody_step : ∀ x, (senseBody tr o)[5]? = some x →
    x.toNat % 16 = (tr.sensedOrder.map SensedOrder.profileNo).getD 0 ∧ x.toNat / 16 = stepCode tr.load.step := by
  intro x hx
  exact packed_step (sensedProfile_lt tr) (stepCode_lt _) (by simpa [senseBody] using hx)

theorem senseBody_r : ((senseBody tr o).drop 6).take 4 = bytesOf 4 ((tr.sensedOrder.bind SensedOrder.r).getD 0) := by
  simp [senseBody, optBytes, List.drop_append]

end

/-! ### The queue, the Hold Controller and the loops -/

section
variable (tr : Transport) (o : Option PortId)

theorem faultCode_lt (x : Option FaultCause) : (x.map FaultCause.code).getD 0 < 8 := by
  cases x with
  | none => decide
  | some c => exact causeCode_lt c

theorem senseBody_depth : ∀ x, (senseBody tr o)[10]? = some x →
    x.toNat % 8 = tr.queue.length % 8 ∧ (tr.queue.length ≤ 6 →
      x.toNat / 8 % 4 = tr.engine.grant.code ∧ x.toNat / 32 = (tr.faultCause.map FaultCause.code).getD 0) := by
  intro x hx
  exact packed_depth (grantCode_lt _) (faultCode_lt _) (by simpa [senseBody] using hx)

theorem senseBody_queue : ((senseBody tr o).drop 11).take 12 = queueBytes tr.queue := by
  simp [senseBody, List.drop_append, List.drop_of_length_le]

theorem senseBody_entry {i : Nat} (hi : i < 6) :
    (senseBody tr o)[11 + 2 * i]? = some (entryByte tr.queue i) ∧
      (senseBody tr o)[12 + 2 * i]? = some (entryTag tr.queue i) := by
  have hb : ∀ k < 12, (senseBody tr o)[11 + k]? = (queueBytes tr.queue)[k]? := fun k hk => by
    rw [← senseBody_queue tr o, List.getElem?_take_of_lt hk, List.getElem?_drop]
  rw [show 12 + 2 * i = 11 + (2 * i + 1) by omega, hb _ (by omega), hb _ (by omega), queueBytes_eq]
  interval_cases i <;> exact ⟨rfl, rfl⟩

theorem senseBody_hold : ∀ x, (senseBody tr o)[26]? = some x →
    x.toNat % 4 = rankCode tr.hold.cause ∧ x.toNat / 4 % 4 = rankCode tr.hold.active ∧
      x.toNat / 16 % 4 = tr.hold.slot1.code ∧ x.getLsbD 6 = tr.hold.timer.isSome := by
  intro x hx
  exact packed_hold (rankCode_lt _) (rankCode_lt _) (slotCode_lt _) (by simpa [senseBody] using hx)

theorem senseBody_rankSets : ∀ x, (senseBody tr o)[27]? = some x →
    HoldsRankSets x tr.hold.inService tr.hold.pending ∧
      x.toNat / 64 = rankCode (tr.hold.slot2.map SavedRecovery.rank) := by
  intro x hx
  exact packed_rankSets (rankCode_lt _) (by simpa [senseBody] using hx)

theorem senseBody_settles :
    (senseBody tr o)[28]? = some (BitVec.ofNat 8 ((tr.hold.slot2.map SavedRecovery.settle).getD 0)) ∧
      (senseBody tr o)[29]? = some (BitVec.ofNat 8 tr.hold.settle) := by
  constructor <;> simp [senseBody]

/-- A timer is sent in whole milliseconds, rounded down or up (log 5). -/
theorem wholeMs_timerMs (x : Timer) : wholeMs x (bytesOf 2 (timerMs x)) := by
  refine ⟨timerMs x, rfl, ?_⟩
  cases x with
  | none => exact ⟨by decide, by decide⟩
  | some us =>
    have hround := (Config.roundsUp us).toNat_lt
    simp only [timerMs, Option.getD_some]
    split <;> omega

theorem senseBody_holdTimer : wholeMs tr.hold.timer (((senseBody tr o).drop 30).take 2) := by
  have hb : ((senseBody tr o).drop 30).take 2 = bytesOf 2 (timerMs tr.hold.timer) := by
    simp [senseBody, List.drop_append, List.drop_of_length_le]
  rw [hb]
  exact wholeMs_timerMs _

theorem senseBody_band : ∀ x, (senseBody tr o)[51]? = some x →
    x.toNat % 4 = tr.servo.band.code ∧ x.getLsbD 2 = tr.servo.loopGuard.isSome ∧ x.getLsbD 3 = tr.sense.coverOpen ∧
      x.getLsbD 4 = tr.lines.fileReel ∧ x.getLsbD 5 = tr.lines.machineReel := by
  intro x hx
  exact packed_band (bandCode_lt _) (by simpa [senseBody] using hx)

/-- The numbers of a SENSE body that fill whole bytes: velocity, position record, loop depths, demands and radii (R189). -/
theorem senseBody_numbers :
    ((senseBody tr o).drop 23).take 3 = bytesOf 3 tr.engine.v ∧
    ((senseBody tr o).drop 32).take 17 = tr.sense.position.bytes ∧
    (senseBody tr o)[49]? = some (BitVec.ofNat 8 tr.sense.depths.file) ∧
    (senseBody tr o)[50]? = some (BitVec.ofNat 8 tr.sense.depths.machine) ∧
    ((senseBody tr o).drop 52).take 2 = bytesOf 2 tr.servo.reels.file.demand ∧
    ((senseBody tr o).drop 54).take 2 = bytesOf 2 tr.servo.reels.machine.demand ∧
    ((senseBody tr o).drop 56).take 2 = bytesOf 2 tr.servo.reels.file.radius ∧
    ((senseBody tr o).drop 58).take 2 = bytesOf 2 tr.servo.reels.machine.radius := by
  refine ⟨?_, ?_, ?_, ?_, ?_, ?_, ?_, ?_⟩ <;>
    simp [senseBody, Transport.position, List.drop_append, List.take_of_length_le, List.drop_of_length_le]

end

theorem entryByte_of_none {q : List OrderRecord} {i : Nat} (h : q[i]? = none) : entryByte q i = 0 ∧ entryTag q i = 0 := by
  simp [entryByte, entryTag, h]

theorem entryTag_of_some {q : List OrderRecord} {i : Nat} {x : OrderRecord} (h : q[i]? = some x) :
    entryTag q i = x.tag := by
  simp [entryTag, h]

theorem entryByte_of_some {q : List OrderRecord} {i : Nat} {x : OrderRecord} (h : q[i]? = some x) (hk : x.kind ≠ .load) :
    (entryByte q i).toNat % 4 = kindCode (some x.kind) ∧ (entryByte q i).toNat / 4 % 4 = x.origin.code := by
  simp only [entryByte, h, Option.map_some, Option.getD_some]
  exact packed_entry (kindCode_queued hk) (originCode_lt _) rfl

/-! ### The bytes of a snapshot at their offsets -/

section
variable (x : Snapshot)

theorem snapshotBytes_length : x.bytes.length = 42 := by simp [Snapshot.bytes]

theorem snapshotBytes_condition : ∀ y, x.bytes[1]? = some y →
    y.toNat % 8 = x.condition.code ∧ y.toNat / 8 % 16 = phaseCode x.phase := by
  intro y hy
  obtain ⟨hcond, -, hphase⟩ := packed_condition (f := false) (conditionCode_lt x.condition) (phaseCode_lt x.phase)
    (by simpa [Snapshot.bytes, packed] using hy)
  exact ⟨hcond, hphase⟩

theorem snapshotBytes_order : ∀ y, x.bytes[22]? = some y →
    y.toNat % 8 = kindCode (x.order.map SnapshotOrder.kind) ∧
      y.toNat / 16 % 4 = (x.order.map fun o => o.origin.code).getD 0 ∧ y.getLsbD 6 = x.r.isSome := by
  intro y hy
  have horigin : (x.order.map fun o => o.origin.code).getD 0 < 4 := by
    cases x.order with
    | none => decide
    | some o => exact originCode_lt o.origin
  obtain ⟨hkind, -, hport, hr⟩ := packed_order (d := false) (kindCode_lt (x.order.map SnapshotOrder.kind)) horigin
    (by simpa [Snapshot.bytes, packed] using hy)
  exact ⟨hkind, hport, hr⟩

theorem snapshotBytes_rankSets : ∀ y, x.bytes[29]? = some y → HoldsRankSets y x.inService x.pending := by
  intro y hy
  exact (packed_rankSets (show 0 < 4 by decide) (by simpa [Snapshot.bytes, packed] using hy)).1

/-- The values of a snapshot that fill whole bytes (R190). -/
theorem snapshotBytes_numbers :
    x.bytes[0]? = some (BitVec.ofNat 8 x.cause.code) ∧
    (x.bytes.drop 2).take 17 = x.position.bytes ∧ (x.bytes.drop 19).take 3 = bytesOf 3 x.v ∧
    x.bytes[23]? = some ((x.order.map SnapshotOrder.tag).getD 0) ∧
    (x.bytes.drop 24).take 4 = bytesOf 4 (x.r.getD 0) ∧
    x.bytes[28]? = some (BitVec.ofNat 8 x.queueDepth) ∧ x.bytes[30]? = some (BitVec.ofNat 8 x.slots) ∧
    x.bytes[31]? = some (BitVec.ofNat 8 x.depths.file) ∧ x.bytes[32]? = some (BitVec.ofNat 8 x.depths.machine) ∧
    (x.bytes.drop 33).take 2 = bytesOf 2 x.demands.file ∧ (x.bytes.drop 35).take 2 = bytesOf 2 x.demands.machine ∧
    (x.bytes.drop 37).take 2 = bytesOf 2 x.radii.file ∧ (x.bytes.drop 39).take 2 = bytesOf 2 x.radii.machine ∧
    x.bytes[41]? = some (BitVec.ofNat 8 x.further) := by
  refine ⟨?_, ?_, ?_, ?_, ?_, ?_, ?_, ?_, ?_, ?_, ?_, ?_, ?_, ?_⟩ <;>
    simp [Snapshot.bytes, optBytes, List.drop_append, List.drop_of_length_le]

end

end Sys2Proof.FaultReports
end

section
/-! SUPPORT. What SENSE and READ SNAPSHOT answer (R112, R177), with the statement about their bodies. -/

namespace Sys2Proof.FaultReports

open Sys2Proof Sys2Proof.Machine Sys2Proof.OrderQueue

/-! ### The answers -/

/-- SENSE answers any port, at an OFFLINE transport too (R177). -/
theorem exec_sense {s : State} {h : Head} {t : TransportId} (ht : s.Takes h.port []) (ha : s.addressed h = some t) :
    exec (.sense h) s = .next (s.answered h 0 (senseBody (s.tr t) (s.owner t))) := by
  have hserved : exec (.sense h) s = done h (senseBody (s.tr t) (s.owner t)) (s.counted h.port) :=
    orderFrame_served _ ht.ready ht.fits ha rfl (.inr rfl)
  rw [hserved, done_counted (up_of_ready ht.ready)]

/-- READ SNAPSHOT answers any port, at an OFFLINE transport too (R112). -/
theorem exec_readSnapshot {s : State} {h : Head} {t : TransportId} (ht : s.Takes h.port [])
    (ha : s.addressed h = some t) :
    exec (.readSnapshot h) s = .next (s.answered h 0 (snapshotBody (s.tr t).snapshot)) := by
  have hserved : exec (.readSnapshot h) s = done h (snapshotBody (s.tr t).snapshot) (s.counted h.port) :=
    orderFrame_served _ ht.ready ht.fits ha rfl (.inr rfl)
  rw [hserved, done_counted (up_of_ready ht.ready)]

/-- Settles O37: each field of the 60 bytes of SENSE and of the 42 bytes of a snapshot at its offset (R112, R177, R189,
R190). -/
theorem senseAndSnapshotReport : Obligations.SenseAndSnapshotReport := by
  intro h t s ht ha hold port rank
  let tr := s.tr t
  let o := s.owner t
  have hrank : ∀ x, rankCode x = rank x := by rintro (_ | _ | _ | _) <;> rfl
  refine ⟨⟨senseBody tr o, exec_sense ht ha, senseBody_length tr o, fun x hx => ?condition, senseBody_further tr o,
    senseBody_owner tr o, fun x hx => ⟨fun m hm => ?current, fun g hc hg => ?load, fun hc hg => ?absent⟩,
    fun m hm => ⟨?tag, fun x hx => ?profile, fun r hr => ?r⟩, fun g hc hg => ?loadTag, fun x hx => ?step,
    fun x hx => ?depth, fun i hi => ⟨fun q hq => ⟨?entryTag, fun hk => ?entry⟩, fun hq => ?noEntry⟩,
    fun x hx => ?hold, fun x hx => ?rankSets, fun g hg => ?slot2, (senseBody_settles tr o).2, senseBody_holdTimer tr o,
    senseBody_band tr o, senseBody_numbers tr o⟩, fun hn => ?noSnapshot, fun x hx => ⟨x.bytes, ?read, snapshotBytes_length x, ?snapshot⟩⟩
  case condition =>
    obtain ⟨hcond, hoff, hphase⟩ := senseBody_condition tr o x hx
    refine ⟨hcond, hoff, (hphase.trans (phaseCode_phaseSeen tr)).trans (if_congr Iff.rfl ?_ rfl)⟩
    cases tr.phase <;> rfl
  case current =>
    obtain ⟨hkind, hrest⟩ := senseBody_current o hm x hx
    exact ⟨hkind.trans (by cases m.kind <;> rfl), hrest⟩
  case load => exact senseBody_load o hc hg x hx
  case absent => exact senseBody_absent o hc hg x hx
  case tag => rw [senseBody_tag, sensedOrder_of_current hm]; rfl
  case profile => rw [(senseBody_step o x hx).1, sensedOrder_of_current hm]; rfl
  case r =>
    rw [senseBody_r, sensedOrder_of_current hm, Option.bind_some, Motion.sensed, hr]
    rfl
  case loadTag => rw [senseBody_tag, sensedOrder_of_load hc hg]; rfl
  case step => exact (senseBody_step o x hx).2
  case depth =>
    obtain ⟨hdepth, hrest⟩ := senseBody_depth tr o x hx
    refine ⟨hdepth, fun hq => ⟨(hrest hq).1, fun c hc => (hrest hq).2.trans ?_⟩⟩
    rw [hc]; rfl
  case entryTag => rw [(senseBody_entry tr o hi).2, entryTag_of_some hq]
  case entry =>
    obtain ⟨hkind, horigin⟩ := entryByte_of_some hq hk
    refine ⟨_, (senseBody_entry tr o hi).1, hkind.trans ?_, horigin⟩
    cases hload : q.kind with
    | load => exact absurd hload hk
    | move | rewind | unload => rfl
  case noEntry =>
    obtain ⟨hbyte, htag⟩ := entryByte_of_none (List.getElem?_eq_none hq)
    rw [(senseBody_entry tr o hi).1, (senseBody_entry tr o hi).2, hbyte, htag]
    exact ⟨rfl, rfl⟩
  case hold =>
    obtain ⟨hcause, hactive, hslot, htimer⟩ := senseBody_hold tr o x hx
    exact ⟨hcause.trans (hrank _), hactive.trans (hrank _), hslot, htimer⟩
  case rankSets =>
    obtain ⟨hsets, hslot⟩ := senseBody_rankSets tr o x hx
    exact ⟨hsets.bit0, hsets.bit1, hsets.bit2, hsets.bit3, hsets.bit4, hsets.bit5, hslot.trans (hrank _)⟩
  case slot2 =>
    have hsettle := (senseBody_settles tr o).1
    rw [show tr.hold.slot2 = some g from hg] at hsettle
    exact hsettle
  case noSnapshot => rw [exec_readSnapshot ht ha, hn]; rfl
  case read => rw [exec_readSnapshot ht ha, hx]; rfl
  case snapshot =>
    obtain ⟨hcause, hpos, hv, htag, hr, hrest⟩ := snapshotBytes_numbers x
    obtain ⟨hdepth, hslots, hfile, hmachine, hrest⟩ := hrest
    refine ⟨hcause, snapshotBytes_condition x, hpos, hv, fun y hy => ?_, fun o ho => ?_, fun r hxr => ?_, hdepth,
      fun y hy => ?_, hslots, hfile, hmachine, hrest⟩
    · obtain ⟨hkind, horigin, hpresent⟩ := snapshotBytes_order x y hy
      refine ⟨hpresent, fun hn => by rw [hkind, hn]; rfl, fun o ho => ⟨?_, ?_⟩⟩
      · rw [horigin, ho]; rfl
      · rw [hkind, ho, Option.map_some]; cases o.kind <;> rfl
    · rw [htag, ho]; rfl
    · rw [hr, hxr]; rfl
    · have hsets := snapshotBytes_rankSets x y hy
      exact ⟨hsets.bit0, hsets.bit1, hsets.bit2, hsets.bit3, hsets.bit4, hsets.bit5⟩

end Sys2Proof.FaultReports
end

section
/-! SUPPORT. SET GRANT LIMIT (R121, R123 to R125, R128), with its statement: the arbiter's list does not see the counters of the ports. -/

namespace Sys2Proof.GrantArbiter

open Sys2Proof Sys2Proof.Machine Sys2Proof.OrderQueue Sys2Proof.RampEngine Sys2Proof.FaultReports

/-! ### Serving the list and the ports -/

theorem started_counted (s : State) (t : TransportId) (p : PortId) :
    (s.counted p).started t = (s.started t).counted p := by
  unfold State.started
  rw [tr_counted]
  split <;> rfl

theorem served_counted (s : State) (heads others : List WaitEntry) (p : PortId) :
    (s.counted p).served heads others = (s.served heads others).counted p :=
  List.foldl_hom (l := heads) (init := { s with arbiter := { s.arbiter with waiting := others } })
    (State.counted · p) fun w e => started_counted w e.transport p

@[simp] theorem started_ports (s : State) (t : TransportId) : (s.started t).ports = s.ports := by
  unfold State.started
  split <;> rfl

@[simp] theorem served_ports (s : State) (heads others : List WaitEntry) : (s.served heads others).ports = s.ports :=
  List.foldlRecOn (motive := fun w : State => w.ports = s.ports) heads _ rfl
    fun _ hw e _ => (started_ports _ e.transport).trans hw

theorem serves_counted {s : State} {heads others : List WaitEntry} (h : s.Serves heads others) (p : PortId) :
    (s.counted p).Serves heads others where
  list := h.list
  starts e he := (h.starts e he).imp fun _ k => k.of_tr rfl rfl
  free := h.free
  once := h.once
  room := h.room
  full := h.full

/-! ### An empty list -/

theorem serves_nil {s : State} (hw : s.arbiter.waiting = []) : s.Serves [] [] where
  list := hw
  starts := nofun
  free := nofun
  once := List.nodup_nil
  room := .inr (.inl rfl)
  full := .inl rfl

theorem served_nil {s : State} (hw : s.arbiter.waiting = []) : s.served [] [] = s := by
  rw [State.served, List.foldl_nil, ← hw]

/-! ### SET GRANT LIMIT -/

/-- The state under another grant limit (R128). -/
def limitedTo (n : Nat) (s : State) : State := { s with arbiter := { s.arbiter with limit := n } }

theorem limitedTo_counted (n : Nat) (s : State) (p : PortId) :
    limitedTo n (s.counted p) = (limitedTo n s).counted p := rfl

/-- An event in which the arbiter serves its list, and the DONE behind the frames of the heads that start (R128). -/
theorem answerDone_serve {h : Head} {s : State} {heads others : List WaitEntry} (hs : s.Serves heads others) :
    answerDone h { state := s, now := [.serve] } = .next (sending (doneTo h) (s.served heads others)) := by
  have hlen := serves_length_le hs
  obtain ⟨n, hn⟩ : ∃ n, agendaBound = (n + 1) + 6 * heads.length + 1 :=
    ⟨4094 - 6 * heads.length, by simp only [agendaBound]; omega⟩
  calc answerDone h { state := s, now := [.serve] }
      = runTasks ((n + 1) + 6 * heads.length + 1) [.serve, .answer h .done []] s := by rw [← hn]; rfl
    _ = runTasks (n + 1) [.answer h .done []] (s.served heads others) := runTasks_serve _ _ _ _ _ hs
    _ = .next (sending (doneTo h) (s.served heads others)) := by rw [runTasks_answer, runTasks_nil]

section
variable {h : Head} {x : Byte} {rest : List Byte} {s : State} (hu : h.unit = 255) (ht : s.Takes h.port (x :: rest))
include hu ht

/-- SET GRANT LIMIT past the checks of the Port Controller (R165). -/
theorem exec_setGrantLimit :
    exec (.setGrantLimit h (x :: rest)) s = serveSetGrantLimit h (x :: rest) (s.counted h.port) :=
  partFrame_counted _ ht hu

theorem exec_setGrantLimit_serves (hx : x.toNat ≤ 4) {heads others : List WaitEntry}
    (hs : (limitedTo x.toNat s).Serves heads others) : exec (.setGrantLimit h (x :: rest)) s =
      .next (((limitedTo x.toNat s).served heads others).answered h 0 []) := by
  have hup : (((limitedTo x.toNat s).served heads others).port h.port).up = true := by
    rw [State.port, served_ports]
    exact up_of_ready ht.ready
  rw [exec_setGrantLimit hu ht, serveSetGrantLimit, if_neg (by omega)]
  change answerDone h { state := limitedTo x.toNat (s.counted h.port), now := [.serve] } = _
  rw [limitedTo_counted, answerDone_serve (serves_counted hs h.port), served_counted, sending_done_counted hup]

theorem exec_setGrantLimit_refused (hx : 4 < x.toNat) :
    exec (.setGrantLimit h (x :: rest)) s = .next (s.turnedAway h 0x26 []) := by
  rw [exec_setGrantLimit hu ht, serveSetGrantLimit, if_pos hx]
  exact refused_counted (up_of_ready ht.ready) .badField

end

/-- Settles O16: the limit is set and the list served, by whether the value is in range; an empty list is one of which no
head is served (R121, R123 to R125, R128). -/
theorem setGrantLimitSetsTheLimit : Obligations.SetGrantLimitSetsTheLimit := by
  intro h x rest s hu ht
  refine ⟨fun hx hw => ?_, fun hx heads others hs => exec_setGrantLimit_serves hu ht hx hs,
    exec_setGrantLimit_refused hu ht⟩
  have hw' : (limitedTo x.toNat s).arbiter.waiting = [] := hw
  rw [exec_setGrantLimit_serves hu ht hx (serves_nil hw'), served_nil hw']
  rfl

end Sys2Proof.GrantArbiter
end

section
/-! SUPPORT. The fields of the bytes that SENSE STRING sends, each at its offset (R130, R141, R190), with the statement. -/

namespace Sys2Proof.GrantArbiter

open Sys2Proof Sys2Proof.Machine Sys2Proof.OrderQueue Sys2Proof.FaultReports

/-! ### Bytes made of bit fields -/

/-- One flag for each transport, that of T0 lowest (R190 byte 1). -/
theorem packed_holders {q : Quad Bool} {x : Byte}
    (hx : packed [(q.t0.toNat, 0), (q.t1.toNat, 1), (q.t2.toNat, 2), (q.t3.toNat, 3)] = x) (t : TransportId) :
    x.getLsbD (transportByte t).toNat = q.get t := by
  subst hx
  have h0 := q.t0.toNat_lt
  have h1 := q.t1.toNat_lt
  have h2 := q.t2.toNat_lt
  have h3 := q.t3.toNat_lt
  refine getLsbD_of_div ?_
  cases t <;> simp only [toNat_packed, List.foldl, transportByte, Quad.get, BitVec.reduceToNat] <;> omega

/-- Three flags in the lowest bits (R190 byte 13). -/
theorem packed_flags {f g k : Bool} {x : Byte} (hx : packed [(f.toNat, 0), (g.toNat, 1), (k.toNat, 2)] = x) :
    x.getLsbD 0 = f ∧ x.getLsbD 1 = g ∧ x.getLsbD 2 = k := by
  subst hx
  have hf := f.toNat_lt
  have hg := g.toNat_lt
  have hk := k.toNat_lt
  refine ⟨getLsbD_of_div ?_, getLsbD_of_div ?_, getLsbD_of_div ?_⟩ <;> simp only [toNat_packed, List.foldl] <;> omega

theorem transportByte_lt (t : TransportId) : (transportByte t).toNat < 4 := by cases t <;> decide

/-- Transport and priority of a waiting-list entry (R190 bytes 3 to 6). -/
theorem waitEntryByte_fields (e : WaitEntry) :
    e.byte.toNat % 4 = (transportByte e.transport).toNat ∧ e.byte.toNat / 4 % 8 = e.priority % 8 := by
  have ht := transportByte_lt e.transport
  constructor <;> simp only [WaitEntry.byte, toNat_packed, List.foldl] <;> omega

/-! ### The bytes of SENSE STRING at their offsets -/

/-- The byte of entry `i` of the waiting list as SENSE STRING sends it, 0 where there is none (R190). -/
def listByte (l : List WaitEntry) (i : Nat) : Byte := (l[i]?.map WaitEntry.byte).getD 0

theorem listBytes_eq (l : List WaitEntry) :
    (l.take 4).map WaitEntry.byte ++ List.replicate (4 - ((l.take 4).map WaitEntry.byte).length) 0 =
      [listByte l 0, listByte l 1, listByte l 2, listByte l 3] := by
  match l with
  | [] | [_] | [_, _] | [_, _, _] | _ :: _ :: _ :: _ :: _ => rfl

section
variable (s : State)

/-- The bytes of SENSE STRING one by one, the two timers behind them (R190). -/
theorem senseStringBody_eq : senseStringBody s =
    [BitVec.ofNat 8 s.arbiter.limit,
      packed [(s.arbiter.holders.t0.toNat, 0), (s.arbiter.holders.t1.toNat, 1), (s.arbiter.holders.t2.toNat, 2),
        (s.arbiter.holders.t3.toNat, 3)],
      BitVec.ofNat 8 s.arbiter.waiting.length,
      listByte s.arbiter.waiting 0, listByte s.arbiter.waiting 1, listByte s.arbiter.waiting 2,
      listByte s.arbiter.waiting 3,
      BitVec.ofNat 8 s.vacuum.mode.code, BitVec.ofNat 8 s.vacuum.blower.code, BitVec.ofNat 8 s.vacuum.loss,
      BitVec.ofNat 8 s.vacuum.sag, BitVec.ofNat 8 s.vacuum.run, BitVec.ofNat 8 s.vacuum.lastPressure,
      packed [(s.vacuum.ready.toNat, 0), (s.vacuum.settle.isSome.toNat, 1), (s.vacuum.economy.isSome.toNat, 2)]]
    ++ bytesOf 2 (s.vacuum.settle.getD 0) ++ bytesOf 2 (timerMs s.vacuum.economy) := by
  simp only [senseStringBody, List.append_assoc _ (List.map _ _), listBytes_eq]
  rfl

theorem senseStringBody_length : (senseStringBody s).length = 18 := by simp [senseStringBody_eq]

/-- The values of SENSE STRING that fill whole bytes (R190). -/
theorem senseStringBody_numbers :
    (senseStringBody s)[0]? = some (BitVec.ofNat 8 s.arbiter.limit) ∧
    (senseStringBody s)[2]? = some (BitVec.ofNat 8 s.arbiter.waiting.length) ∧
    (senseStringBody s)[7]? = some (BitVec.ofNat 8 s.vacuum.mode.code) ∧
    (senseStringBody s)[8]? = some (BitVec.ofNat 8 s.vacuum.blower.code) ∧
    (senseStringBody s)[9]? = some (BitVec.ofNat 8 s.vacuum.loss) ∧
    (senseStringBody s)[10]? = some (BitVec.ofNat 8 s.vacuum.sag) ∧
    (senseStringBody s)[11]? = some (BitVec.ofNat 8 s.vacuum.run) ∧
    (senseStringBody s)[12]? = some (BitVec.ofNat 8 s.vacuum.lastPressure) := by
  rw [senseStringBody_eq]
  exact ⟨rfl, rfl, rfl, rfl, rfl, rfl, rfl, rfl⟩

theorem senseStringBody_holders : ∀ x, (senseStringBody s)[1]? = some x →
    ∀ t : TransportId, x.getLsbD (transportByte t).toNat = s.arbiter.holders.get t := by
  intro x hx
  exact packed_holders (by simpa [senseStringBody_eq] using hx)

theorem senseStringBody_flags : ∀ x, (senseStringBody s)[13]? = some x →
    x.getLsbD 0 = s.vacuum.ready ∧ x.getLsbD 1 = s.vacuum.settle.isSome ∧ x.getLsbD 2 = s.vacuum.economy.isSome := by
  intro x hx
  exact packed_flags (by simpa [senseStringBody_eq] using hx)

theorem senseStringBody_entry {i : Nat} (hi : i < 4) :
    (senseStringBody s)[3 + i]? = some (listByte s.arbiter.waiting i) := by
  rw [senseStringBody_eq]
  interval_cases i <;> rfl

theorem senseStringBody_timers :
    ((senseStringBody s).drop 14).take 2 = bytesOf 2 (s.vacuum.settle.getD 0) ∧
    ((senseStringBody s).drop 16).take 2 = bytesOf 2 (timerMs s.vacuum.economy) := by
  rw [senseStringBody_eq]
  exact ⟨rfl, rfl⟩

end

/-- SENSE STRING answers any port (R130, R141, R177). -/
theorem exec_senseString {h : Head} {s : State} (hu : h.unit = 255) (ht : s.Takes h.port []) :
    exec (.senseString h) s = .next (s.answered h 0 (senseStringBody s)) := by
  have hserved : exec (.senseString h) s = done h (senseStringBody s) (s.counted h.port) :=
    partFrame_counted (fun s => done h (senseStringBody s) s) ht hu
  rw [hserved, done_counted (up_of_ready ht.ready)]

/-- Settles O17: each field of the 18 bytes at its offset (R130, R141, R190). -/
theorem senseStringReportsArbiterAndVacuum : Obligations.SenseStringReportsArbiterAndVacuum := by
  intro h s hu ht
  obtain ⟨hlimit, hlength, hmode, hblower, hloss, hsag, hrun, hlast⟩ := senseStringBody_numbers s
  obtain ⟨hsettle, heconomy⟩ := senseStringBody_timers s
  refine ⟨senseStringBody s, exec_senseString hu ht, senseStringBody_length s, hlimit, senseStringBody_holders s, hlength,
    ?mode, ?blower, hloss, hsag, hrun, hlast, fun i hi e he => ?entry, senseStringBody_flags s, hsettle, ?economy⟩
  case mode => rw [hmode]; cases s.vacuum.mode <;> rfl
  case blower => rw [hblower]; cases s.vacuum.blower <;> rfl
  case entry =>
    have hbyte : listByte s.arbiter.waiting i = e.byte := by rw [listByte, he]; rfl
    exact ⟨e.byte, by rw [senseStringBody_entry s hi, hbyte], waitEntryByte_fields e⟩
  case economy => rw [heconomy]; exact wholeMs_timerMs _

end Sys2Proof.GrantArbiter
end

section
/-! SUPPORT. The review of the vacuum supply (R133, R134): the blower by its table, the economy timer by its conditions, and what a loss of READY leaves alone, with the statements about the review and about SET VACUUM (R135). -/

namespace Sys2Proof.VacuumSupply

open Sys2Proof Sys2Proof.Machine Sys2Proof.OrderQueue Sys2Proof.Resumption Sys2Proof.FaultReports

/-! ### The standing of the string -/

/-- The two states agree in what the review of the vacuum supply judges the transports by (R133), and in ports and owners. -/
structure SameStanding (s u : State) : Prop where
  condition : ∀ t, (u.tr t).condition = (s.tr t).condition
  stopped : ∀ t, (u.tr t).phase = .stopped ↔ (s.tr t).phase = .stopped
  ports : u.ports = s.ports
  owners : u.owners = s.owners

theorem SameStanding.refl (s : State) : SameStanding s s := ⟨fun _ => rfl, fun _ => .rfl, rfl, rfl⟩

theorem SameStanding.trans {a b c : State} (h : SameStanding a b) (k : SameStanding b c) : SameStanding a c :=
  ⟨fun t => (k.condition t).trans (h.condition t), fun t => (k.stopped t).trans (h.stopped t), k.ports.trans h.ports,
    k.owners.trans h.owners⟩

theorem SameStanding.quiet {s u : State} (h : SameStanding s u) : u.quiet = s.quiet := by
  have hphase : ∀ t, ((u.tr t).phase == .stopped) = ((s.tr t).phase == .stopped) := fun t =>
    Bool.eq_iff_iff.mpr (by simpa using h.stopped t)
  simp only [State.quiet, State.allUnloaded, Transport.quiet, h.condition, hphase]

theorem giveUpGrant_sameStanding (t : TransportId) (s : State) : SameStanding s (giveUpGrant t s).state := by
  have hphase : ∀ u, ((giveUpGrant t s).state.tr u).phase = (s.tr u).phase := fun u => by
    by_cases hu : u = t
    · subst hu
      cases hg : (s.tr u).engine.grant <;>
        simp only [giveUpGrant, hg, State.setGrant, Reaction.idle, State.tr_setTr_self] <;> rfl
    · rw [(giveUpGrant_beside hu s).transport]
  refine ⟨fun u => giveUpGrant_condition t u s, fun u => by rw [hphase], ?ports, ?owners⟩ <;>
    cases hg : (s.tr t).engine.grant <;> simp only [giveUpGrant, hg, State.setGrant, Reaction.idle] <;> rfl

/-- A motion that a loss of READY sends from WAIT GRANT back to WAIT VACUUM is not at rest before or after (R138). -/
theorem loseReady_sameStanding (t : TransportId) (s : State) : SameStanding s (loseReady t s) := by
  unfold loseReady
  dsimp only
  split
  next hw =>
    have hp : (s.tr t).phase = .waitGrant := by simp_all
    have hg := giveUpGrant_sameStanding t s
    refine ⟨fun u => ?condition, fun u => ?stopped, hg.ports, hg.owners⟩
    case condition =>
      refine Eq.trans ?_ (hg.condition u)
      by_cases hu : u = t
      · subst hu; rw [State.setPhase, State.tr_setTr_self]
      · rw [State.setPhase, State.tr_setTr_ne _ _ hu]
    case stopped =>
      by_cases hu : u = t
      · subst hu; rw [State.setPhase, State.tr_setTr_self, hp]; simp
      · rw [State.setPhase, State.tr_setTr_ne _ _ hu]; exact hg.stopped u
  next => exact .refl s

theorem reportReadyFalse_sameStanding (s : State) : SameStanding s (reportReadyFalse s) :=
  List.foldlRecOn (motive := SameStanding s) transportIds _ (.refl s)
    fun _ hw t _ => hw.trans (loseReady_sameStanding t _)

theorem setBlower_sameStanding (b : Blower) (s : State) : SameStanding s (setBlower b s) := by
  let lowered : State := { s with vacuum := { s.vacuum with blower := b, settle := none, ready := false } }
  have hlowered : SameStanding s lowered := ⟨fun _ => rfl, fun _ => .rfl, rfl, rfl⟩
  unfold setBlower
  dsimp only
  split
  · exact .refl s
  · split
    · exact hlowered.trans (reportReadyFalse_sameStanding lowered)
    · exact hlowered

theorem reviewVacuum_sameStanding (s : State) : SameStanding s (reviewVacuum s) := by
  have h := setBlower_sameStanding (blowerFor s.vacuum.mode s.allUnloaded s.quiet s.vacuum.blower) s
  exact ⟨h.condition, h.stopped, h.ports, h.owners⟩

/-! ### The review -/

/-- The blower that the mode and the transports of a state call for (R133). -/
def blowerDue (s : State) : Blower := blowerFor s.vacuum.mode s.allUnloaded s.quiet s.vacuum.blower

/-- A review sets the blower that is due, and then the economy timer (R133, R134). -/
theorem reviewVacuum_eq (s : State) : reviewVacuum s = { setBlower (blowerDue s) s with
    vacuum := { (setBlower (blowerDue s) s).vacuum with economy := (reviewVacuum s).vacuum.economy } } := rfl

theorem setBlower_blower (b : Blower) (s : State) : (setBlower b s).vacuum.blower = b := by
  obtain ⟨hb, h⟩ | ⟨-, h⟩ := setBlower_cases b s <;> rw [h]
  exact hb

theorem setBlower_economy (b : Blower) (s : State) : (setBlower b s).vacuum.economy = s.vacuum.economy := by
  obtain ⟨-, h⟩ | ⟨-, h⟩ := setBlower_cases b s <;> rw [h]

theorem reviewVacuum_blower (s : State) : (reviewVacuum s).vacuum.blower = blowerDue s := setBlower_blower (blowerDue s) s

theorem reviewVacuum_settings (s : State) : (reviewVacuum s).vacuum.mode = s.vacuum.mode ∧
    (reviewVacuum s).vacuum.loss = s.vacuum.loss ∧ (reviewVacuum s).vacuum.sag = s.vacuum.sag ∧
    (reviewVacuum s).vacuum.run = s.vacuum.run ∧ (reviewVacuum s).vacuum.lastPressure = s.vacuum.lastPressure := by
  have h := (reviewVacuum_keeps s).fixed
  exact ⟨congrArg Fixed.mode h, congrArg Fixed.loss h, congrArg Fixed.sag h, congrArg Fixed.run h,
    congrArg Fixed.lastPressure h⟩

/-- A review that leaves the blower as it is sets the economy timer alone (R134). -/
theorem reviewVacuum_of_blower_kept {s : State} (h : (reviewVacuum s).vacuum.blower = s.vacuum.blower) :
    reviewVacuum s = { s with vacuum := { s.vacuum with economy := (reviewVacuum s).vacuum.economy } } := by
  have hset : setBlower (blowerDue s) s = s := by rw [← reviewVacuum_blower, h]; simp [setBlower]
  conv_lhs => rw [reviewVacuum_eq, hset]

theorem reviewVacuum_of_blower_changed {s : State} (h : (reviewVacuum s).vacuum.blower ≠ s.vacuum.blower) :
    (reviewVacuum s).vacuum.settle = none ∧ (reviewVacuum s).vacuum.ready = false := by
  obtain ⟨hb, -⟩ | ⟨-, hv⟩ := setBlower_cases (blowerDue s) s
  · exact absurd ((reviewVacuum_blower s).trans hb.symm) h
  · rw [reviewVacuum_eq]
    dsimp only
    rw [hv]
    exact ⟨rfl, rfl⟩

/-- The three conditions of the economy timer (R134). -/
theorem economyTimerFor_eq (mode : VacuumMode) (b : Blower) (quiet : Bool) (timer : Timer) :
    economyTimerFor mode b quiet timer =
      if mode = .auto ∧ b = .normal ∧ quiet = true then some (timer.getD 5000000) else none := by
  cases timer <;> simp [economyTimerFor, economyTime, ms, and_assoc]

/-- A loss of READY in the review does not change whether the string is quiet, by which the review then judges the economy
timer (R133, R134, R138). -/
theorem reviewVacuum_economy (s : State) : (reviewVacuum s).vacuum.economy =
    economyTimerFor (reviewVacuum s).vacuum.mode (reviewVacuum s).vacuum.blower s.quiet s.vacuum.economy := by
  rw [← (setBlower_sameStanding (blowerDue s) s).quiet, ← setBlower_economy (blowerDue s) s]
  rfl

/-- Settles O24: the table of the blower (R133), the conditions of the economy timer (R134), and what a review leaves as it
stood, by whether the blower changes. -/
theorem blowerFollowsTheTransports : Obligations.BlowerFollowsTheTransports := by
  intro s
  have hb := reviewVacuum_blower s
  refine ⟨reviewVacuum_settings s, fun hall => ?off, fun hall hm => ?normal, fun hall hm => ?economy, fun hall hm => ?auto,
    (reviewVacuum_economy s).trans (economyTimerFor_eq ..), reviewVacuum_of_blower_kept, reviewVacuum_of_blower_changed⟩
  case off => rw [hb, blowerDue, hall]; rfl
  case normal => rw [hb, blowerDue, hall, hm]; rfl
  case economy => rw [hb, blowerDue, hall, hm]; rfl
  case auto => rw [hb, blowerDue, hall, hm]; simp [blowerFor]

/-! ### SET VACUUM -/

theorem modeField_code (mode : VacuumMode) : modeField (BitVec.ofNat 8 mode.code) = some mode := by cases mode <;> rfl

/-- The body of SET VACUUM is read back as the mode and the three thresholds (R135, R187). -/
theorem serveSetVacuum_eq (h : Head) (mode : VacuumMode) (a b c : Byte) (s : State) :
    serveSetVacuum h [BitVec.ofNat 8 mode.code, a, b, c] s =
      if a.toNat < b.toNat ∧ b.toNat < c.toNat then
        done h [] (reviewVacuum (setThresholds mode a.toNat b.toNat c.toNat s))
      else refused h .badField s := by
  have hmode : modeField (byteAt [BitVec.ofNat 8 mode.code, a, b, c] 0) = some mode := modeField_code mode
  simp [serveSetVacuum, hmode, fieldAt]

/-- SET VACUUM past the checks of the Port Controller (R165). -/
theorem exec_setVacuum {h : Head} {b : List Byte} {s : State} (hu : h.unit = 255) (ht : s.Takes h.port b) :
    exec (.setVacuum h b) s = serveSetVacuum h b (s.counted h.port) :=
  partFrame_counted _ ht hu

/-- The DONE of a counted frame is all that its port sends, where nothing behind the count reaches the ports (R160). -/
theorem tx_sending_done {h : Head} {s w : State} (hw : w.ports = (s.counted h.port).ports)
    (hu : (s.port h.port).up = true) :
    ((sending (doneTo h) w).port h.port).tx = (s.port h.port).tx ++ [doneFrame h] := by
  have hport : w.port h.port = (s.counted h.port).port h.port := congrArg (fun x : PerPort Port => x.get h.port) hw
  have hup : (w.port h.port).up = true := by rw [hport, up_counted, hu]
  rw [port_sending, sent_up hup, doneTo, if_pos rfl, hport, tx_counted]

/-- Settles O15: an accepted SET VACUUM is the review of O24 under the new mode and thresholds, with the DONE behind it; by
whether the thresholds are in order (R133, R135). -/
theorem setVacuumSetsModeThresholdsAndBlower : Obligations.SetVacuumSetsModeThresholdsAndBlower := by
  intro h mode a b c s hunit ht
  have hup := up_of_ready ht.ready
  rw [exec_setVacuum hunit ht, serveSetVacuum_eq]
  split
  case isFalse => exact refused_counted hup .badField
  case isTrue =>
    let w : State := setThresholds mode a.toNat b.toNat c.toNat (s.counted h.port)
    obtain ⟨⟨hmode, hloss, hsag, hrun, hlast⟩, hoff, hnormal, heconomy, hauto, -, hkept, hchanged⟩ :=
      blowerFollowsTheTransports w
    have hstands := reviewVacuum_sameStanding w
    refine ⟨sending (doneTo h) (reviewVacuum w), by rw [done, respond_done_eq], hmode, hloss, hsag, hrun, hlast,
      (reviewVacuum_keeps w).tables, hstands.owners, hoff, fun hall => hnormal hall, fun hall => heconomy hall,
      fun hall => hauto hall, hchanged, fun hb => ?kept, ?tx⟩
    case kept =>
      have hvacuum : (reviewVacuum w).vacuum = { w.vacuum with economy := (reviewVacuum w).vacuum.economy } :=
        congrArg State.vacuum (hkept hb)
      exact ⟨(congrArg Vacuum.settle hvacuum :), (congrArg Vacuum.ready hvacuum :)⟩
    case tx =>
      rw [tx_sending_done hstands.ports hup, doneFrame, hunit]

end Sys2Proof.VacuumSupply
end

section
/-! SUPPORT. LOAD (R144 to R146, R156): the review of the blower beside a LOADING transport, the VACUUM step with READY false and with READY true, and the statement about LOAD and the panel LOAD. -/

namespace Sys2Proof.LoadSequence

open Sys2Proof Sys2Proof.Machine Sys2Proof.OrderQueue Sys2Proof.Resumption Sys2Proof.VacuumSupply

/-! ### The blower beside a LOADING transport -/

/-- A LOADING transport keeps the string from being all UNLOADED and from being quiet (R133). -/
theorem not_quiet_of_loading {s : State} {t : TransportId} (hc : (s.tr t).condition = .loading) :
    s.allUnloaded = false ∧ s.quiet = false := by
  have hall : s.allUnloaded = false := by
    refine Bool.eq_false_iff.mpr fun h => ?_
    have hu := (all_transportIds _).mp h t
    simp [hc] at hu
  refine ⟨hall, Bool.eq_false_iff.mpr fun h => ?_⟩
  rw [State.quiet, Bool.and_eq_true, all_transportIds] at h
  have hq := h.2 t
  simp [Transport.quiet, hc] at hq

/-- The state with the economy timer stopped (R134). -/
def economyStopped (s : State) : State := { s with vacuum := { s.vacuum with economy := none } }

/-- With the blower NORMAL and not in ECONOMY mode, a review beside a LOADING transport stops the economy timer and changes
no more (R133, R134). -/
theorem reviewVacuum_loading {s : State} {t : TransportId} (hc : (s.tr t).condition = .loading)
    (hb : s.vacuum.blower = .normal) (hm : s.vacuum.mode ≠ .economy) :
    reviewVacuum s = economyStopped s := by
  obtain ⟨hall, hquiet⟩ := not_quiet_of_loading hc
  have hdue : blowerDue s = .normal := by
    rw [blowerDue, hall, hquiet]
    cases hmode : s.vacuum.mode with
    | economy => exact absurd hmode hm
    | normal | auto => rfl
  have htimer : (reviewVacuum s).vacuum.economy = none := by
    rw [reviewVacuum_economy, economyTimerFor_eq, hquiet]
    simp
  rw [reviewVacuum_of_blower_kept (by rw [reviewVacuum_blower, hdue, hb]), htimer, economyStopped]

/-! ### The VACUUM step and DRAW -/

/-- The transport in the VACUUM step of a LOAD with this record (R144). -/
def inVacuumStep (tr : Transport) (o : Origin) (g : Byte) : Transport :=
  { tr with
    condition := .loading
    load := { idleLoad with sequence := .load, record := some { origin := o, tag := g }, step := some .vacuum
                            timer := some vacuumWait } }

/-- The transport in the DRAW step of a LOAD with this record (R146). -/
def inDraw (rec : ServoRecord) (tr : Transport) (o : Origin) (g : Byte) : Transport :=
  { tr with
    condition := .loading, brakesEngaged := false, valveOpen := true, sense := tr.sense.cleared
    servo := { tr.servo with
      reels := { file := idleReel rec.initialFile, machine := idleReel rec.initialMachine }, mode := .draw }
    load := { idleLoad with sequence := .load, record := some { origin := o, tag := g }, step := some .draw
                            timer := some (1000 * rec.drawLimit) } }

/-- Without READY the VACUUM step waits (R145). -/
theorem runTasks_vacuumStepTest_waits {s : State} {t : TransportId} (hr : s.vacuum.ready = false) (n : Nat)
    (l : List Task) : runTasks (n + 1) (.vacuumStepTest t :: l) s = runTasks n l s := by
  simp [handle, vacuumStepTest, hr, Reaction.idle]

section
variable (s : State) (t : TransportId) (o : Origin) (g : Byte)

/-- A LOAD enters its VACUUM step, the blower follows, and then READY is looked at (R144). -/
theorem finish_startLoad : finish (startLoad t o g s) =
    runTasks 4095 [.vacuumStepTest t] (reviewVacuum (s.setTr t (inVacuumStep (s.tr t) o g))) :=
  runTasks_vacuumReview (s.setTr t (inVacuumStep (s.tr t) o g)) 4095 [.vacuumStepTest t]

/-- DRAW start in the event of the LOAD's acceptance (R144, R146). -/
theorem drawStart_inVacuumStep :
    drawStart t (s.setTr t (inVacuumStep (s.tr t) o g)) = s.setTr t (inDraw (s.servoOf t) (s.tr t) o g) := by
  simp only [drawStart, State.tr_setTr_self, State.setTr_setTr, State.servoOf_setTr, ms, Nat.mul_comm _ 1000]
  rfl

variable {s}

/-- A LOAD that begins with READY false waits in its VACUUM step (R144). -/
theorem finish_startLoad_waits (hr : s.vacuum.ready = false) :
    finish (startLoad t o g s) = .next (reviewVacuum (s.setTr t (inVacuumStep (s.tr t) o g))) := by
  have hr' := (reviewVacuum_of_not_ready (s := s.setTr t (inVacuumStep (s.tr t) o g)) hr).2
  rw [finish_startLoad, runTasks_vacuumStepTest_waits hr', runTasks_nil]

/-- A LOAD that begins with READY true, and the blower to stay as it is, draws within the event (R144, R146). -/
theorem finish_startLoad_draws (hr : s.vacuum.ready = true) (hb : s.vacuum.blower = .normal)
    (hm : s.vacuum.mode ≠ .economy) :
    finish (startLoad t o g s) = .next (reviewVacuum (s.setTr t (inDraw (s.servoOf t) (s.tr t) o g))) := by
  let waiting : State := s.setTr t (inVacuumStep (s.tr t) o g)
  let drawing : State := s.setTr t (inDraw (s.servoOf t) (s.tr t) o g)
  have htr : (economyStopped waiting).tr t = inVacuumStep (s.tr t) o g := State.tr_setTr_self ..
  have hready : (economyStopped waiting).vacuum.ready = true := hr
  have hwaiting : reviewVacuum waiting = economyStopped waiting :=
    reviewVacuum_loading (congrArg Transport.condition htr) hb hm
  have hdrawing : reviewVacuum drawing = economyStopped drawing :=
    reviewVacuum_loading (t := t) (by rw [State.tr_setTr_self]; rfl) hb hm
  have hdraw : drawStart t (economyStopped waiting) = economyStopped drawing :=
    congrArg economyStopped (drawStart_inVacuumStep s t o g)
  rw [finish_startLoad, hwaiting, hdrawing, ← hdraw,
    runTasks_vacuumStepTest_draws (by rw [htr]; rfl) (by rw [htr]; rfl) hready, runTasks_nil]

end

/-! ### The statement about LOAD -/

/-- LOAD past the checks of the Port Controller (R144). -/
theorem exec_load {s : State} {h : Head} {t : TransportId} (ht : s.Takes h.port []) (hm : s.MayOrder h t) :
    exec (.load h) s = serveLoad h t (s.counted h.port) :=
  orderFrame_counted _ ht hm.toMaySend (.inl hm.online)

theorem loadReady_iff (tr : Transport) : tr.loadReady = true ↔
    tr.sense.coverOpen = false ∧ tr.lines.fileReel = true ∧ tr.lines.machineReel = true := by
  simp [Transport.loadReady, and_assoc]

/-- The refusals of LOAD in the order of R144. -/
theorem loadRefusal_eq (tables : Tables) (tr : Transport) : loadRefusal tables tr =
    if tr.condition = .faulted then some .faulted
    else if tr.condition ≠ .unloaded then some .busy
    else if tr.loadReady = false then some .notReady
    else if tables.profiles.get 0 = none then some .badProfile
    else none := by
  cases hc : tr.condition <;> simp [loadRefusal, hc]

/-- A LOAD that nothing refuses begins, for its sender (R144, R164). -/
theorem exec_load_begins {s : State} {h : Head} {t : TransportId} (ht : s.Takes h.port []) (hm : s.MayOrder h t)
    (hn : loadRefusal s.tables (s.tr t) = none) :
    exec (.load h) s = finish (startLoad t (.port h.port) h.tag ((s.setOwner t (some h.port)).counted h.port)) := by
  rw [exec_load ht hm, serveLoad, counted_tables, tr_counted, hn, reserveFor_eq (maySend_counted hm.toMaySend),
    setOwner_counted]

theorem exec_load_refused {s : State} {h : Head} {t : TransportId} {st : Status} (ht : s.Takes h.port [])
    (hm : s.MayOrder h t) (hr : loadRefusal s.tables (s.tr t) = some st) :
    exec (.load h) s = .next (s.turnedAway h st.code []) := by
  rw [exec_load ht hm, serveLoad, counted_tables, tr_counted, hr]
  exact refused_counted (up_of_ready ht.ready) st

/-- Settles O41: a LOAD from a port and one from the panel begin alike, by whether READY is true; the refusals by R144's
order. -/
theorem loadBeginsTheVacuumStep : Obligations.LoadBeginsTheVacuumStep := by
  intro h t s
  dsimp only
  refine ⟨fun ht hm => ?port, fun hoff hpresent hc hready hprofile => ?panel⟩
  case port =>
    have hbegins (hc : (s.tr t).condition = .unloaded) (hready : (s.tr t).loadReady = true)
        (hprofile : s.tables.profiles.get 0 ≠ none) := exec_load_begins ht hm (by
      simp [loadRefusal_eq, hc, hready, hprofile])
    refine ⟨fun hc hready hprofile hr => ?waits, fun hc hready hprofile ⟨hr, hb, hmode⟩ => ?draws,
      fun hc hready => ?notReady, fun hc hready hprofile => ?badProfile, fun hc => ?faulted, fun hc hf => ?busy⟩
    case waits =>
      rw [hbegins hc ((loadReady_iff _).mpr hready) hprofile]
      exact finish_startLoad_waits t _ _ hr
    case draws =>
      rw [hbegins hc ((loadReady_iff _).mpr hready) hprofile]
      exact finish_startLoad_draws t _ _ hr hb hmode
    case notReady =>
      rw [← loadReady_iff, Bool.not_eq_true] at hready
      exact exec_load_refused (st := .notReady) ht hm (by simp [loadRefusal_eq, hc, hready])
    case badProfile =>
      rw [← loadReady_iff] at hready
      exact exec_load_refused (st := .badProfile) ht hm (by simp [loadRefusal_eq, hc, hready, hprofile])
    case faulted => exact exec_load_refused (st := .faulted) ht hm (by simp [loadRefusal_eq, hc])
    case busy => exact exec_load_refused (st := .busy) ht hm (by simp [loadRefusal_eq, hc, hf])
  case panel =>
    have hbegins : exec (.panelLoadPress t) s = finish (startLoad t .panel 0 s) := by
      rw [← loadReady_iff] at hready
      refine if_pos ?_
      simp [Transport.panelHeard, hoff, hpresent, hc, hready, Option.isSome_iff_ne_none, hprofile]
    rw [hbegins]
    exact ⟨fun hr => finish_startLoad_waits t _ _ hr, fun ⟨hr, hb, hmode⟩ => finish_startLoad_draws t _ _ hr hb hmode⟩

end Sys2Proof.LoadSequence
end

section
/-! SUPPORT. The expiries of Load Control (R145, R146, R149, R155): what the end of a LOAD that fails and of an UNLOAD in WIND leaves, with their statement. -/

namespace Sys2Proof.LoadSequence

open Sys2Proof Sys2Proof.Machine Sys2Proof.OrderQueue

/-! ### Orders that end with the transport UNLOADED -/

/-- Behind an entry to UNLOADED a pending release takes effect, and the blower follows (R40, R133, R168). -/
theorem finish_unloaded {s : State} {t : TransportId} (hc : (s.tr t).condition = .unloaded) :
    finish { state := s, later := [.idleReport t, .vacuumReview] } = .next (reviewVacuum (s.relieved t)) := by
  refine (runTasks_idleReport (by simp [Transport.idle, hc]) 4095 [.vacuumReview]).trans ?_
  rw [runTasks_vacuumReview, runTasks_nil]

/-- The end of a LOAD from port `p` in one of its steps is answered there with the step (R149, R188). -/
theorem endLoadUnloaded_step {s : State} {t : TransportId} {p : PortId} {g : Byte}
    (hr : (s.tr t).load.record = some { origin := .port p, tag := g }) (st : Status) (x : LoadStep) :
    endLoadUnloaded t st (some x) s =
      { state := sending (fun q => if q = p then [s.ending t p none g st.code none none (some x)] else [])
          (s.setTr t (s.tr t).emptyMotion.unloaded)
        later := [.idleReport t, .vacuumReview] } := by
  have hplace : placeLoadEnding t st none (some x) s =
      sending (fun q => if q = p then [s.ending t p none g st.code none none (some x)] else []) s := by
    simp only [placeLoadEnding, hr, placeEnding_eq]
    refine sending_congr fun q => ?_
    by_cases hq : q = p
    · subst hq; simp
    · simp [hq, Ne.symm hq]
  simp only [endLoadUnloaded, hplace, enterUnloaded, tr_sending, setTr_sending, State.tr_setTr_self, State.setTr_setTr]

/-- The transport of an ended UNLOAD, its queue flushed, before it enters UNLOADED (R32, R155). -/
def unloadEnded (tr : Transport) : Transport :=
  { tr with
    queue := [], motion := none, engine := { tr.engine with workTop := none }
    load := if tr.load.sequence = .rewind ∨ tr.load.sequence = .unload then idleLoad else tr.load }

/-- An UNLOAD that is complete ends with one status and the records of the queue behind it with another (R155). -/
theorem completeUnload_ends {s : State} {t : TransportId} {m : Motion} (hm : (s.tr t).motion = some m) (st fl : Status) :
    completeUnload t st fl s =
      { state := sending (fun q => s.endingOf t q m st.code none ++ s.flushed t q fl.code none)
          ((s.orderGone t).setTr t (unloadEnded (s.tr t)).unloaded)
        later := [.idleReport t, .vacuumReview] } := by
  have hc : (s.tr t).current = some m := by simp [Transport.current, hm]
  simp only [completeUnload, endUnload, hc, finishOrder_eq, flush_eq, enterUnloaded, flushed_sending, flushed_orderGone,
    setTr_sending, sending_sending, tr_sending, State.tr_setTr_self, State.setTr_setTr, tr_orderGone]
  rfl

/-- What stands after an ending with the transport UNLOADED, before a pending release takes effect: the transport, the
frames on each port, and all else but the monitor as it was (R149, R155). -/
theorem unloaded_leaves {s : State} {t : TransportId} {x : Transport} (hx : (s.tr t).EntersUnloaded x.unloaded)
    (hm : x.motion = none) (mon : Monitor) (sent : PortId → List OutFrame) {w : State}
    (hw : w = sending sent ({ s.setTr t x.unloaded with monitor := mon } : State)) :
    (s.tr t).EntersUnloaded (w.tr t) ∧ (w.tr t).motion = none ∧ (∀ u, u ≠ t → w.tr u = s.tr u) ∧
      w.owners = s.owners ∧ w.tables = s.tables ∧ w.arbiter = s.arbiter ∧ w.vacuum = s.vacuum ∧
      ∀ q, w.port q = { s.port q with tx := (s.port q).tx ++ if (s.port q).up then sent q else [] } := by
  have htr : w.tr t = x.unloaded := by rw [hw, tr_sending, State.tr_monitor, State.tr_setTr_self]
  refine ⟨by rwa [htr], by rw [htr]; exact hm, fun u hu => ?_, by rw [hw]; rfl, by rw [hw]; rfl, by rw [hw]; rfl,
    by rw [hw]; rfl, fun q => by rw [hw, port_sending]; rfl⟩
  rw [hw, tr_sending, State.tr_monitor, State.tr_setTr_ne _ _ hu]

/-! ### The statement about the expiries -/

section
variable {s : State} {t : TransportId} (htimer : (s.tr t).load.timer ≠ none)
include htimer

theorem exec_vacuumStepExpiry (hc : (s.tr t).condition = .loading) (hs : (s.tr t).load.step = some .vacuum) :
    exec (.vacuumStepExpiry t) s = finish (endLoadUnloaded t .loadFailed (some .vacuum) s) :=
  if_pos (by simp [hc, hs, Option.isSome_iff_ne_none, htimer])

theorem exec_drawLimitExpiry (hc : (s.tr t).condition = .loading) (hs : (s.tr t).load.step = some .draw) :
    exec (.drawLimitExpiry t) s = finish (endLoadUnloaded t .loadFailed (some .draw) s) :=
  if_pos (by simp [hc, hs, Option.isSome_iff_ne_none, htimer])

theorem exec_unloadWindExpiry (hc : (s.tr t).condition = .unloading) :
    exec (.unloadWindExpiry t) s = finish (completeUnload t .done .notLoaded s) :=
  if_pos (by simp [hc, Option.isSome_iff_ne_none, htimer])

end

/-- Settles O56: the two failing steps of a LOAD alike, and the end of WIND. -/
theorem loadAndUnloadExpiries : Obligations.LoadAndUnloadExpiries := by
  intro t p s htimer
  dsimp only
  refine ⟨fun g hc hrecord => ?load, fun m hc hm hkind horigin => ?wind⟩
  case load =>
    have hfails (x : LoadStep) := unloaded_leaves (t := t) (x := (s.tr t).emptyMotion)
      (entersUnloaded_unloaded rfl ⟨rfl, rfl, rfl, rfl, rfl⟩) rfl s.monitor
      (fun q => if q = p then [s.ending t p none g 0x2B none none (some x)] else []) rfl
    refine ⟨fun hs => ?vacuum, fun hs => ?draw⟩
    case vacuum =>
      rw [exec_vacuumStepExpiry htimer hc hs, endLoadUnloaded_step hrecord, finish_unloaded (by simp)]
      exact ⟨_, rfl, hfails .vacuum⟩
    case draw =>
      rw [exec_drawLimitExpiry htimer hc hs, endLoadUnloaded_step hrecord, finish_unloaded (by simp)]
      exact ⟨_, rfl, hfails .draw⟩
  case wind =>
    have hending : ∀ q, s.endingOf t q m 0 none =
        if q = p then [s.ending t p m.arrivalUnit m.tag 0 none none none] else [] := fun q => by
      by_cases hq : q = p
      · subst hq; simp [State.endingOf, horigin, hkind]
      · simp [State.endingOf, horigin, hq, Ne.symm hq]
    rw [exec_unloadWindExpiry htimer hc, completeUnload_ends hm, finish_unloaded (by simp)]
    refine ⟨_, rfl, by simp [unloadEnded, Transport.unloaded], ?_⟩
    refine unloaded_leaves (x := unloadEnded (s.tr t)) (entersUnloaded_unloaded rfl ⟨rfl, rfl, rfl, rfl, rfl⟩) rfl
      (s.orderGone t).monitor _ ?_
    rw [setTr_orderGone]
    exact sending_congr fun q => congrArg (· ++ _) (hending q)

end Sys2Proof.LoadSequence
end

section
/-! SUPPORT. The BOT search limit (R148, R153): what it does to the search of a LOAD and to a FORWARD CREEP by phase, with its statement. -/

namespace Sys2Proof.LoadSequence

open Sys2Proof Sys2Proof.Machine Sys2Proof.OrderQueue Sys2Proof.RampEngine

/-! ### The search limit by phase -/

/-- The BOT search limit counts for the order `m`: the transport is in the search of a LOAD, or in a FORWARD CREEP that has
not found BOT (R148, R153). -/
def Searches (tr : Transport) (m : Motion) : Prop :=
  (tr.condition = .loading ∧ tr.load.step = some .search) ∨
    (tr.condition = .loaded ∧ tr.load.step = some .forwardCreep ∧ m.endReason ≠ some .bot)

/-- The transport with the search outcome LIMIT (R148). -/
def limited (tr : Transport) : Transport := { tr with load := { tr.load with outcome := .limit } }

/-- An ending with nothing left in the queue, and what an idle transport does behind it (R32, R40). -/
theorem finish_afterEnding {s : State} {t : TransportId} (hc : (s.tr t).condition = .loaded)
    (hp : (s.tr t).phase = .stopped) (hq : (s.tr t).queue = []) :
    finish (afterEnding t s) = .next (reviewVacuum (s.relieved t)) := by
  refine (runTasks_takeTest_empty hq 4095 [.idleReport t, .vacuumReview]).trans ?_
  rw [runTasks_idleReport (idle_of_stopped hc hp hq), runTasks_vacuumReview, runTasks_nil]

section
variable (m : Motion) {t : TransportId} {w : State}

/-- In ACCEL and CRUISE a decided search decelerates without an end reason (R148, R153). -/
theorem decided_decelerates (hp : (w.tr t).phase = .accel ∨ (w.tr t).phase = .cruise) :
    searchDecided t w = beginDecel t .decel w ∧ creepLimited t m w = beginDecel t .decel w := by
  obtain hp | hp := hp <;> simp [searchDecided, creepLimited, hp, decelWithoutReason]

/-- In a deceleration and in HELD a decided search goes on as it stands (R148, R153). -/
theorem decided_noted (hp : (w.tr t).phase = .decel ∨ (w.tr t).phase = .holdDecel ∨ (w.tr t).phase = .held) :
    searchDecided t w = Reaction.idle w ∧ creepLimited t m w = Reaction.idle w := by
  obtain hp | hp | hp := hp <;> simp [searchDecided, creepLimited, hp]

/-- In a waiting phase a decided search ends at once, its request withdrawn (R148, R153, log 17). -/
theorem decided_ends (hp : (w.tr t).phase = .waitVacuum ∨ (w.tr t).phase = .waitGrant)
    (hg : (w.tr t).engine.grant ≠ .held) :
    searchDecided t w = endLoadLoaded t (w.tr t).load.outcome.status (w.withdrawn t) ∧
      creepLimited t m w = endOrder t m .noBot (w.withdrawn t) := by
  have hgive : (giveUpGrant t w).state = w.withdrawn t := by rw [giveUpGrant_of_not_held hg]; rfl
  obtain hp | hp := hp <;> simp [searchDecided, creepLimited, hp, hgive]

end

section
variable {s : State} {t : TransportId} {m : Motion} (hm : (s.tr t).current = some m)
include hm

/-- Outside a search, and where an outcome stands, the search limit changes nothing (R148, R153, log 36). -/
theorem searchLimitReached_idle (h : ¬ Searches (s.tr t) m ∨ (s.tr t).load.outcome ≠ .none) :
    searchLimitReached t s = Reaction.idle s := by
  obtain hn | ho := h
  · obtain ⟨hload, hcreep⟩ := not_or.mp hn
    simp only [searchLimitReached, hm, Transport.searching, Bool.and_eq_true, beq_iff_eq, bne_iff_ne, and_assoc, hload,
      hcreep, if_false, ite_self]
  · simp [searchLimitReached, hm, ho]

/-- A search without an outcome gets the outcome LIMIT, and the phase decides what comes of it (R148, R153). -/
theorem searchLimitReached_limits (hs : Searches (s.tr t) m) (ho : (s.tr t).load.outcome = .none) :
    searchLimitReached t s =
      if (s.tr t).condition = .loading then searchDecided t (s.setTr t (limited (s.tr t)))
      else creepLimited t m (s.setTr t (limited (s.tr t))) := by
  obtain ⟨hc, hstep⟩ | ⟨hc, hstep, hbot⟩ := hs
  · simp [searchLimitReached, hm, ho, Transport.searching, hc, hstep, setOutcome, limited]
  · simp [searchLimitReached, hm, ho, Transport.searching, hc, hstep, hbot, setOutcome, limited]

variable (hs : Searches (s.tr t) m) (ho : (s.tr t).load.outcome = .none)
include hs ho

/-- In ACCEL and CRUISE the limit begins a deceleration (R148, R153). -/
theorem searchLimitReached_decelerates (hp : (s.tr t).phase = .accel ∨ (s.tr t).phase = .cruise) :
    searchLimitReached t s = beginDecel t .decel (s.setTr t (limited (s.tr t))) := by
  obtain ⟨hload, hcreep⟩ := decided_decelerates m (w := s.setTr t (limited (s.tr t))) (t := t)
    (by rwa [State.tr_setTr_self])
  rw [searchLimitReached_limits hm hs ho, hload, hcreep, ite_self]

/-- In a deceleration and in HELD the outcome is all that the limit changes (R148, R153). -/
theorem searchLimitReached_noted
    (hp : (s.tr t).phase = .decel ∨ (s.tr t).phase = .holdDecel ∨ (s.tr t).phase = .held) :
    searchLimitReached t s = Reaction.idle (s.setTr t (limited (s.tr t))) := by
  obtain ⟨hload, hcreep⟩ := decided_noted m (w := s.setTr t (limited (s.tr t))) (t := t) (by rwa [State.tr_setTr_self])
  rw [searchLimitReached_limits hm hs ho, hload, hcreep, ite_self]

/-- In a waiting phase the LOAD or the order ends NO BOT (R148, R153, log 17). -/
theorem searchLimitReached_ends (hp : (s.tr t).phase = .waitVacuum ∨ (s.tr t).phase = .waitGrant)
    (hg : (s.tr t).engine.grant ≠ .held) : searchLimitReached t s =
      if (s.tr t).condition = .loading then endLoadLoaded t .noBot ((s.setTr t (limited (s.tr t))).withdrawn t)
      else endOrder t m .noBot ((s.setTr t (limited (s.tr t))).withdrawn t) := by
  obtain ⟨hload, hcreep⟩ := decided_ends m (w := s.setTr t (limited (s.tr t))) (t := t) (by rwa [State.tr_setTr_self])
    (by rwa [State.tr_setTr_self])
  rw [State.tr_setTr_self] at hload
  rw [searchLimitReached_limits hm hs ho, hload, hcreep]
  rfl

end

/-! ### The statement about the search limit -/

section
variable {s : State} {t : TransportId} {x : Transport}

/-- A LOAD that waits ends LOADED, with an empty queue, once the transport has changed to `x` and its request is withdrawn
(R148, R149). -/
theorem finish_endLoadLoaded_withdrawn (st : Status) (hs : x.hold.slot1 = .free) (hq : x.queue = [])
    (hp : x.sense.position = (s.tr t).sense.position) (hl : x.load.record = (s.tr t).load.record) :
    ∃ w : State, finish (endLoadLoaded t st ((s.setTr t x).withdrawn t)) = .next (reviewVacuum (w.relieved t)) ∧
      w = { ((s.setTr t x).withdrawn t).loadEnded t st.code with ports := w.ports } ∧
      ∀ q, w.port q = (s.port q).sent ((s.loadMarked t st.code).loadEnding t q st.code none) := by
  let u : State := (s.setTr t x).withdrawn t
  have hu : u.tr t = { x with engine := { x.engine with
      grant := if x.engine.grant = .requested then .none else x.engine.grant } } := by
    simp only [u, tr_withdrawn, State.tr_setTr_self]
  have hports : u.ports = s.ports := withdrawn_ports ..
  have hframes : ∀ q, (u.loadMarked t st.code).loadEnding t q st.code none =
      (s.loadMarked t st.code).loadEnding t q st.code none := fun q => by
    rw [loadMarked_eq, loadMarked_eq]
    refine loadEnding_congr _ _ ?_ ?_ (fun r => ?_) q _ none
    · rw [State.tr_setTr_self, State.tr_setTr_self]
      exact marked_position (by rw [hu]; exact hp) _
    · rw [State.tr_setTr_self, State.tr_setTr_self, (marked_keeps _ _).2, (marked_keeps _ _).2, hu]
      exact hl
    · rw [State.port_setTr, State.port_setTr, State.port, hports, State.port]
  rw [endLoadLoaded_eq (by rw [hu]; exact hs), finish_afterEnding]
  · refine ⟨_, rfl, rfl, fun q => ?_⟩
    rw [port_sending, hframes, State.loadEnded, loadMarked_eq, State.port_setTr, State.port_setTr, State.port, hports,
      State.port]
  · rw [tr_sending, State.loadEnded, State.tr_setTr_self]
  · rw [tr_sending, State.loadEnded, State.tr_setTr_self]
  · rw [tr_sending, State.loadEnded, State.tr_setTr_self, loadMarked_eq, State.tr_setTr_self]
    exact (marked_keeps _ _).1.trans (by rw [hu]; exact hq)

theorem orderGone_setPhase (u : State) (t : TransportId) (p : Phase) :
    (u.orderGone t).setPhase t p = (u.setPhase t p).orderGone t := by
  rw [State.setPhase, setTr_orderGone, tr_orderGone]
  simp only [State.orderGone, State.setPhase, State.tr_setTr_self, State.setTr_setTr]
  rfl

/-- An order that waits ends, with an empty queue, once the transport has changed to `x` and its request is withdrawn (R30,
R153). -/
theorem finish_endOrder_withdrawn (m : Motion) (st : Status) (hc : x.condition = .loaded) (hq : x.queue = [])
    (hp : x.sense.position = (s.tr t).sense.position) :
    ∃ w : State, finish (endOrder t m st ((s.setTr t x).withdrawn t)) = .next (reviewVacuum (w.relieved t)) ∧
      w = { (((s.setTr t x).withdrawn t).setPhase t .stopped).orderGone t with ports := w.ports } ∧
      ∀ q, w.port q = (s.port q).sent (s.endingOf t q m st.code none) := by
  simp only [endOrder_eq, orderGone_setPhase, endingOf_withdrawn, endingOf_setTr s t _ m _ none hp]
  rw [finish_afterEnding]
  · refine ⟨_, rfl, rfl, fun q => ?_⟩
    rw [port_sending, State.port, orderGone_ports, State.setPhase, State.setTr_ports, withdrawn_ports]
    rfl
  · simp [State.setPhase, hc]
  · simp [State.setPhase]
  · simp [State.setPhase, hq]

end

/-- Settles O57: by phase what the outcome LIMIT brings, for the search of a LOAD and a FORWARD CREEP alike, and where
nothing happens. -/
theorem searchLimitDecidesTheSearch : Obligations.SearchLimitDecidesTheSearch := by
  intro t m s hm
  dsimp only
  rw [show exec (.searchLimitReached t) s = finish (searchLimitReached t s) from rfl]
  refine ⟨fun hs ho hp hf => ?decelerates, fun hs ho hp => ?noted, fun hs ho hp hg _ h1 hq => ?ends, fun h => ?idle⟩
  case decelerates =>
    have hfree : (s.setTr t (limited (s.tr t))).FreeToLetGo t := freeToLetGo_setTr hf rfl
    rw [searchLimitReached_decelerates hm hs ho hp, finish_beginDecel hfree, setPhase_setTr]
    rfl
  case noted =>
    rw [searchLimitReached_noted hm hs ho hp, finish_idle]
    rfl
  case ends =>
    rw [searchLimitReached_ends hm hs ho hp hg]
    by_cases hc : (s.tr t).condition = .loading
    · simp only [if_pos hc]
      exact finish_endLoadLoaded_withdrawn (x := limited (s.tr t)) .noBot h1 hq rfl rfl
    · have hloaded : (s.tr t).condition = .loaded := (hs.resolve_left fun h => hc h.1).1
      simp only [if_neg hc]
      exact finish_endOrder_withdrawn (x := limited (s.tr t)) m .noBot hloaded hq rfl
  case idle => rw [searchLimitReached_idle hm h, finish_idle]

end Sys2Proof.LoadSequence
end

section
/-! SUPPORT. The links (R158 to R160, R162, R169, R183): frames that are not taken, carriers, transmissions and received bytes, with the statements about them. -/

namespace Sys2Proof.PortControl

open Sys2Proof Sys2Proof.Machine Sys2Proof.OrderQueue Sys2Proof.FaultReports

/-! ### Frames that are not taken -/

section
variable {p : PortId} {s : State}

theorem arrival_down (b : List Byte) (serve : State → Result) (hd : (s.port p).up = false) :
    arrival p b serve s = .next s := by simp [arrival, hd]

theorem arrival_held (b : List Byte) (serve : State → Result) (hh : s.resetHold ≠ none) :
    arrival p b serve s = .next s := by simp [arrival, Option.isSome_iff_ne_none.mpr hh]

/-- With receive-ready low an UP port counts a check error for any frame (R159). -/
theorem arrival_full (b : List Byte) (serve : State → Result) (hu : (s.port p).up = true) (hh : s.resetHold = none)
    (hf : 16 ≤ (s.port p).tx.length) : arrival p b serve s = .next (countCheckError p s) := by
  have hlow : s.receiveReady p = false := by
    simp [State.receiveReady, readyLowAt, Nat.not_lt.mpr hf]
  simp [arrival, hu, hh, hlow]

end

theorem partFrame_isArrival {r : State → Result} {h : Head} {b : List Byte} {serve : State → Result}
    (hr : ∀ s, r s = partFrame h b serve s) : ∃ checked, ∀ s, r s = arrival h.port b checked s := ⟨_, hr⟩

/-- Every frame command is an arrival on its port. -/
theorem exec_isArrival {c : Instr} {p : PortId} (hc : c.framePort? = some p) :
    ∃ b serve, ∀ s, exec c s = arrival p b serve s := by
  cases c with
  | move h b | rewind h b | selectProfile h b | loadServo h b =>
    obtain rfl : h.port = p := Option.some.inj hc
    exact ⟨b, _, fun _ => rfl⟩
  | unload h | load h | stop h | halt h | pause h | continueOrder h | reserve h | release h | forceRelease h
  | clearFault h | sense h | readSnapshot h | readServo h =>
    obtain rfl : h.port = p := Option.some.inj hc
    exact ⟨[], _, fun _ => rfl⟩
  | loadProfile h b | readProfile h b | lockBank h b | setUnitMap h b | setVacuum h b | setGrantLimit h b
  | setMonitor h b | readCounters h b =>
    obtain rfl : h.port = p := Option.some.inj hc
    exact ⟨b, partFrame_isArrival fun _ => rfl⟩
  | readUnitMap h | senseString h | readMonitor h | partReset h =>
    obtain rfl : h.port = p := Option.some.inj hc
    simp only [exec, execReadUnitMap, execSenseString, execReadMonitor, execPartReset]
    exact ⟨[], partFrame_isArrival fun _ => rfl⟩
  | unknownCodeFrame h k x =>
    obtain rfl : h.port = p := by cases k <;> exact Option.some.inj hc
    exact ⟨[], _, fun _ => rfl⟩
  | _ => exact absurd hc nofun

/-- Settles O25: every frame goes through the checks of its arrival (R158, R159, R162, R170); a failing one is counted
whatever receive-ready is. -/
theorem framesNotTakenOnlyCountAnError : Obligations.FramesNotTakenOnlyCountAnError := by
  intro p s
  dsimp only
  refine ⟨fun c hc => ?_, fun d => ⟨fun hd => ?_, fun hh => ?_, fun hu hh => ?_⟩⟩
  · obtain ⟨b, serve, he⟩ := exec_isArrival hc
    rw [he]
    exact ⟨arrival_down b serve, arrival_held b serve, arrival_full b serve⟩
  · simp [exec, execFrameCheckFailure, hd]
  · simp [exec, execFrameCheckFailure, Option.isSome_iff_ne_none.mpr hh]
  · rw [show exec (.frameCheckFailure p d) s = .next (countCheckError p s) by simp [exec, execFrameCheckFailure, hu, hh]]
    rfl

/-! ### Carriers -/

/-- The RESERVATION LOST attention for transport `t` under this unit map (R169, R186). -/
def lostFrame (map : Vector (Option TransportId) 16) (t : TransportId) : OutFrame :=
  { kind := .attention, unit := lowestUnit map t, tag := 0, code := 4, body := [transportByte t] }

/-- An attention to an UP port with room joins its queue (R161). -/
theorem attend_reservationLost {p : PortId} {s : State} (hu : (s.port p).up = true) (hh : s.resetHold = none)
    (hroom : (s.port p).tx.length < 16) (t : TransportId) : attend p t .reservationLost [] s =
      s.setPort p { s.port p with tx := (s.port p).tx ++ [lostFrame (s.port p).unitMap t] } := by
  simp [attend, hh, hu, readyLowAt, hroom, place, lostFrame, AttentionKind.code]

/-- Attentions for several transports join the queue in their order, where the queue has room for all. -/
theorem foldl_attend_reservationLost {p : PortId} (ts : List TransportId) {s : State} (hu : (s.port p).up = true)
    (hh : s.resetHold = none) (hroom : (s.port p).tx.length + ts.length ≤ 16) :
    ts.foldl (fun w t => attend p t .reservationLost [] w) s =
      s.setPort p { s.port p with tx := (s.port p).tx ++ ts.map (lostFrame (s.port p).unitMap) } := by
  induction ts generalizing s with
  | nil => rw [List.foldl_nil, List.map_nil, List.append_nil, State.setPort_port]
  | cons t ts ih =>
    rw [List.length_cons] at hroom
    rw [List.foldl_cons, attend_reservationLost hu hh (by omega), ih]
    · simp [setPort_setPort]
    · simpa using hu
    · exact hh
    · simp; omega

theorem map_filter_eq_flatMap {α β : Type} (q : α → Bool) (f : α → β) (l : List α) :
    (l.filter q).map f = l.flatMap (fun x => if q x then [f x] else []) := by
  induction l with
  | nil => rfl
  | cons x l ih => cases hx : q x <;> simp [hx, ih]

/-- CARRIER_UP at a DOWN port: the held attentions stand in its empty queue, T0 first (R158, R169). -/
theorem exec_carrierUp {p : PortId} {s : State} (hd : (s.port p).up = false) (hh : s.resetHold = none) :
    exec (.carrierUp p) s = .next (s.setPort p { s.port p with
      up := true, rx := none, heldLost := Quad.all false
      tx := transportIds.flatMap fun t =>
        if (s.port p).heldLost.get t then [lostFrame (s.port p).unitMap t] else [] }) := by
  have hroom : (transportIds.filter fun t => (s.port p).heldLost.get t).length ≤ 4 := List.length_filter_le ..
  simp only [exec, execCarrierUp, hd, placeHeld, State.port_setPort_self, Bool.false_eq_true, if_false]
  rw [foldl_attend_reservationLost _ (by simp) (by exact hh) (by simp; omega)]
  simp [setPort_setPort, map_filter_eq_flatMap]

/-! ### Received bytes -/

theorem foldl_receive_down {p : PortId} {s : State} (hd : (s.port p).up = false) (bytes : List Byte) :
    bytes.foldl (fun u b => u.receive p b) s = s := by
  induction bytes with
  | nil => rfl
  | cons x rest ih => rw [List.foldl_cons, State.receive_down hd, ih]

/-- Bytes on an UP port go through its receiver one after another (R183). -/
theorem foldl_receive_up {p : PortId} (bytes : List Byte) {s : State} (hu : (s.port p).up = true) :
    bytes.foldl (fun u b => u.receive p b) s =
      { s.setPort p { s.port p with rx := (receiveBytes p (s.port p).rx bytes).1 } with
        pending := s.pending ++ (receiveBytes p (s.port p).rx bytes).2 } := by
  induction bytes generalizing s with
  | nil =>
    simp only [List.foldl_nil, receiveBytes, List.append_nil]
    exact (State.setPort_port s p).symm
  | cons x rest ih =>
    have hport : (s.receive p x).port p = { s.port p with rx := (receiveByte p (s.port p).rx x).1 } := by
      rw [State.receive_up hu]
      exact State.port_setPort_self ..
    rw [List.foldl_cons, ih (by rw [hport]; exact hu), hport, State.receive_up hu]
    simp [receiveBytes, State.setPort]

/-- Settles O60: carriers, transmissions and received bytes (R158, R160, R169, R183). -/
theorem carrierAndTransmissionEnd : Obligations.CarrierAndTransmissionEnd := by
  intro p s
  dsimp only
  refine ⟨fun hd hh => ?up, fun hu => ⟨?down, ?ended, ?stands⟩, fun hd => ⟨?downAlready, ?noTransmission⟩,
    fun bytes => ?bytes⟩
  case up =>
    rw [exec_carrierUp hd hh]
    simp [transportIds, lostFrame, Quad.all]
  case down => simp [exec, execCarrierDown, hu]
  case ended => simp [exec, execTransmissionEnd, hu]
  case stands => simp [exec, execCarrierUp, hu]
  case downAlready => simp [exec, execCarrierDown, hd]
  case noTransmission => simp [exec, execTransmissionEnd, hd]
  case bytes =>
    split
    case isTrue hu => exact foldl_receive_up bytes hu
    case isFalse hd => exact foldl_receive_down (by simpa using hd) bytes

end Sys2Proof.PortControl
end

section
/-! SUPPORT. Part-wide requests of the Port Controller: the unit map (R166) and PART RESET with its hold (R170), with the statements about them. -/

namespace Sys2Proof.PortControl

open Sys2Proof Sys2Proof.Machine Sys2Proof.OrderQueue Sys2Proof.FaultReports

/-! ### Unit maps -/

theorem mapEntry_unitEntry (x : Option TransportId) : mapEntry (unitEntry x) = some x := by
  cases x with
  | none => rfl
  | some t => cases t <;> rfl

theorem length_unitMapBytes (m : Vector (Option TransportId) 16) : (unitMapBytes m).length = 16 := by simp [unitMapBytes]

/-- The bytes of a unit map are read back as the map (R166, R185). -/
theorem mapRecord_unitMapBytes (m : Vector (Option TransportId) 16) : mapRecord (unitMapBytes m) = some m := by
  have htake : (unitMapBytes m).take 16 = unitMapBytes m := List.take_of_length_le (length_unitMapBytes m).le
  have hall : (unitMapBytes m).all (fun x => (mapEntry x).isSome) = true := by
    simp [unitMapBytes, mapEntry_unitEntry]
  have hbyte : ∀ i : Fin 16, byteAt (unitMapBytes m) i.val = unitEntry m[i] := fun i => by simp [byteAt, unitMapBytes]
  rw [mapRecord, htake, hall, length_unitMapBytes]
  simp only [hbyte, mapEntry_unitEntry, Option.getD_some, decide_true, Bool.and_self, if_true]
  refine congrArg some (Vector.ext fun i hi => ?_)
  simp

theorem setMap_counted (p : PortId) (m : Vector (Option TransportId) 16) (s : State) :
    setMap p m (s.counted p) = (s.setPort p { s.port p with unitMap := m }).counted p := by
  simp [setMap, State.counted, setPort_setPort]

theorem takes_empty {s : State} {p : PortId} {b : List Byte} (ht : s.Takes p b) : s.Takes p [] := ⟨ht.ready, Nat.zero_le _⟩

/-- Settles O14: the map is read back from its bytes and stored, and READ UNIT MAP answers with the bytes of the stored
one (R166). -/
theorem unitMapSetsAndReads : Obligations.UnitMapSetsAndReads := by
  intro h m s hunit ht
  have hu := up_of_ready ht.ready
  constructor
  · have hset : exec (.setUnitMap h (unitMapBytes m)) s = done h [] (setMap h.port m (s.counted h.port)) := by
      refine (partFrame_counted _ ht hunit).trans ?_
      rw [serveSetUnitMap, mapRecord_unitMapBytes]
    rw [hset, setMap_counted, done_counted (by rw [State.port_setPort_self]; exact hu)]
  · have hread : exec (.readUnitMap h) s = done h (unitMapBytes ((s.counted h.port).port h.port).unitMap) (s.counted h.port) :=
      partFrame_counted (fun s => done h (unitMapBytes (s.port h.port).unitMap) s) (takes_empty ht) hunit
    rw [hread, unitMap_counted, done_counted hu]

/-! ### PART RESET -/

/-- The count of the PART RESET's own frame does not outlast it (R170). -/
theorem partReset_counted (s : State) (p q : PortId) : ((s.counted p).port q).partReset = (s.port q).partReset := by
  rw [State.counted, State.port_setPort]
  split
  · subst q; rfl
  · rfl

/-- Settles O20: PART RESET writes every block anew (R170); what it keeps stands in the fields that it does not write. -/
theorem partResetLeavesThePartReset : Obligations.PartResetLeavesThePartReset := by
  intro h s hunit ht
  refine ⟨_, partFrame_counted _ ht hunit, fun t => ?transports, fun p => ?ports, rfl, rfl, rfl, rfl, rfl, rfl, fun p => ?low⟩
  case transports =>
    cases t <;> exact ⟨rfl, rfl, rfl, rfl, rfl, rfl, rfl, rfl, rfl, rfl, rfl, rfl, rfl, rfl, rfl, rfl, rfl, rfl, rfl, rfl⟩
  case ports =>
    cases p with
    | a => exact partReset_counted s h.port .a
    | b => exact partReset_counted s h.port .b
  case low => simp [State.receiveReady]

/-- Settles O21: the DONE of the PART RESET is placed in the state without the hold (R160, R170). -/
theorem partResetHoldExpiryAnswersDone : Obligations.PartResetHoldExpiryAnswersDone := by
  intro p g n s hs
  have hexpiry : exec .partResetHoldExpiry s = .next (place p
      { kind := .response, unit := 255, tag := g, code := 0, body := [] } { s with resetHold := none }) := by
    simp only [exec, execPartResetHoldExpiry, hs]
    rfl
  rw [hexpiry, place]
  rfl

end Sys2Proof.PortControl
end

section
/-! SUPPORT. The checks of the Port Controller in their order (R163 to R165): unit, ownership and OFFLINE, and what each refusal leaves, with the statements about them. -/

namespace Sys2Proof.PortControl

open Sys2Proof Sys2Proof.Machine Sys2Proof.OrderQueue Sys2Proof.FaultReports

/-- A counted frame that is refused with a body. -/
theorem refuse_counted {h : Head} {s : State} (hu : (s.port h.port).up = true) (st : Status) (b : List Byte) :
    refuse h st b (s.counted h.port) = s.turnedAway h st.code b := by
  have hc : ((countRefusal h.port (s.counted h.port)).port h.port).up = true := by
    simp [countRefusal, Port.setCounters, up_counted, hu]
  rw [refuse, respond_eq hc]
  rfl

/-- NOT OWNER at a counted frame: the rights violation beside the refusal (R164). -/
theorem refuseNotOwner_counted {h : Head} {s : State} (hu : (s.port h.port).up = true) (t : TransportId)
    (b : List Byte) :
    refuseNotOwner h t b (s.counted h.port) = (countRightsViolation t s).turnedAway h 0x20 b :=
  refuse_counted (s := countRightsViolation t s) hu .notOwner b

section
variable {h : Head} {b : List Byte} {s : State} (ht : s.Takes h.port b)
include ht

theorem arrival_counted (serve : State → Result) : arrival h.port b serve s = serve (s.counted h.port) :=
  arrival_taken serve ht.ready ht.fits

/-- A unit that names no present transport (R163, check 2). -/
theorem unitFrame_absent (ha : s.addressed h = none) (c : OrderClass) (serve : TransportId → State → Result) :
    unitFrame h c serve (s.counted h.port) = .next (s.turnedAway h 0x21 []) := by
  rw [unitFrame, show (s.counted h.port).addressed h = none from (countReceived_addressed ..).trans ha]
  exact refused_counted (up_of_ready ht.ready) .unitAbsent

/-- A transport that the other port owns (R163, check 3; R164). -/
theorem unitFrame_notOwner {t : TransportId} {c : OrderClass} (ha : s.addressed h = some t)
    (hc : c.passes (s.owner t) h.port = false) (serve : TransportId → State → Result) :
    unitFrame h c serve (s.counted h.port) = .next ((countRightsViolation t s).turnedAway h 0x20 []) := by
  rw [unitFrame, show (s.counted h.port).addressed h = some t from (countReceived_addressed ..).trans ha]
  simp only [owner_counted, hc, Bool.false_eq_true, if_false]
  rw [refuseNotOwner_counted (up_of_ready ht.ready)]

theorem orderFrame_absent (ha : s.addressed h = none) (c : OrderClass) (o : Bool)
    (serve : TransportId → State → Result) : orderFrame h b c o serve s = .next (s.turnedAway h 0x21 []) :=
  (arrival_counted ht _).trans (unitFrame_absent ht ha ..)

theorem servoFrame_absent (ha : s.addressed h = none) (c : OrderClass) (serve : TransportId → State → Result) :
    servoFrame h b c serve s = .next (s.turnedAway h 0x21 []) :=
  (arrival_counted ht _).trans (unitFrame_absent ht ha ..)

/-- An OFFLINE transport, for an order that is not served OFFLINE (R163, check 4). -/
theorem orderFrame_offline {t : TransportId} (hm : s.MaySend h t) (ho : (s.tr t).sense.offline = true) (c : OrderClass)
    (serve : TransportId → State → Result) : orderFrame h b c false serve s = .next (s.turnedAway h 0x22 []) := by
  have hm' := maySend_counted hm
  rw [orderFrame, arrival_counted ht, unitFrame_served _ hm'.names (passes_of_maySend hm' c)]
  simp only [tr_counted, ho, Bool.not_false, Bool.and_self, if_true]
  exact refused_counted (up_of_ready ht.ready) .offline

/-- A part-wide request to one unit (R165). -/
theorem partFrame_oneUnit (hu : h.unit ≠ 255) (serve : State → Result) :
    partFrame h b serve s = .next (s.turnedAway h 0x26 []) := by
  rw [partFrame, arrival_counted ht, if_neg hu]
  exact refused_counted (up_of_ready ht.ready) .badField

section
variable {t : TransportId} {p : PortId} (ha : s.addressed h = some t) (ho : s.owner t = some p) (hp : p ≠ h.port)
  {c : OrderClass} (hc : c = .reserving ∨ c = .ownerOrUnowned) (serve : TransportId → State → Result)
include ha ho hp hc

theorem orderFrame_notOwner (o : Bool) :
    orderFrame h b c o serve s = .next ((countRightsViolation t s).turnedAway h 0x20 []) :=
  (arrival_counted ht _).trans
    (unitFrame_notOwner ht ha (by obtain rfl | rfl := hc <;> simp [OrderClass.passes, ho, hp]) _)

theorem servoFrame_notOwner :
    servoFrame h b c serve s = .next ((countRightsViolation t s).turnedAway h 0x20 []) :=
  (arrival_counted ht _).trans
    (unitFrame_notOwner ht ha (by obtain rfl | rfl := hc <;> simp [OrderClass.passes, ho, hp]) _)

end

/-- RESERVE, RELEASE and FORCE RELEASE pass to their own rules, OFFLINE too (R163, R164). -/
theorem orderFrame_reservation {t : TransportId} (ha : s.addressed h = some t) (serve : TransportId → State → Result) :
    orderFrame h b .reservation true serve s = serve t (s.counted h.port) :=
  orderFrame_served serve ht.ready ht.fits ha rfl (.inr rfl)

end

/-- RESERVE of another's transport (R167). -/
theorem exec_reserve_notOwner {h : Head} {t : TransportId} {p : PortId} {s : State} (ht : s.Takes h.port [])
    (ha : s.addressed h = some t) (ho : s.owner t = some p) (hp : p ≠ h.port) :
    exec (.reserve h) s = .next ((countRightsViolation t s).turnedAway h 0x20 []) := by
  refine (orderFrame_reservation ht ha _).trans ?_
  simp only [serveReserve, owner_counted, ho, hp, if_false]
  rw [refuseNotOwner_counted (up_of_ready ht.ready)]

/-- Settles O26: the four refusals, each by the check that makes it, for every code alike (R163, R165). -/
theorem refusalsBeforeOwnership : Obligations.RefusalsBeforeOwnership := by
  intro h b s ht
  have h0 := takes_empty ht
  refine ⟨fun k x => ?unknown, fun ha => ?absent, fun t hm ho => ?offline, fun hu => ?oneUnit⟩
  case unknown => exact (arrival_counted h0 _).trans (refused_counted (up_of_ready ht.ready) .unknownCode)
  case absent =>
    have order := orderFrame_absent ht ha
    have bare := orderFrame_absent h0 ha
    simp only [List.forall_mem_cons]
    exact ⟨order .., order .., bare .., bare .., bare .., bare .., bare .., bare .., order .., bare .., bare .., bare ..,
      bare .., bare .., bare .., servoFrame_absent ht ha .., servoFrame_absent h0 ha .., nofun⟩
  case offline =>
    have order := orderFrame_offline ht hm ho
    have bare := orderFrame_offline h0 hm ho
    simp only [List.forall_mem_cons]
    exact ⟨order .., order .., bare .., bare .., bare .., bare .., order .., bare .., nofun⟩
  case oneUnit =>
    have request := partFrame_oneUnit ht hu
    have bare := partFrame_oneUnit h0 hu
    simp only [List.forall_mem_cons]
    exact ⟨request _, request _, request _, request _, bare _, request _, request _, bare _, request _, bare _,
      request _, bare _, nofun⟩

/-- Settles O27: the ownership check refuses every reserving order and every order of an owner alike; RESERVE refuses by its
own rule (R164, R167). -/
theorem notOwnerRefusedAndCounted : Obligations.NotOwnerRefusedAndCounted := by
  intro h b t p s ht ha ho hp
  have h0 := takes_empty ht
  have order {c} hc serve o := orderFrame_notOwner (c := c) ht ha ho hp hc serve o
  have bare {c} hc serve o := orderFrame_notOwner (c := c) h0 ha ho hp hc serve o
  simp only [List.forall_mem_cons]
  exact ⟨order (.inl rfl) .., order (.inl rfl) .., bare (.inl rfl) .., bare (.inl rfl) .., bare (.inr rfl) ..,
    bare (.inr rfl) .., bare (.inl rfl) .., bare (.inl rfl) .., order (.inl rfl) .., exec_reserve_notOwner h0 ha ho hp,
    bare (.inl rfl) .., servoFrame_notOwner ht ha ho hp (.inl rfl) _, nofun⟩

end Sys2Proof.PortControl
end

section
/-! SUPPORT. RESERVE and RELEASE (R167, R168): a pending release and its answer SUPERSEDED, the outstanding orders of a transport, and the statement about RELEASE. -/

namespace Sys2Proof.Reservation

open Sys2Proof Sys2Proof.Machine Sys2Proof.OrderQueue Sys2Proof.FaultReports Sys2Proof.PortControl

/-! ### A pending release that is superseded -/

/-- The frames that port `q` gets when the pending release of transport `t` is answered SUPERSEDED (R167, log 47). -/
def supersededFrames (s : State) (t : TransportId) (q : PortId) : List OutFrame :=
  match (s.tr t).release with
  | some g =>
    if g.port = q then
      [{ kind := .response, unit := lowestUnit (s.port q).unitMap t, tag := g.tag, code := 0x06, body := [transportByte t] }]
    else []
  | none => []

theorem sending_counted (f : PortId → List OutFrame) (s : State) (p : PortId) :
    sending f (s.counted p) = (sending f s).counted p := by cases p <;> rfl

theorem setRelease_none {s : State} {t : TransportId} (hr : (s.tr t).release = none) : s.setRelease t none = s := by
  rw [State.setRelease, ← hr]
  exact State.setTr_tr s t

theorem supersedeRelease_eq (t : TransportId) (s : State) :
    supersedeRelease t s = sending (supersededFrames s t) (s.setRelease t none) := by
  cases hr : (s.tr t).release with
  | none =>
    have hframes : supersededFrames s t = fun _ => [] := funext fun q => by simp [supersededFrames, hr]
    rw [hframes, sending_none, setRelease_none hr]
    simp [supersedeRelease, hr]
  | some g =>
    simp only [supersedeRelease, hr, answerRelease, place_eq]
    refine sending_congr fun q => ?_
    by_cases hq : q = g.port
    · subst hq; simp [supersededFrames, hr, State.setRelease, Status.code]
    · simp [supersededFrames, hr, hq, Ne.symm hq]

theorem supersededFrames_congr {s w : State} {t : TransportId} (hr : (w.tr t).release = (s.tr t).release)
    (hm : ∀ q, (w.port q).unitMap = (s.port q).unitMap) : supersededFrames w t = supersededFrames s t := by
  funext q
  simp only [supersededFrames, hr, hm]

theorem supersedeRelease_counted (t : TransportId) (s : State) (p : PortId) :
    supersedeRelease t (s.counted p) = (supersedeRelease t s).counted p := by
  rw [supersedeRelease_eq, supersedeRelease_eq, supersededFrames_congr (s := s) (w := s.counted p) rfl (unitMap_counted s p),
    ← sending_counted]
  rfl

@[simp] theorem tr_supersedeRelease (t : TransportId) (s : State) :
    (supersedeRelease t s).tr t = { s.tr t with release := none } := by
  rw [supersedeRelease_eq, tr_sending, State.setRelease, State.tr_setTr_self]

theorem up_supersedeRelease (t : TransportId) (s : State) (q : PortId) :
    ((supersedeRelease t s).port q).up = (s.port q).up := by
  rw [supersedeRelease_eq, port_sending]
  rfl

/-! ### RELEASE -/

theorem idle_iff (tr : Transport) : tr.idle = true ↔ tr.condition = .unloaded ∨ tr.condition = .faulted ∨
    (tr.condition = .loaded ∧ tr.phase = .stopped ∧ tr.queue = []) := by
  simp [Transport.idle, or_assoc, and_assoc]

theorem outstanding_eq (tr : Transport) : tr.outstanding =
    tr.queue.length + if tr.motion.isSome ∨ tr.condition = .loading ∨ tr.hold.slot1.order.isSome then 1 else 0 := by
  have hcurrent : tr.current.isSome = (tr.motion.isSome || tr.hold.slot1.order.isSome) := by
    cases hm : tr.motion <;> cases hs : tr.hold.slot1 <;> simp [Transport.current, hm, hs, Slot1.order]
  have hbusy : (tr.current.isSome || tr.condition == .loading) = true ↔
      tr.motion.isSome ∨ tr.condition = .loading ∨ tr.hold.slot1.order.isSome := by
    simp only [hcurrent, Bool.or_eq_true, beq_iff_eq]
    tauto
  rw [Transport.outstanding, Bool.toNat, Bool.cond_eq_ite]
  simp only [hbusy]

/-- RELEASE from the owner is judged by the transport after an earlier one is superseded (R167). -/
theorem releaseOwned_counted (h : Head) (t : TransportId) (s : State) : releaseOwned h t (s.counted h.port) =
    if (s.tr t).idle then done h [transportByte t] (((supersedeRelease t s).setOwner t none).counted h.port)
    else if 7 ≤ (s.tr t).outstanding then
      .next (refuse h .busy [transportByte t] ((supersedeRelease t s).counted h.port))
    else .next (((supersedeRelease t s).setRelease t (some { port := h.port, tag := h.tag })).counted h.port) := by
  simp only [releaseOwned, supersedeRelease_counted, tr_counted, tr_supersedeRelease]
  rfl

/-- Settles O35: RELEASE by who owns the transport, and from its owner by what the transport has outstanding (R167, R168). -/
theorem releaseAnswersOrWaits : Obligations.ReleaseAnswersOrWaits := by
  intro h t s ht ha u busy idle
  have hup := up_of_ready ht.ready
  have hup' : ((supersedeRelease t s).port h.port).up = true := by rw [up_supersedeRelease, hup]
  have hu : u = supersedeRelease t s := by
    cases hr : (s.tr t).release with
    | none => simp only [u, hr, supersedeRelease]
    | some g =>
      simp only [u, hr, supersedeRelease, answerRelease, place_eq, sending_eq_setPort]
      rfl
  have hbusy : busy = (s.tr t).outstanding := (outstanding_eq _).symm
  have hidle : idle ↔ (s.tr t).idle = true := (idle_iff _).symm
  have hserved : exec (.release h) s = serveRelease h t (s.counted h.port) := orderFrame_reservation ht ha _
  have howned : s.owner t = some h.port → exec (.release h) s = releaseOwned h t (s.counted h.port) := fun ho => by
    rw [hserved]; simp [serveRelease, ho]
  rw [hu, hbusy, hidle]
  refine ⟨fun ho => ?unowned, fun ho hi => ?atOnce, fun ho hi hb => ?refused, fun ho hi hb => ?waits, fun p ho hp => ?other⟩
  case unowned =>
    rw [hserved, serveRelease, owner_counted, ho]
    exact done_counted hup _
  case atOnce =>
    rw [howned ho, releaseOwned_counted, if_pos hi]
    exact done_counted (s := (supersedeRelease t s).setOwner t none) hup' _
  case refused =>
    rw [howned ho, releaseOwned_counted, if_neg hi, if_pos hb, refuse_counted hup']
    rfl
  case waits => rw [howned ho, releaseOwned_counted, if_neg hi, if_neg (by omega), State.setRelease]
  case other =>
    rw [hserved, serveRelease, owner_counted, ho]
    simp only [hp, if_false]
    rw [refuseNotOwner_counted hup]
    rfl

end Sys2Proof.Reservation
end

section
/-! SUPPORT. FORCE RELEASE (R169): the effect of HALT with the pending release superseded and the owner changed behind it, by what the HALT hands on, and the statement about RESERVE and FORCE RELEASE. -/

namespace Sys2Proof.Reservation

open Sys2Proof Sys2Proof.Machine Sys2Proof.OrderQueue Sys2Proof.FaultReports Sys2Proof.PortControl

/-! ### What HALT hands on -/

/-- The ABORTED ending that port `q` gets for the current order of transport `t` (R31, R34). -/
def abortedFrames (s : State) (t : TransportId) (q : PortId) : List OutFrame :=
  match (s.tr t).current with
  | some m => s.endingOf t q m 0x10 none
  | none => []

theorem abortedFrames_counted (s : State) (t : TransportId) (p q : PortId) :
    abortedFrames (s.counted p) t q = abortedFrames s t q := by
  simp only [abortedFrames, tr_counted, endingOf_counted]

/-- A deceleration that gives back a grant no one waits for: the arbiter is left to find its list empty (R126). -/
theorem beginDecel_eq {s : State} {t : TransportId} (hf : s.FreeToLetGo t) (ph : Phase) : beginDecel t ph s =
    { state := (s.setPhase t ph).letGo t, now := if (s.tr t).engine.grant = .held then [.serve] else [] } := by
  have hgrant : ((s.setPhase t ph).tr t).engine.grant = (s.tr t).engine.grant := by
    rw [State.setPhase, State.tr_setTr_self]
  rw [beginDecel, giveUpGrant_of_not_requested (hgrant ▸ hf.noRequest), hgrant]

section
variable {s : State} {t : TransportId} {m : Motion} (hm : (s.tr t).motion = some m) (hp : (s.tr t).phase.moving = true)
  (hf : s.FreeToLetGo t)
include hm hp hf

theorem haltLoaded_moving : haltLoaded t s =
    { state := sending (fun q => s.flushed t q 0x10 none) (s.haltedInMotion t m [])
      now := if (s.tr t).engine.grant = .held then [.serve] else [] } := by
  rw [haltLoaded, if_pos hp, setHaltReason_motion hm, clearHolds_flush, beginDecel_eq]
  · simp only [setPhase_sending, letGo_sending, State.tr_setTr_self, State.setTr_setTr, setPhase_setTr, tr_sending]
    simp only [flushed_setTr]
    rfl
  · simp only [State.tr_setTr_self, State.setTr_setTr]
    exact freeToLetGo_sending (freeToLetGo_setTr hf (by rfl)) _

theorem haltLoading_moving (hs : (s.tr t).searching = true) (hh : (s.tr t).searchHalted = false) : haltLoading t s =
    { state := s.haltedInMotion t m (s.tr t).queue
      now := if (s.tr t).engine.grant = .held then [.serve] else [] } := by
  have he : haltLoading t s = beginDecel t .decel (clearHolds t (setHaltReason t s)) := by
    simp [haltLoading, hs, hp, hh]
  rw [he, setHaltReason_motion hm]
  simp only [clearHolds, State.tr_setTr_self, State.setTr_setTr]
  rw [beginDecel_eq (freeToLetGo_setTr hf (by rfl)), setPhase_setTr, State.tr_setTr_self]
  rfl

end

/-- HALT at a LOADED transport that is not in motion: what there is of an order ends, then the queue (R34). -/
theorem haltLoaded_still {s : State} {t : TransportId} (hp : (s.tr t).phase.moving = false)
    (hg : (s.tr t).engine.grant ≠ .held) (hc : (s.tr t).current ≠ none ∨ (s.tr t).engine.grant = .none) :
    haltLoaded t s =
      afterEnding t (sending (fun q => abortedFrames s t q ++ s.flushed t q 0x10 none) (s.haltedAtOnce t)) := by
  cases hm : (s.tr t).current with
  | none => rw [haltLoaded_empty hp (hc.resolve_left (absurd hm)) hm]; simp [abortedFrames, hm]
  | some m => rw [haltLoaded_waiting hp hg hm]; simp [abortedFrames, hm]

/-- The entry to UNLOADED of a LOAD that HALT ends (R149, R150). -/
theorem haltLoading_unloads (s : State) (t : TransportId) :
    s.Unloads ((s.withdrawn t).setTr t ((s.withdrawn t).tr t).emptyMotion.unloaded) t ∧
      ((s.withdrawn t).setTr t ((s.withdrawn t).tr t).emptyMotion.unloaded).ports = s.ports := by
  refine ⟨unloads_setTr ?_ rfl (fun u hu => tr_withdrawn_ne hu) (by simp) (by simp) (by simp) rfl, withdrawn_ports ..⟩
  rw [tr_withdrawn]
  exact entersUnloaded_unloaded rfl ⟨rfl, rfl, rfl, rfl, rfl⟩

/-- HALT at an UNLOADING transport: what there is of an order ends, then the queue, and the transport enters UNLOADED
(R155). -/
theorem completeUnload_halted {s : State} {t : TransportId} (hg : (s.tr t).engine.grant ≠ .requested) :
    ∃ w, completeUnload t .aborted .aborted s =
        { state := sending (fun q => abortedFrames s t q ++ s.flushed t q 0x10 none) w
          later := [.idleReport t, .vacuumReview] } ∧
      w.ports = s.ports ∧ s.Unloads w t ∧ (w.tr t).queue = [] := by
  have harbiter := (withdrawn_arbiter_of_not_requested hg).symm
  cases hm : (s.tr t).current with
  | none =>
    have hmotion : (s.tr t).motion = none := by
      cases h : (s.tr t).motion with
      | none => rfl
      | some m => simp [Transport.current, h] at hm
    refine ⟨s.setTr t ({ s.tr t with queue := [] } : Transport).unloaded, ?_, rfl, unloads_setTr
      (entersUnloaded_unloaded rfl ⟨rfl, rfl, rfl, rfl, rfl⟩) hmotion (fun _ _ => rfl) rfl rfl rfl harbiter, ?_⟩
    · simp only [completeUnload, endUnload, hm, flush_eq, enterUnloaded, setTr_sending, tr_sending, State.tr_setTr_self,
        State.setTr_setTr, abortedFrames, List.nil_append]
      rfl
    · rw [State.tr_setTr_self]; rfl
  | some m =>
    refine ⟨(s.orderGone t).setTr t ({ (s.orderGone t).tr t with queue := [] } : Transport).unloaded, ?_, rfl,
      unloads_setTr ?_ ?_ (fun u hu => ?_) (by rfl) (by rfl) (by rfl) harbiter, ?_⟩
    · simp only [completeUnload, endUnload, hm, finishOrder_eq, flush_eq, enterUnloaded, flushed_sending,
        flushed_orderGone, setTr_sending, sending_sending, tr_sending, State.tr_setTr_self, State.setTr_setTr,
        abortedFrames]
      rfl
    · rw [tr_orderGone]
      exact entersUnloaded_unloaded rfl ⟨rfl, rfl, rfl, rfl, rfl⟩
    · rw [tr_orderGone]
    · exact State.tr_setTr_ne _ _ hu
    · rw [State.tr_setTr_self]; rfl

theorem release_unloads {s w : State} {t : TransportId} (hu : s.Unloads w t) : (w.tr t).release = (s.tr t).release := by
  obtain ⟨-, -, hrelease, -⟩ := hu.enters.kept
  exact hrelease

/-! ### Behind the HALT -/

/-- The reservation of transport `t` in the sender's hands: no release pends, and the sender is the owner (R169). -/
def handedOver (h : Head) (t : TransportId) (s : State) : State :=
  (s.setTr t { s.tr t with release := none }).setOwner t (some h.port)

/-- The state behind the HALT of a FORCE RELEASE but for its answers: RESERVATION LOST is held for the old owner (R169). -/
def taken (h : Head) (old : PortId) (t : TransportId) (s : State) : State := holdLost old t (handedOver h t s)

/-- A port after a FORCE RELEASE that has HALT place these frames: the endings, the SUPERSEDED of a pending release, the DONE
(R169, log 15). -/
def forcedPort (h : Head) (old : PortId) (t : TransportId) (s : State) (f : PortId → List OutFrame) (q : PortId) : Port :=
  let x := (s.counted h.port).port q
  ({ x with heldLost := if q = old then x.heldLost.set t true else x.heldLost } : Port).sent
    (f q ++ supersededFrames s t q ++ doneTo h q)

@[simp] theorem tr_taken (h : Head) (old : PortId) (t : TransportId) (s : State) :
    (taken h old t s).tr t = { s.tr t with release := none } := State.tr_setTr_self ..

theorem taken_sending (h : Head) (old : PortId) (t : TransportId) (f : PortId → List OutFrame) (s : State) :
    taken h old t (sending f s) = sending f (taken h old t s) := by cases old <;> rfl

theorem port_taken (h : Head) (old : PortId) (t : TransportId) (s : State) (q : PortId) : (taken h old t s).port q =
    { s.port q with heldLost := if q = old then (s.port q).heldLost.set t true else (s.port q).heldLost } := by
  rw [taken, holdLost, State.port_setPort]
  split
  · subst q; rfl
  · rfl

theorem forcedState_eq (h : Head) (old : PortId) (t : TransportId) (s : State) :
    holdLost old t ((supersedeRelease t s).setOwner t (some h.port)) =
      sending (supersededFrames s t) (taken h old t s) := by
  rw [← taken_sending, supersedeRelease_eq]
  rfl

/-- An immediate order that leaves nothing, or an arbiter that no one waits for, to be done in the event. -/
theorem answerDone_serve_none {h : Head} {s : State} {now : List Task}
    (hl : now = [] ∨ now = [.serve] ∧ s.arbiter.waiting = []) :
    answerDone h { state := s, now := now } = .next (sending (doneTo h) s) := by
  obtain rfl | ⟨rfl, hw⟩ := hl
  · exact (runTasks_answer h s 4095 []).trans (runTasks_nil ..)
  · exact (runTasks_serve_none hw 4095 _).trans ((runTasks_answer h s 4094 []).trans (runTasks_nil ..))

/-- Past its checks FORCE RELEASE of a DOWN owner's transport does what HALT does, and the rest behind it (R169). -/
theorem exec_forceRelease_down {h : Head} {t : TransportId} {p : PortId} {s : State} (ht : s.Takes h.port [])
    (ha : s.addressed h = some t) (ho : s.owner t = some p) (hp : p ≠ h.port) (hd : (s.port p).up = false) :
    exec (.forceRelease h) s = answerDone h (forceEffect h p t (s.counted h.port)) := by
  refine (orderFrame_reservation ht ha _).trans ?_
  simp [serveForce, ho, hp, up_counted, hd]

section
variable {h : Head} {old : PortId} {t : TransportId} {s w : State} {f : PortId → List OutFrame}
  (hports : w.ports = (s.counted h.port).ports) (hrelease : (w.tr t).release = (s.tr t).release)
include hports

theorem port_forced (q : PortId) :
    (sending (fun q => f q ++ supersededFrames s t q ++ doneTo h q) (taken h old t w)).port q = forcedPort h old t s f q := by
  rw [port_sending, port_taken, show w.port q = (s.counted h.port).port q from congrArg (·.get q) hports]
  rfl

include hrelease

/-- The answer to a pending release stands behind the frames of the HALT. -/
theorem forceEffect_eq {now later : List Task}
    (he : haltEffect t (s.counted h.port) = { state := sending f w, now := now, later := later }) :
    forceEffect h old t (s.counted h.port) =
      { state := sending (fun q => f q ++ supersededFrames s t q) (taken h old t w), now := now, later := later } := by
  have hframes : supersededFrames (sending f w) t = supersededFrames s t :=
    supersededFrames_congr hrelease fun q => by
      rw [unitMap_sending, ← unitMap_counted s h.port q]
      exact congrArg (fun x : PerPort Port => (x.get q).unitMap) hports
  simp only [forceEffect, he, forcedState_eq, hframes, taken_sending, sending_sending]

/-- A HALT that has no effect, or begins a deceleration (R34, R150). -/
theorem answerDone_forced_now {now : List Task} (hl : now = [] ∨ now = [.serve] ∧ w.arbiter.waiting = [])
    (he : haltEffect t (s.counted h.port) = { state := sending f w, now := now }) :
    answerDone h (forceEffect h old t (s.counted h.port)) =
      .next (sending (fun q => f q ++ supersededFrames s t q ++ doneTo h q) (taken h old t w)) := by
  rw [forceEffect_eq hports hrelease he, answerDone_serve_none, sending_sending]
  exact hl

/-- A HALT that ends what a LOADED transport has (R34). -/
theorem answerDone_forced_ending (hc : (w.tr t).condition = .loaded) (hp : (w.tr t).phase = .stopped)
    (hq : (w.tr t).queue = []) (he : haltEffect t (s.counted h.port) = afterEnding t (sending f w)) :
    answerDone h (forceEffect h old t (s.counted h.port)) = .next (reviewVacuum
      (sending (fun q => f q ++ supersededFrames s t q ++ doneTo h q) (taken h old t w))) := by
  rw [forceEffect_eq hports hrelease he, ← afterEnding, answerDone_afterEnding, relieved_none, sending_sending]
  all_goals simp only [tr_sending, tr_taken, hc, hp, hq]

/-- A HALT that brings the transport to UNLOADED (R150, R155). -/
theorem answerDone_forced_unloaded (hc : (w.tr t).condition = .unloaded)
    (he : haltEffect t (s.counted h.port) = { state := sending f w, later := [.idleReport t, .vacuumReview] }) :
    answerDone h (forceEffect h old t (s.counted h.port)) = .next (reviewVacuum
      (sending (fun q => f q ++ supersededFrames s t q ++ doneTo h q) (taken h old t w))) := by
  rw [forceEffect_eq hports hrelease he, answerDone_unloaded, relieved_none, sending_sending]
  all_goals simp only [tr_sending, tr_taken, hc]

omit hrelease in
/-- The whole event with such a HALT: the transport enters UNLOADED before the reservation changes hands. -/
theorem forced_unloads (hu : (s.counted h.port).Unloads w t)
    (he : haltEffect t (s.counted h.port) = { state := sending f w, later := [.idleReport t, .vacuumReview] }) :
    ∃ v, answerDone h (forceEffect h old t (s.counted h.port)) =
        .next (reviewVacuum (handedOver h t v)) ∧
      s.Unloads v t ∧ (v.tr t).queue = (w.tr t).queue ∧ ∀ q, v.port q = forcedPort h old t s f q :=
  ⟨sending (fun q => f q ++ supersededFrames s t q ++ doneTo h q) (holdLost old t w),
    answerDone_forced_unloaded hports (release_unloads (s := s.counted h.port) hu) hu.enters.condition he,
    unloads_of_counted ⟨hu.enters, hu.motion, hu.others, hu.owners, hu.tables, hu.vacuum, hu.arbiter⟩, rfl,
    port_forced hports⟩

end

theorem ports_counted_congr {s w : State} (h : w.ports = s.ports) (p : PortId) :
    (w.counted p).ports = (s.counted p).ports := by
  simp only [State.counted, State.port, State.setPort, h]

/-- The whole event with a HALT that begins a deceleration (R34, R150): no one waits for a grant that it gives back. -/
theorem forced_decelerates {h : Head} {old : PortId} {t : TransportId} {s : State} {f : PortId → List OutFrame}
    {m : Motion} {x : List OrderRecord} (hf : s.FreeToLetGo t) (he : haltEffect t (s.counted h.port) =
      { state := sending f ((s.haltedInMotion t m x).counted h.port)
        now := if (s.tr t).engine.grant = .held then [.serve] else [] }) :
    ∃ u, answerDone h (forceEffect h old t (s.counted h.port)) = .next u ∧
      u = { handedOver h t (s.haltedInMotion t m x) with ports := u.ports } ∧
      ∀ q, u.port q = forcedPort h old t s f q := by
  have hports := ports_counted_congr (haltedInMotion_ports s t m x) h.port
  have hrelease : (((s.haltedInMotion t m x).counted h.port).tr t).release = (s.tr t).release := by
    rw [tr_counted, State.haltedInMotion, tr_letGo, State.tr_setTr_self]
  refine ⟨_, answerDone_forced_now hports hrelease ?_ he, rfl, port_forced hports⟩
  by_cases hg : (s.tr t).engine.grant = .held
  · exact .inr ⟨if_pos hg, (letGo_waiting ..).trans (hf.noneWaits hg)⟩
  · exact .inl (if_neg hg)

/-- The whole event with a HALT that has no effect (R34, R150). -/
theorem forced_idle {h : Head} {old : PortId} {t : TransportId} {s : State}
    (he : haltEffect t (s.counted h.port) = Reaction.idle (s.counted h.port)) :
    ∃ u, answerDone h (forceEffect h old t (s.counted h.port)) = .next u ∧
      u = { handedOver h t s with ports := u.ports } ∧ ∀ q, u.port q = forcedPort h old t s (fun _ => []) q :=
  ⟨_, answerDone_forced_now (f := fun _ => []) rfl rfl (.inl rfl) (by rw [he, sending_none]; rfl), rfl, port_forced rfl⟩

/-! ### The statement about RESERVE and FORCE RELEASE -/

theorem setOwner_self {s : State} {t : TransportId} {o : Option PortId} (ho : s.owner t = o) : s.setOwner t o = s := by
  subst ho
  simp only [State.setOwner, State.owner, Quad.set_get]

theorem release_haltedAtOnce (s : State) (t : TransportId) : ((s.haltedAtOnce t).tr t).release = (s.tr t).release := by
  cases hc : (s.tr t).current.isSome <;> simp [State.haltedAtOnce, hc]

theorem moving_iff (x : Phase) : x.moving = true ↔ x = .accel ∨ x = .cruise ∨ x = .decel ∨ x = .holdDecel := by
  cases x <;> simp [Phase.moving]

/-- RESERVE and FORCE RELEASE of a transport that is unowned or the sender's own (R167, R169). -/
theorem exec_reserve_mine {h : Head} {t : TransportId} {s : State} (ht : s.Takes h.port []) (hm : s.MaySend h t) :
    exec (.reserve h) s = .next ((s.setOwner t (some h.port)).answered h 0 []) ∧
      exec (.forceRelease h) s = .next ((s.setOwner t (some h.port)).answered h 0 []) := by
  have hdone := done_counted (h := h) (s := s.setOwner t (some h.port)) (up_of_ready ht.ready) []
  rw [← hdone]
  refine ⟨(orderFrame_reservation ht hm.names _).trans ?_, (orderFrame_reservation ht hm.names _).trans ?_⟩ <;>
    obtain ho | ho := hm.free
  · simp only [serveReserve, owner_counted, ho, setOwner_counted]
  · simp only [serveReserve, owner_counted, ho, if_true, setOwner_self ho]
  · simp only [serveForce, owner_counted, ho, setOwner_counted]
  · simp only [serveForce, owner_counted, ho, if_true, setOwner_self ho]

/-- FORCE RELEASE while the owner's port is UP (R169). -/
theorem exec_forceRelease_up {h : Head} {t : TransportId} {p : PortId} {s : State} (ht : s.Takes h.port [])
    (ha : s.addressed h = some t) (ho : s.owner t = some p) (hp : p ≠ h.port) (hu : (s.port p).up = true) :
    exec (.forceRelease h) s = .next ((countRightsViolation t s).turnedAway h 0x20 []) := by
  refine (orderFrame_reservation ht ha _).trans ?_
  simp only [serveForce, owner_counted, ho, hp, if_false, up_counted, hu, if_true]
  rw [refuseNotOwner_counted (up_of_ready ht.ready)]

/-- Settles O34: RESERVE and FORCE RELEASE by who owns the transport; from a DOWN owner the effect of HALT by condition and
phase, with the reservation changed behind it (R34, R150, R155, R167, R169). -/
theorem reserveAndForceRelease : Obligations.ReserveAndForceRelease := by
  intro h t s ht ha
  refine ⟨fun ho => exec_reserve_mine ht ⟨ha, ho⟩, fun p ho hp hu => exec_forceRelease_up ht ha ho hp hu,
    fun p ho hp hd => ?_⟩
  dsimp only
  rw [exec_forceRelease_down ht ha ho hp hd, ← moving_iff]
  have hloading : (s.tr t).condition = .loading → haltEffect t (s.counted h.port) = haltLoading t (s.counted h.port) :=
    fun hc => by simp [haltEffect, hc]
  refine ⟨?noOrder, ?moving, ?still, ?search, ?load, ?wind⟩
  case noOrder =>
    intro hc
    refine forced_idle ?_
    obtain hc | hc := hc <;> simp [haltEffect, hc]
  case moving =>
    intro m hc hm hf hmoving
    refine forced_decelerates hf ?_
    have he : haltEffect t (s.counted h.port) = haltLoaded t (s.counted h.port) := by simp [haltEffect, hc]
    rw [he, haltLoaded_moving (s := s.counted h.port) hm hmoving (freeToLetGo_counted hf _), haltedInMotion_counted]
    simp only [flushed_counted]
    rfl
  case still =>
    intro hc hmoving hg hcurrent
    have hports := ports_counted_congr (haltedAtOnce_ports s t) h.port
    refine ⟨_, answerDone_forced_ending hports (release_haltedAtOnce ..) ((haltedAtOnce_condition ..).trans hc)
      (haltedAtOnce_phase ..) (haltedAtOnce_queue ..) ?_, rfl, port_forced hports⟩
    have he : haltEffect t (s.counted h.port) = haltLoaded t (s.counted h.port) := by simp [haltEffect, hc]
    rw [he, haltLoaded_still (s := s.counted h.port) (by simpa using hmoving) hg hcurrent, haltedAtOnce_counted]
    simp only [flushed_counted, abortedFrames_counted]
    rfl
  case search =>
    intro m hc hs hm hmoving
    have hsearch : (s.tr t).searching = true := by simp [Transport.searching, hc, hs]
    split
    case isTrue hh =>
      have hhalted : (s.tr t).searchHalted = true := by simp [Transport.searchHalted, hh, hm]
      exact forced_idle ((hloading hc).trans (haltLoading_halted (s := s.counted h.port) hsearch hhalted))
    case isFalse hh =>
      intro hf
      have hhalted : (s.tr t).searchHalted = false := by simpa [Transport.searchHalted, hm] using hh
      refine forced_decelerates (f := fun _ => []) hf ?_
      rw [hloading hc, haltLoading_moving (s := s.counted h.port) hm hmoving (freeToLetGo_counted hf _) hsearch hhalted,
        haltedInMotion_counted, sending_none]
      rfl
  case load =>
    intro hc hg hends
    have hnot : ¬ ((s.tr t).searching = true ∧ (s.tr t).phase.moving = true) := fun ⟨hs, hp⟩ =>
      hends.elim (fun h => h (by simpa [Transport.searching, hc] using hs)) (fun h => h hp)
    obtain ⟨hunloads, hports⟩ := haltLoading_unloads (s.counted h.port) t
    obtain ⟨v, hv, hvu, hvq, hvp⟩ := forced_unloads (old := p) hports hunloads
      ((hloading hc).trans (haltLoading_ends (s := s.counted h.port) hg hnot))
    simp only [loadEnding_counted] at hvp
    exact ⟨v, hv, hvu, hvq.trans (by simp [Transport.emptyMotion, Transport.unloaded]), hvp⟩
  case wind =>
    intro hc hg
    obtain ⟨w, hw, hports, hunloads, hqueue⟩ := completeUnload_halted (s := s.counted h.port) hg
    have he : haltEffect t (s.counted h.port) = completeUnload t .aborted .aborted (s.counted h.port) := by
      simp [haltEffect, hc]
    obtain ⟨v, hv, hvu, hvq, hvp⟩ := forced_unloads (old := p) hports hunloads (he.trans hw)
    simp only [flushed_counted, abortedFrames_counted] at hvp
    exact ⟨v, hv, hvu, hvq.trans hqueue, hvp⟩

end Sys2Proof.Reservation
end

section
/-! SUPPORT. What a command does to the Table Store, the queue of waiting commands and the clock (R172 to R176, log 1), with the statements about all three. -/

namespace Sys2Proof.TableStore

open Sys2Proof Sys2Proof.Machine Sys2Proof.OrderQueue

/-! ### The relation -/

/-- The Table Store changes as `K` says; the queue of waiting commands and the clock stand. -/
structure StoreStep (K : Tables → Tables → Prop) (s s' : State) : Prop where
  tables : K s.tables s'.tables
  pending : s'.pending = s.pending
  clock : s'.clock = s.clock

/-- The next state of an outcome, where it has one, is such a step from `s`. -/
structure Leaves (K : Tables → Tables → Prop) (s : State) (r : Result) : Prop where
  next : ∀ s', r = .next s' → StoreStep K s s'

theorem StoreStep.refl (s : State) : StoreStep Eq s s := ⟨rfl, rfl, rfl⟩

theorem StoreStep.trans {a b c : State} (h : StoreStep Eq a b) (k : StoreStep Eq b c) : StoreStep Eq a c :=
  ⟨h.tables.trans k.tables, k.pending.trans h.pending, k.clock.trans h.clock⟩

/-- What keeps the settings keeps the tables, the queue and the clock, which are among them. -/
theorem storeStep_of_keeps {s s' : State} (h : Keeps s s') : StoreStep Eq s s' :=
  ⟨h.tables.symm, congrArg Fixed.pending h.fixed, congrArg Fixed.clock h.fixed⟩

theorem storeStep_setTr (s : State) (t : TransportId) (x : Transport) : StoreStep Eq s (s.setTr t x) := ⟨rfl, rfl, rfl⟩

theorem storeStep_setPort (s : State) (p : PortId) (x : Port) : StoreStep Eq s (s.setPort p x) := ⟨rfl, rfl, rfl⟩

section
variable {K : Tables → Tables → Prop} {s : State}

theorem leaves_next {s' : State} (h : StoreStep K s s') : Leaves K s (.next s') := by
  constructor
  rintro _ ⟨⟩
  exact h

theorem leaves_fault (x : Fault) : Leaves K s (.fault x) := ⟨fun _ h => nomatch h⟩

theorem leaves_refusal (x : Refusal) : Leaves K s (.refused x) := ⟨fun _ h => nomatch h⟩

theorem leaves_ite {p : Prop} [Decidable p] {a b : Result} (ha : Leaves K s a) (hb : Leaves K s b) :
    Leaves K s (if p then a else b) := by
  split
  · exact ha
  · exact hb

/-- A command that acts only where its condition holds, and otherwise changes nothing. -/
theorem leaves_when {p : Prop} [Decidable p] {r : Result} (hr : Leaves Eq s r) :
    Leaves Eq s (if p then r else .next s) :=
  leaves_ite hr (leaves_next (.refl s))

/-- A command that changes nothing where its condition holds. -/
theorem leaves_unless {p : Prop} [Decidable p] {r : Result} (hr : Leaves Eq s r) :
    Leaves Eq s (if p then .next s else r) :=
  leaves_ite (leaves_next (.refl s)) hr

theorem leaves_finish {r : Reaction} (h : StoreStep Eq s r.state) : Leaves Eq s (finish r) :=
  ⟨fun _ hr => h.trans (storeStep_of_keeps (finish_keeps hr))⟩

theorem leaves_answerDone {h : Head} {r : Reaction} (hr : StoreStep Eq s r.state) : Leaves Eq s (answerDone h r) :=
  leaves_finish (r := r.andThen [.answer h .done []] []) hr

theorem leaves_mapNext {r : Result} {f : State → State} (hf : ∀ u, StoreStep Eq u (f u)) (hr : Leaves Eq s r) :
    Leaves Eq s (mapNext f r) := by
  cases r with
  | next u => exact leaves_next ((hr.next u rfl).trans (hf u))
  | fault x => exact leaves_fault x
  | refused x => exact leaves_refusal x

end

/-! ### Frames

The arrival of a frame counts it, and its answer joins a transmit queue: neither touches what the relation speaks of. -/

theorem storeStep_respond (h : Head) (st : Status) (b : List Byte) (s : State) : StoreStep Eq s (respond h st b s) :=
  storeStep_of_keeps (respond_keeps ..)

/-- DONE after a change leaves what the change leaves. -/
theorem leaves_done {K : Tables → Tables → Prop} (h : Head) (b : List Byte) {s u : State} (hu : StoreStep K s u) :
    Leaves K s (done h b u) := by
  obtain ⟨htables, hpending, hclock⟩ := storeStep_respond h .done b u
  exact leaves_next ⟨htables ▸ hu.tables, hpending.trans hu.pending, hclock.trans hu.clock⟩

section
variable {K : Tables → Tables → Prop} (hK : ∀ x, K x x)
include hK

/-- A refusal is no change of the tables. -/
theorem leaves_refused (h : Head) (st : Status) (s : State) : Leaves K s (refused h st s) := by
  obtain ⟨htables, hpending, hclock⟩ := storeStep_respond h st [] (countRefusal h.port s)
  exact leaves_next ⟨htables ▸ hK s.tables, hpending, hclock⟩

theorem leaves_refuseNotOwner (h : Head) (t : TransportId) (b : List Byte) (s : State) :
    Leaves K s (.next (refuseNotOwner h t b s)) := by
  obtain ⟨htables, hpending, hclock⟩ := storeStep_respond h .notOwner b (countRefusal h.port (countRightsViolation t s))
  exact leaves_next ⟨htables ▸ hK s.tables, hpending, hclock⟩

end

section
variable {K : Tables → Tables → Prop} (hK : ∀ x, K x x) {h : Head} {b : List Byte} {c : OrderClass} {s : State}
include hK

theorem leaves_arrival {p : PortId} {serve : State → Result} (hs : ∀ u, Leaves K u (serve u)) :
    Leaves K s (arrival p b serve s) := by
  constructor
  intro s' hr
  obtain rfl | rfl | hserved := arrival_cases hr
  · exact ⟨hK _, rfl, rfl⟩
  · exact ⟨hK _, rfl, rfl⟩
  · obtain ⟨htables, hpending, hclock⟩ := (hs _).next s' hserved
    exact ⟨htables, hpending, hclock⟩

theorem leaves_unitFrame {serve : TransportId → State → Result} (hs : ∀ t u, Leaves K u (serve t u)) :
    Leaves K s (unitFrame h c serve s) := by
  unfold unitFrame
  split
  · exact leaves_refused hK ..
  · exact leaves_ite (hs _ _) (leaves_refuseNotOwner hK ..)

theorem leaves_orderFrame {o : Bool} {serve : TransportId → State → Result} (hs : ∀ t u, Leaves K u (serve t u)) :
    Leaves K s (orderFrame h b c o serve s) :=
  leaves_arrival hK fun _ => leaves_unitFrame hK fun t u => leaves_ite (leaves_refused hK ..) (hs t u)

theorem leaves_servoFrame {serve : TransportId → State → Result} (hs : ∀ t u, Leaves K u (serve t u)) :
    Leaves K s (servoFrame h b c serve s) :=
  leaves_arrival hK fun _ => leaves_unitFrame hK hs

theorem leaves_partFrame {serve : State → Result} (hs : ∀ u, Leaves K u (serve u)) :
    Leaves K s (partFrame h b serve s) :=
  leaves_arrival hK fun u => leaves_ite (hs u) (leaves_refused hK ..)

end

/-! ### What begins an event

Behind these the hand-offs of the event follow, which keep the settings (`finish_keeps`). -/

section
variable (h : Head) (t : TransportId) (s : State)

theorem storeStep_reserveFor : StoreStep Eq s (reserveFor h t s) := by
  unfold reserveFor
  split <;> exact ⟨rfl, rfl, rfl⟩

theorem storeStep_cancelRelease : StoreStep Eq s (cancelRelease h t s) := by
  unfold cancelRelease
  split
  · split
    · exact storeStep_of_keeps (supersedeRelease_keeps ..)
    · exact .refl s
  · exact .refl s

theorem storeStep_stopEffect : StoreStep Eq s (stopEffect t s).state := by
  unfold stopEffect
  dsimp only
  split
  case h_1 | h_2 =>
    unfold stopWaiting
    split
    · exact .refl s
    · exact storeStep_of_keeps ((giveUpGrant_keeps ..).trans (endOrder_keeps ..))
  case h_3 | h_4 => exact storeStep_of_keeps ((setEndReason_keeps ..).trans (beginDecel_keeps ..))
  case h_5 => exact storeStep_of_keeps (setEndReason_keeps ..)
  case h_6 =>
    unfold stopHeld
    split
    · exact (storeStep_of_keeps (finishOrder_keeps ..)).trans (storeStep_setTr ..)
    · exact .refl s
    · exact .refl s
  all_goals exact .refl s

theorem storeStep_clearHolds : StoreStep Eq s (clearHolds t s) := storeStep_setTr ..

theorem storeStep_haltOrder : StoreStep Eq s (haltOrder t s) := by
  have hgiven := giveUpGrant_keeps t s
  unfold haltOrder
  dsimp only
  split
  · exact storeStep_of_keeps hgiven
  · exact storeStep_of_keeps (hgiven.trans (finishOrder_keeps ..))

theorem storeStep_haltLoaded : StoreStep Eq s (haltLoaded t s).state := by
  unfold haltLoaded
  split
  · have hflushed := storeStep_of_keeps ((setHaltReason_keeps t s).trans (flush_keeps t .aborted none _))
    exact (hflushed.trans (storeStep_clearHolds ..)).trans (storeStep_of_keeps (beginDecel_keeps ..))
  · have hflushed := (storeStep_haltOrder t s).trans (storeStep_of_keeps (flush_keeps t .aborted none _))
    exact (hflushed.trans (storeStep_clearHolds ..)).trans (storeStep_setTr ..)

theorem storeStep_haltLoading : StoreStep Eq s (haltLoading t s).state := by
  unfold haltLoading
  dsimp only
  split
  · split
    · exact .refl s
    · have hcleared := (storeStep_of_keeps (setHaltReason_keeps t s)).trans (storeStep_clearHolds t _)
      exact hcleared.trans (storeStep_of_keeps (beginDecel_keeps ..))
  · have hcleared := (storeStep_of_keeps (giveUpGrant_keeps t s)).trans (storeStep_clearHolds t _)
    exact hcleared.trans (storeStep_of_keeps (endLoadUnloaded_keeps ..))

theorem storeStep_completeUnload (st flushed : Status) : StoreStep Eq s (completeUnload t st flushed s).state := by
  have hended : Keeps s (endUnload t st flushed s) := by
    unfold endUnload
    dsimp only
    split
    · exact flush_keeps ..
    · exact (finishOrder_keeps ..).trans (flush_keeps ..)
  exact storeStep_of_keeps (hended.trans (enterUnloaded_keeps ..))

theorem storeStep_haltEffect : StoreStep Eq s (haltEffect t s).state := by
  unfold haltEffect
  split
  · exact storeStep_haltLoaded t s
  · exact storeStep_haltLoading t s
  · exact storeStep_completeUnload ..
  · exact .refl s
  · exact .refl s

theorem storeStep_forceEffect (old : PortId) : StoreStep Eq s (forceEffect h old t s).state := by
  have hsuperseded := (storeStep_haltEffect t s).trans (storeStep_of_keeps (supersedeRelease_keeps t _))
  exact hsuperseded.trans ⟨rfl, rfl, rfl⟩

theorem storeStep_pauseEffect : StoreStep Eq s (pauseEffect t s).state := by
  unfold pauseEffect
  dsimp only
  split <;> exact ⟨rfl, rfl, rfl⟩

theorem storeStep_clearFaultEffect : StoreStep Eq s (clearFaultEffect t s).state := by
  unfold clearFaultEffect
  dsimp only
  split
  · split <;> exact ⟨rfl, rfl, rfl⟩
  · exact .refl s

theorem storeStep_tachDetection : StoreStep Eq s (tachDetection t s).state := by
  have hended := (storeStep_setTr s t (s.tr t).tachDetected).trans (storeStep_of_keeps (setEndReason_keeps t .tach _))
  unfold tachDetection
  dsimp only
  split
  · exact hended.trans (storeStep_of_keeps (beginDecel_keeps ..))
  · exact hended

theorem storeStep_markerInactive (m : Marker) : StoreStep Eq s (markerInactive t m s).state := by
  cases m with
  | bot => exact (storeStep_setTr ..).trans (storeStep_of_keeps (markerLeft_keeps ..))
  | eot => exact storeStep_setTr ..

theorem storeStep_coverRead : StoreStep Eq s (coverRead t s).state := by
  unfold coverRead
  dsimp only
  split
  · exact (storeStep_setTr ..).trans (storeStep_of_keeps (handFault_keeps ..))
  · exact storeStep_setTr ..

theorem storeStep_onlineRead : StoreStep Eq s (onlineRead t s) := by
  unfold onlineRead
  dsimp only
  split
  · exact .refl s
  · exact (storeStep_setTr ..).trans (storeStep_of_keeps (attendAll_keeps ..))

theorem storeStep_placeHeld (p : PortId) : StoreStep Eq s (placeHeld p s) :=
  (storeStep_of_keeps (.foldl (fun u t => attend_keeps p t .reservationLost [] u) _ s)).trans (storeStep_setPort ..)

end

/-! ### Commands that are no frames -/

section
variable (t : TransportId) (s : State)

theorem leaves_capstanCount (cta ctb : Bool) : Leaves Eq s (execCapstanCount t cta ctb s) := by
  unfold execCapstanCount
  dsimp only
  split
  · exact leaves_next (storeStep_setTr ..)
  · refine leaves_ite (leaves_next (storeStep_setTr ..)) (leaves_finish ?_)
    exact (storeStep_setTr ..).trans (storeStep_of_keeps (applyCount_keeps ..))

theorem leaves_markerInputChange (m : Marker) (a : Bool) : Leaves Eq s (execMarkerInputChange t m a s) :=
  leaves_unless (leaves_ite (leaves_next (storeStep_setTr ..)) (leaves_finish (storeStep_markerInactive t s m)))

theorem leaves_coverChange (o : Bool) : Leaves Eq s (execCoverChange t o s) :=
  leaves_unless
    (leaves_ite (leaves_finish ((storeStep_setTr ..).trans (storeStep_coverRead ..))) (leaves_next (storeStep_setTr ..)))

theorem leaves_transportPresentChange (p : Bool) : Leaves Eq s (execTransportPresentChange t p s) :=
  leaves_unless
    (leaves_ite (leaves_finish (((storeStep_setTr ..).trans (storeStep_coverRead ..)).trans (storeStep_onlineRead ..)))
      (leaves_next (storeStep_setTr ..)))

theorem leaves_onlineSwitchChange (o : Bool) : Leaves Eq s (execOnlineSwitchChange t o s) := by
  refine leaves_unless (leaves_next ?_)
  dsimp only
  split
  · exact (storeStep_setTr ..).trans (storeStep_onlineRead ..)
  · exact storeStep_setTr ..

theorem leaves_panelOrder (k : OrderKind) : Leaves Eq s (panelOrder t k s) :=
  leaves_when (leaves_finish (storeStep_setTr ..))

theorem leaves_partResetHoldExpiry : Leaves Eq s (execPartResetHoldExpiry s) := by
  unfold execPartResetHoldExpiry
  split
  · exact leaves_next (.refl s)
  · exact leaves_done _ [] ⟨rfl, rfl, rfl⟩

end

/-! ### Frames that are served -/

section
variable (h : Head) (b : List Byte) (t : TransportId) (s : State)

theorem leaves_refused_eq (st : Status) : Leaves Eq s (refused h st s) := leaves_refused (fun _ => rfl) h st s

theorem leaves_notOwner : Leaves Eq s (.next (refuseNotOwner h t b s)) := leaves_refuseNotOwner (fun _ => rfl) h t b s

theorem leaves_joinOrder (x : OrderRecord) : Leaves Eq s (joinOrder h t x s) := by
  refine leaves_mapNext (fun u => storeStep_setTr u t _) (leaves_finish ?_)
  exact ((storeStep_reserveFor h t s).trans (storeStep_cancelRelease h t _)).trans (storeStep_setTr ..)

theorem leaves_serveQueued (x : Option OrderRecord) : Leaves Eq s (serveQueued h x t s) := by
  unfold serveQueued
  split
  · exact leaves_refused_eq ..
  · exact leaves_refused_eq ..
  · split
    · exact leaves_refused_eq ..
    · exact leaves_joinOrder ..

theorem leaves_serveLoad : Leaves Eq s (serveLoad h t s) := by
  unfold serveLoad
  split
  · exact leaves_refused_eq ..
  · exact leaves_finish ((storeStep_reserveFor h t s).trans (storeStep_of_keeps (startLoad_keeps ..)))

theorem leaves_servePause : Leaves Eq s (servePause h t s) := by
  unfold servePause
  split
  · exact leaves_refused_eq ..
  · exact leaves_answerDone ((storeStep_reserveFor h t s).trans (storeStep_pauseEffect ..))

theorem leaves_serveContinue : Leaves Eq s (serveContinue h t s) :=
  leaves_ite (leaves_refused_eq ..) (leaves_answerDone ((storeStep_reserveFor h t s).trans (storeStep_setTr ..)))

theorem leaves_serveSelect : Leaves Eq s (serveSelect h b t s) := by
  refine leaves_ite (leaves_refused_eq ..) ?_
  split
  · exact leaves_refused_eq ..
  · split
    · exact leaves_refused_eq ..
    · exact leaves_done _ _ ((storeStep_reserveFor h t s).trans (storeStep_setTr ..))

theorem leaves_serveReserve : Leaves Eq s (serveReserve h t s) := by
  unfold serveReserve
  split
  · exact leaves_done _ _ ⟨rfl, rfl, rfl⟩
  · exact leaves_ite (leaves_done _ _ (.refl s)) (leaves_notOwner ..)

theorem leaves_releaseOwned : Leaves Eq s (releaseOwned h t s) := by
  have hsuperseded : StoreStep Eq s (supersedeRelease t s) := storeStep_of_keeps (supersedeRelease_keeps ..)
  refine leaves_ite (leaves_done _ _ (hsuperseded.trans ⟨rfl, rfl, rfl⟩)) (leaves_ite (leaves_next ?_) (leaves_next ?_))
  · have hcounted : StoreStep Eq _ (countRefusal h.port (supersedeRelease t s)) := storeStep_setPort ..
    exact (hsuperseded.trans hcounted).trans (storeStep_respond ..)
  · exact hsuperseded.trans (storeStep_setTr ..)

theorem leaves_serveRelease : Leaves Eq s (serveRelease h t s) := by
  unfold serveRelease
  split
  · exact leaves_done _ _ (.refl s)
  · exact leaves_ite (leaves_releaseOwned ..) (leaves_notOwner ..)

theorem leaves_serveForce : Leaves Eq s (serveForce h t s) := by
  unfold serveForce
  split
  · exact leaves_done _ _ ⟨rfl, rfl, rfl⟩
  · exact leaves_ite (leaves_done _ _ (.refl s))
      (leaves_ite (leaves_notOwner ..) (leaves_answerDone (storeStep_forceEffect ..)))

theorem leaves_serveReadProfile : Leaves Eq s (serveReadProfile h b s) := by
  unfold serveReadProfile
  split
  · exact leaves_refused_eq ..
  · split
    · exact leaves_refused_eq ..
    · exact leaves_done _ _ (.refl s)

theorem leaves_serveSetUnitMap : Leaves Eq s (serveSetUnitMap h b s) := by
  unfold serveSetUnitMap
  split
  · exact leaves_refused_eq ..
  · exact leaves_done _ _ (storeStep_setPort ..)

theorem leaves_serveSetVacuum : Leaves Eq s (serveSetVacuum h b s) := by
  refine leaves_ite (leaves_refused_eq ..) ?_
  dsimp only
  split
  · exact leaves_refused_eq ..
  · rename_i mode _
    refine leaves_ite (leaves_done _ _ ?_) (leaves_refused_eq ..)
    have hset : StoreStep Eq s (setThresholds mode (fieldAt b 1 1) (fieldAt b 2 1) (fieldAt b 3 1) s) := ⟨rfl, rfl, rfl⟩
    exact hset.trans (storeStep_of_keeps (reviewVacuum_keeps _))

theorem leaves_serveSetGrantLimit : Leaves Eq s (serveSetGrantLimit h b s) := by
  unfold serveSetGrantLimit
  split
  · exact leaves_refused_eq ..
  · exact leaves_ite (leaves_refused_eq ..) (leaves_answerDone ⟨rfl, rfl, rfl⟩)

theorem leaves_serveSetMonitor : Leaves Eq s (serveSetMonitor h b s) := by
  unfold serveSetMonitor
  split
  · exact leaves_refused_eq ..
  · exact leaves_done _ _ ⟨rfl, rfl, rfl⟩

theorem leaves_serveReadCounters : Leaves Eq s (serveReadCounters h b s) := by
  unfold serveReadCounters
  split
  · exact leaves_refused_eq ..
  · exact leaves_ite (leaves_done _ _ (.refl s))
      (leaves_ite (leaves_done _ _ ⟨rfl, rfl, rfl⟩) (leaves_refused_eq ..))

end

/-! ### Every command -/

/-- The commands that change the Table Store: LOAD PROFILE, LOCK BANK, LOAD SERVO and the hard reset (R172 to R176). -/
def ChangesTables (c : Instr) : Prop :=
  match c with
  | .hardReset | .loadProfile .. | .lockBank .. | .loadServo .. => True
  | _ => False

/-- Every other command leaves the Table Store, the queue and the clock. -/
theorem exec_leaves_tables {c : Instr} (hc : ¬ ChangesTables c) (s : State) : Leaves Eq s (exec c s) := by
  have hE : ∀ x : Tables, x = x := fun _ => rfl
  cases c with
  | hardReset | loadProfile | lockBank | loadServo => exact absurd trivial hc
  | capstanCount t a b => exact leaves_capstanCount t s a b
  | reelCount t x => exact leaves_next (storeStep_setTr ..)
  | servoSample t l => exact leaves_finish (storeStep_of_keeps (servoSample_keeps ..))
  | rampStep t => exact leaves_finish (storeStep_of_keeps (rampStep_keeps ..))
  | pressureSample p => exact leaves_finish ⟨rfl, rfl, rfl⟩
  | markerInputChange t m a => exact leaves_markerInputChange t s m a
  | coverChange t o => exact leaves_coverChange t s o
  | reelPresentChange t x p => exact leaves_next (storeStep_setTr ..)
  | transportPresentChange t p => exact leaves_transportPresentChange t s p
  | onlineSwitchChange t o => exact leaves_onlineSwitchChange t s o
  | panelLoadPress t => exact leaves_when (leaves_finish (storeStep_of_keeps (startLoad_keeps ..)))
  | panelRewindPress t => exact leaves_panelOrder t s .rewind
  | panelUnloadPress t => exact leaves_panelOrder t s .unload
  | carrierUp p => exact leaves_unless (leaves_next ((storeStep_setPort ..).trans (storeStep_placeHeld ..)))
  | carrierDown p => exact leaves_when (leaves_next (storeStep_setPort ..))
  | transmissionEnd p => exact leaves_when (leaves_next (storeStep_setPort ..))
  | frameCheckFailure p d => exact leaves_unless (leaves_next (storeStep_setPort ..))
  | unknownCodeFrame h k x => exact leaves_arrival hE fun u => leaves_refused_eq h u .unknownCode
  | move h b => exact leaves_orderFrame hE fun t u => leaves_serveQueued h t u _
  | rewind h b => exact leaves_orderFrame hE fun t u => leaves_serveQueued h t u _
  | unload h => exact leaves_orderFrame hE fun t u => leaves_serveQueued h t u _
  | load h => exact leaves_orderFrame hE fun t u => leaves_serveLoad h t u
  | stop h => exact leaves_orderFrame hE fun t u => leaves_answerDone (storeStep_stopEffect t u)
  | halt h => exact leaves_orderFrame hE fun t u => leaves_answerDone (storeStep_haltEffect t u)
  | pause h => exact leaves_orderFrame hE fun t u => leaves_servePause h t u
  | continueOrder h => exact leaves_orderFrame hE fun t u => leaves_serveContinue h t u
  | selectProfile h b => exact leaves_orderFrame hE fun t u => leaves_serveSelect h b t u
  | reserve h => exact leaves_orderFrame hE fun t u => leaves_serveReserve h t u
  | release h => exact leaves_orderFrame hE fun t u => leaves_serveRelease h t u
  | forceRelease h => exact leaves_orderFrame hE fun t u => leaves_serveForce h t u
  | clearFault h =>
    exact leaves_orderFrame hE fun t u =>
      leaves_answerDone ((storeStep_reserveFor h t u).trans (storeStep_clearFaultEffect ..))
  | sense h => exact leaves_orderFrame hE fun _ u => leaves_done h _ (.refl u)
  | readSnapshot h => exact leaves_orderFrame hE fun _ u => leaves_done h _ (.refl u)
  | readProfile h b => exact leaves_partFrame hE fun u => leaves_serveReadProfile h b u
  | readServo h => exact leaves_servoFrame hE fun _ u => leaves_done h _ (.refl u)
  | setUnitMap h b => exact leaves_partFrame hE fun u => leaves_serveSetUnitMap h b u
  | readUnitMap h => exact leaves_partFrame hE fun u => leaves_done h _ (.refl u)
  | setVacuum h b => exact leaves_partFrame hE fun u => leaves_serveSetVacuum h b u
  | setGrantLimit h b => exact leaves_partFrame hE fun u => leaves_serveSetGrantLimit h b u
  | senseString h => exact leaves_partFrame hE fun u => leaves_done h _ (.refl u)
  | setMonitor h b => exact leaves_partFrame hE fun u => leaves_serveSetMonitor h b u
  | readMonitor h => exact leaves_partFrame hE fun u => leaves_done h _ (.refl u)
  | readCounters h b => exact leaves_partFrame hE fun u => leaves_serveReadCounters h b u
  | partReset h => exact leaves_partFrame hE fun _ => leaves_next ⟨rfl, rfl, rfl⟩
  | partResetHoldExpiry => exact leaves_partResetHoldExpiry s
  | tachLossDetection t => exact leaves_when (leaves_finish (storeStep_tachDetection t s))
  | economyTimerExpiry => exact leaves_when (leaves_next (storeStep_of_keeps (economyExpiry_keeps s)))
  | vacuumStepExpiry t => exact leaves_when (leaves_finish (storeStep_of_keeps (endLoadUnloaded_keeps ..)))
  | drawLimitExpiry t => exact leaves_when (leaves_finish (storeStep_of_keeps (endLoadUnloaded_keeps ..)))
  | unloadWindExpiry t => exact leaves_when (leaves_finish (storeStep_completeUnload ..))
  | readyBecomesTrue => exact leaves_finish (storeStep_of_keeps (settleComplete_keeps s))
  | markerCrossingQualified t m => exact leaves_when (leaves_finish (storeStep_setTr ..))
  | loopGuardTimerExpiry t | recoveryTimerExpiry t | tapeBreak t x | columnEnd t x e | driveSaturation t x =>
    exact leaves_when (leaves_finish ((storeStep_setTr ..).trans (storeStep_of_keeps (handFault_keeps ..))))
  | recoverySettled t => exact leaves_when (leaves_finish (storeStep_of_keeps (recoveryEnd_keeps ..)))
  | radiusWindowClose t x => exact leaves_unless (leaves_next (storeStep_of_keeps (closeWindow_keeps ..)))
  | searchLimitReached t => exact leaves_finish (storeStep_of_keeps (searchLimitReached_keeps ..))

/-! ### The locks -/

theorem lockedKept_refl (x : Tables) : LockedKept x x := fun _ h => ⟨h, rfl⟩

/-- An entry of a bank that is not locked replaced (R173, R174). -/
theorem lockedKept_setProfile {n : Fin 16} {s : State} (hn : s.tables.locked n = false) (e : Option Profile) :
    LockedKept s.tables (setProfile n e s).tables := by
  intro m hm
  have hne : n.val ≠ m.val := fun heq => by rw [Fin.ext heq, hm] at hn; cases hn
  exact ⟨hm, Vector.getElem_set_ne n.isLt m.isLt hne⟩

/-- More locks set, with the entries as they were (R174). -/
theorem lockedKept_of_locks {a b : Tables} (h0 : a.lock0 = true → b.lock0 = true) (h1 : a.lock1 = true → b.lock1 = true)
    (hp : b.profiles = a.profiles) : LockedKept a b := by
  intro n hn
  refine ⟨?_, by rw [hp]⟩
  unfold Tables.locked at hn ⊢
  split at hn
  · rw [if_pos ‹_›]; exact h0 hn
  · rw [if_neg ‹_›]; exact h1 hn

section
variable (h : Head) (b : List Byte) (s : State)

theorem leaves_serveLoadProfile : Leaves LockedKept s (serveLoadProfile h b s) := by
  unfold serveLoadProfile
  split
  · exact leaves_refused lockedKept_refl ..
  · split
    · exact leaves_refused lockedKept_refl ..
    · rename_i hn
      exact leaves_done _ _ ⟨lockedKept_setProfile (by simpa using hn) _, rfl, rfl⟩

theorem leaves_serveLockBank : Leaves LockedKept s (serveLockBank h b s) := by
  unfold serveLockBank
  split
  · exact leaves_refused lockedKept_refl ..
  · refine leaves_ite ?_ (leaves_ite ?_ (leaves_refused lockedKept_refl ..))
    · exact leaves_done _ _ ⟨lockedKept_of_locks (fun _ => rfl) id rfl, rfl, rfl⟩
    · exact leaves_done _ _ ⟨lockedKept_of_locks id (fun _ => rfl) rfl, rfl, rfl⟩

theorem leaves_serveLoadServo (t : TransportId) : Leaves LockedKept s (serveLoadServo h b t s) := by
  refine leaves_ite (leaves_refused lockedKept_refl ..) ?_
  split
  · exact leaves_refused lockedKept_refl ..
  · rename_i x _
    obtain ⟨htables, hpending, hclock⟩ := storeStep_reserveFor h t s
    refine leaves_done _ _ ⟨?_, hpending, hclock⟩
    rw [htables]
    exact lockedKept_of_locks id id rfl

end

/-- Every command but the hard reset keeps what stands in locked banks, the queue and the clock. -/
theorem exec_leaves_locked {c : Instr} (hc : c ≠ .hardReset) (s : State) : Leaves LockedKept s (exec c s) := by
  cases c with
  | hardReset => exact absurd rfl hc
  | loadProfile h b => exact leaves_partFrame lockedKept_refl fun u => leaves_serveLoadProfile h b u
  | lockBank h b => exact leaves_partFrame lockedKept_refl fun u => leaves_serveLockBank h b u
  | loadServo h b => exact leaves_servoFrame lockedKept_refl fun t u => leaves_serveLoadServo h b u t
  | _ =>
    refine ⟨fun s' hr => ?_⟩
    obtain ⟨htables, hpending, hclock⟩ := (exec_leaves_tables id s).next s' hr
    exact ⟨htables ▸ lockedKept_refl s.tables, hpending, hclock⟩

/-! ### The statements -/

/-- Settles O5: LOAD PROFILE asks the lock, LOCK BANK only sets locks, and no other command reaches an entry (R173, R174). -/
theorem lockedBankNeverChanges : Obligations.LockedBankNeverChanges :=
  fun _ s s' hc hr => ((exec_leaves_locked hc s).next s' hr).tables

/-- Settles O6: every other command leaves the Table Store (R172 to R176). -/
theorem tablesChangeOnlyByTheirCommands : Obligations.TablesChangeOnlyByTheirCommands := by
  intro c s s' hr hprofile hlock hservo hreset
  have hc : ¬ ChangesTables c := by
    intro h
    unfold ChangesTables at h
    split at h
    · exact hreset rfl
    · exact hprofile _ _ rfl
    · exact hlock _ _ rfl
    · exact hservo _ _ rfl
    · exact h
  exact ((exec_leaves_tables hc s).next s' hr).tables.symm

/-- Settles O7: the hard reset writes neither field, and every other command leaves both (R179, log 1). -/
theorem execLeavesQueueAndClock : Obligations.ExecLeavesQueueAndClock := by
  intro c s s' hr
  by_cases hc : c = .hardReset
  · subst hc
    cases hr
    exact ⟨rfl, rfl⟩
  · obtain ⟨-, hpending, hclock⟩ := (exec_leaves_locked hc s).next s' hr
    exact ⟨hpending, hclock⟩

/-- Settles O2: the empty queue is the case of a step that ticks (log 1). -/
theorem emptyQueueStepIsOneMicrosecond : Obligations.EmptyQueueStepIsOneMicrosecond := by
  intro s hs
  have htick : step s = .next s.tick := by rw [step, hs]
  exact htick

end Sys2Proof.TableStore
end

section
/-! SUPPORT. Profile and servo records read back from their bytes (R184, R191), and the frames that load, lock and read the tables (R173, R174, R176), with their statements. -/

namespace Sys2Proof.TableStore

open Sys2Proof Sys2Proof.Machine Sys2Proof.OrderQueue Sys2Proof.FaultReports Sys2Proof.PortControl

/-! ### Numbers read back from their bytes -/

theorem bytesOf_succ (n : Nat) (v : Int) : bytesOf (n + 1) v = byteOf v n :: bytesOf n v := by
  simp [bytesOf, List.range_succ]

theorem foldl_bytesOf (n v acc : Nat) :
    (bytesOf n (v : Int)).foldl (fun acc x => acc * 256 + x.toNat) acc = acc * 256 ^ n + v % 256 ^ n := by
  induction n generalizing acc with
  | zero => simp [bytesOf, Nat.mod_one]
  | succ n ih =>
    rw [bytesOf_succ, List.foldl_cons, ih, toNat_byteOf, Nat.mod_pow_succ]
    ring

/-- The field that holds the bytes of a number, which fits it, is that number (R182, R184). -/
theorem fieldAt_bytesOf {b : List Byte} {i n v : Nat} (hb : (b.drop i).take n = bytesOf n v) (hv : v < 256 ^ n) :
    fieldAt b i n = v := by
  rw [fieldAt, hb, foldl_bytesOf, Nat.mod_eq_of_lt hv, Nat.zero_mul, Nat.zero_add]

theorem fieldAt_byte {b : List Byte} {i v : Nat} (hb : (b.drop i).take 1 = [BitVec.ofNat 8 v]) (hv : v < 256) :
    fieldAt b i 1 = v := by
  simp [fieldAt, hb, Nat.mod_eq_of_lt hv]

/-- The two bytes of a number are both 0 only for 0. -/
theorem byteOf_two_eq_zero {v : Nat} (hv : v < 2 ^ 16) : (byteOf (v : Int) 1 = 0 ∧ byteOf (v : Int) 0 = 0) ↔ v = 0 := by
  simp only [← BitVec.toNat_inj, toNat_byteOf, BitVec.reduceToNat, Nat.pow_zero, Nat.pow_one]
  omega

/-! ### Profile records -/

/-- The record of an entry carries it: every value fits its bytes, and a creep speed is not the 0 that stands for none. -/
structure FitsRecord (p : Profile) : Prop where
  top : p.vTop < 2 ^ 24
  acc : p.aAcc < 2 ^ 16
  dec : p.aDec < 2 ^ 16
  period : p.tR < 2 ^ 16
  priority : p.priority < 2 ^ 8
  creep : ∀ c, p.creep = some c → 0 < c ∧ c < 2 ^ 16

/-- The ranges that both classes share (R172). -/
def sharedRanges (p : Profile) : Bool :=
  inRange 1000 250000 p.vTop && inRange 1 65535 p.aAcc && inRange 1 65535 p.aDec && inRange 100 1000 p.tR &&
    decide (p.priority ≤ 7)

/-- The creep speed goes with the class: none for START-STOP, one in range for REWIND (R172). -/
def creepFits (p : Profile) : Bool :=
  match p.cls, p.creep with
  | .startStop, none => true
  | .rewind, some c => inRange 1000 20000 c && decide (c ≤ p.vTop)
  | .startStop, some _ | .rewind, none => false

theorem sharedRanges_iff (p : Profile) : sharedRanges p = true ↔ (1000 ≤ p.vTop ∧ p.vTop ≤ 250000) ∧
    (1 ≤ p.aAcc ∧ p.aAcc ≤ 65535) ∧ (1 ≤ p.aDec ∧ p.aDec ≤ 65535) ∧ (100 ≤ p.tR ∧ p.tR ≤ 1000) ∧ p.priority ≤ 7 := by
  simp only [sharedRanges, inRange, Bool.and_eq_true, decide_eq_true_eq, and_assoc]

theorem creepFits_iff (p : Profile) : creepFits p = true ↔ (p.cls = .startStop → p.creep = none) ∧
    (p.cls = .rewind → ∃ c, p.creep = some c ∧ 1000 ≤ c ∧ c ≤ 20000 ∧ c ≤ p.vTop) := by
  cases hcls : p.cls <;> cases hcreep : p.creep <;>
    simp [creepFits, hcls, hcreep, inRange, and_assoc]

theorem legal_iff (p : Profile) : p.Legal ↔ sharedRanges p = true ∧ creepFits p = true := by
  rw [sharedRanges_iff, creepFits_iff]
  constructor
  · rintro ⟨htop, hacc, hdec, hperiod, hpriority, hstartStop, hrewind⟩
    exact ⟨⟨htop, hacc, hdec, hperiod, hpriority⟩, hstartStop, hrewind⟩
  · rintro ⟨⟨htop, hacc, hdec, hperiod, hpriority⟩, hstartStop, hrewind⟩
    exact ⟨htop, hacc, hdec, hperiod, hpriority, hstartStop, hrewind⟩

theorem fitsRecord_of_legal {p : Profile} (hp : p.Legal) : FitsRecord p := by
  obtain ⟨htop, hacc, hdec, hperiod, hpriority, hstartStop, hrewind⟩ := hp
  refine ⟨by omega, by omega, by omega, by omega, by omega, fun c hc => ?_⟩
  cases hcls : p.cls with
  | startStop => rw [hstartStop hcls] at hc; cases hc
  | rewind =>
    obtain ⟨x, hx, hlow, hhigh, -⟩ := hrewind hcls
    obtain rfl : x = c := Option.some.inj (hx.symm.trans hc)
    omega

section
variable {p : Profile} (hf : FitsRecord p) (n : Fin 16)
include hf

theorem fieldAt_top : fieldAt (profileBytes n (some p)) 2 3 = p.vTop := fieldAt_bytesOf rfl hf.top

theorem profileFields_profileBytes :
    profileFields p.cls p.creep (profileBytes n (some p)) = if sharedRanges p then some p else none := by
  have hacc : fieldAt (profileBytes n (some p)) 5 2 = p.aAcc := fieldAt_bytesOf rfl hf.acc
  have hdec : fieldAt (profileBytes n (some p)) 7 2 = p.aDec := fieldAt_bytesOf rfl hf.dec
  have hperiod : fieldAt (profileBytes n (some p)) 9 2 = p.tR := fieldAt_bytesOf rfl hf.period
  have hpriority : fieldAt (profileBytes n (some p)) 11 1 = p.priority := fieldAt_byte rfl hf.priority
  simp only [profileFields, fieldAt_top hf n, hacc, hdec, hperiod, hpriority]
  rfl

theorem startStopEntry_profileBytes (hcls : p.cls = .startStop) :
    startStopEntry (profileBytes n (some p)) = if sharedRanges p && creepFits p then some p else none := by
  have h1 : byteAt (profileBytes n (some p)) 12 = byteOf ((p.creep.getD 0 : Nat) : Int) 1 := rfl
  have h0 : byteAt (profileBytes n (some p)) 13 = byteOf ((p.creep.getD 0 : Nat) : Int) 0 := rfl
  have hlength : (profileBytes n (some p)).length = 14 := rfl
  have hfields := profileFields_profileBytes hf n
  cases hcreep : p.creep with
  | none =>
    rw [hcls, hcreep] at hfields
    have hfits : creepFits p = true := by simp [creepFits, hcls, hcreep]
    rw [hcreep] at h1 h0
    simp [startStopEntry, hlength, h1, h0, byteOf, hfields, hfits]
  | some c =>
    have hfits : creepFits p = false := by simp [creepFits, hcls, hcreep]
    have hc := hf.creep c hcreep
    have hne : ¬ (byteOf (c : Int) 1 = 0 ∧ byteOf (c : Int) 0 = 0) := by
      rw [byteOf_two_eq_zero hc.2]; omega
    rw [hcreep, Option.getD_some] at h1 h0
    simp only [startStopEntry, hlength, h1, h0, hfits]
    rw [if_pos (by simpa [imp_iff_not_or] using hne)]
    simp

theorem rewindEntry_profileBytes (hcls : p.cls = .rewind) :
    rewindEntry (profileBytes n (some p)) = if sharedRanges p && creepFits p then some p else none := by
  have hcreepField : fieldAt (profileBytes n (some p)) 12 2 = p.creep.getD 0 := by
    refine fieldAt_bytesOf rfl ?_
    cases hcreep : p.creep with
    | none => decide
    | some c => exact (hf.creep c hcreep).2
  have hlength : (profileBytes n (some p)).length = 14 := rfl
  have hfields := profileFields_profileBytes hf n
  simp only [rewindEntry, hlength, hcreepField, fieldAt_top hf n]
  cases hcreep : p.creep with
  | none => simp [creepFits, hcls, hcreep, inRange]
  | some c =>
    rw [hcls, hcreep] at hfields
    simp only [creepFits, hcls, hcreep, Option.getD_some, hfields]
    cases inRange 1000 20000 c && decide (c ≤ p.vTop) <;> simp

/-- LOAD PROFILE reads an entry back from its record, and takes it when its values are in range (R172, R173, R191). -/
theorem profileRecord_profileBytes :
    profileRecord (profileBytes n (some p)) = if sharedRanges p && creepFits p then some (n, some p) else none := by
  have hlength : (profileBytes n (some p)).length = 14 := rfl
  have hn : profileNumber (byteAt (profileBytes n (some p)) 0) = some n := profileNumber_val n
  cases hcls : p.cls with
  | startStop =>
    have hclass : byteAt (profileBytes n (some p)) 1 = 1 := by simp [profileBytes, byteAt, classCode, hcls]
    simp only [profileRecord, hlength, hn, hclass, startStopEntry_profileBytes hf n hcls]
    cases sharedRanges p && creepFits p <;> rfl
  | rewind =>
    have hclass : byteAt (profileBytes n (some p)) 1 = 2 := by simp [profileBytes, byteAt, classCode, hcls]
    simp only [profileRecord, hlength, hn, hclass, rewindEntry_profileBytes hf n hcls]
    cases sharedRanges p && creepFits p <;> rfl

end

/-- The record of EMPTY is read back (R173, R191). -/
theorem profileRecord_empty (n : Fin 16) : profileRecord (profileBytes n none) = some (n, none) := by
  have hlength : (profileBytes n none).length = 14 := rfl
  have hn : profileNumber (byteAt (profileBytes n none) 0) = some n := profileNumber_val n
  have hclass : byteAt (profileBytes n none) 1 = 0 := rfl
  simp [profileRecord, hlength, hn, hclass]

theorem profileRecord_of_legal (n : Fin 16) {e : Option Profile} (he : ∀ p, e = some p → p.Legal) :
    profileRecord (profileBytes n e) = some (n, e) := by
  cases e with
  | none => exact profileRecord_empty n
  | some p =>
    have hp := he p rfl
    obtain ⟨hshared, hcreep⟩ := (legal_iff p).mp hp
    simp [profileRecord_profileBytes (fitsRecord_of_legal hp), hshared, hcreep]

theorem profileRecord_of_not_legal (n : Fin 16) {p : Profile} (hf : FitsRecord p) (hp : ¬ p.Legal) :
    profileRecord (profileBytes n (some p)) = none := by
  rw [profileRecord_profileBytes hf, if_neg (by simpa only [Bool.and_eq_true, ← legal_iff] using hp)]

/-! ### LOAD PROFILE, READ PROFILE and LOCK BANK -/

section
variable {h : Head} {b : List Byte} {s : State} (hunit : h.unit = 255) (ht : s.Takes h.port b)
include hunit ht

/-- A record for a bank that is not locked is stored (R173). -/
theorem exec_loadProfile_stores {n : Fin 16} {e : Option Profile} (hr : profileRecord b = some (n, e))
    (hn : s.tables.locked n = false) :
    exec (.loadProfile h b) s = .next ((setProfile n e s).answered h 0 []) := by
  have hserved : exec (.loadProfile h b) s = done h [] ((setProfile n e s).counted h.port) := by
    refine (partFrame_counted _ ht hunit).trans ?_
    simp only [serveLoadProfile, hr, counted_tables, hn]
    rfl
  exact hserved.trans (done_counted (s := setProfile n e s) (up_of_ready ht.ready) [])

theorem exec_loadProfile_badField (hr : profileRecord b = none) :
    exec (.loadProfile h b) s = .next (s.turnedAway h 0x26 []) := by
  refine (partFrame_counted _ ht hunit).trans ?_
  simp only [serveLoadProfile, hr]
  exact refused_counted (up_of_ready ht.ready) .badField

theorem exec_loadProfile_locked {n : Fin 16} {e : Option Profile} (hr : profileRecord b = some (n, e))
    (hn : s.tables.locked n = true) : exec (.loadProfile h b) s = .next (s.turnedAway h 0x27 []) := by
  refine (partFrame_counted _ ht hunit).trans ?_
  simp only [serveLoadProfile, hr, counted_tables, hn]
  exact refused_counted (up_of_ready ht.ready) .locked

end

/-- Settles O9: the legal entry is read back from its record, and stored in a bank that is not locked (R173, R191). -/
theorem loadProfileStoresTheEntry : Obligations.LoadProfileStoresTheEntry := by
  intro h n e s he hunit ht hn
  exact exec_loadProfile_stores hunit ht (profileRecord_of_legal n he) hn

/-- Settles O10: the record gives no entry, or one for a locked bank (R172 to R174). -/
theorem loadProfileRefusals : Obligations.LoadProfileRefusals := by
  intro h n p s hunit ht htop hacc hdec hperiod hpriority hcreep
  refine ⟨fun hp => ?_, fun hp hn => ?_⟩
  · have hf : FitsRecord p := ⟨htop, hacc, hdec, hperiod, hpriority, hcreep⟩
    exact exec_loadProfile_badField hunit ht (profileRecord_of_not_legal n hf hp)
  · refine exec_loadProfile_locked hunit ht (profileRecord_of_legal n (e := some p) ?_) hn
    rintro _ ⟨⟩
    exact hp

/-- Settles O11: by whether the number names an entry (R173). -/
theorem readProfileReturnsTheEntry : Obligations.ReadProfileReturnsTheEntry := by
  intro h x rest s hunit ht
  have hu := up_of_ready ht.ready
  have hserved : exec (.readProfile h (x :: rest)) s = serveReadProfile h (x :: rest) (s.counted h.port) :=
    partFrame_counted _ ht hunit
  refine ⟨fun hx => ?_, fun hx => ?_⟩
  · have hn : profileNumber x = some ⟨x.toNat, hx⟩ := dif_pos hx
    rw [hserved]
    simp only [serveReadProfile, hn, counted_tables, done_counted hu]
  · have hn : profileNumber x = none := dif_neg (Nat.not_lt.mpr hx)
    rw [hserved]
    simp only [serveReadProfile, hn]
    exact refused_counted hu .badField

/-- Settles O12: by the byte (R174). -/
theorem lockBankLocksTheNamedBank : Obligations.LockBankLocksTheNamedBank := by
  intro h x rest s hunit ht
  have hu := up_of_ready ht.ready
  have hserved : exec (.lockBank h (x :: rest)) s = serveLockBank h (x :: rest) (s.counted h.port) :=
    partFrame_counted _ ht hunit
  refine ⟨fun hx => ?_, fun hx => ?_, fun hx => ?_⟩ <;> rw [hserved]
  · subst hx
    exact done_counted (s := { s with tables := { s.tables with lock0 := true } }) hu []
  · subst hx
    exact done_counted (s := { s with tables := { s.tables with lock1 := true } }) hu []
  · have h0 : x ≠ 0 := by rintro rfl; exact absurd hx (by decide)
    have h1 : x ≠ 1 := by rintro rfl; exact absurd hx (by decide)
    simp only [serveLockBank, h0, h1, if_false]
    exact refused_counted hu .badField

/-! ### Servo records -/

/-- The bytes of a servo record one by one (R191). -/
theorem servoBytes_eq (r : ServoRecord) : r.bytes =
    [BitVec.ofNat 8 r.gFF, BitVec.ofNat 8 r.kp, BitVec.ofNat 8 r.kpRec, byteOf r.slew 1, byteOf r.slew 0,
      BitVec.ofNat 8 r.satLimit, BitVec.ofNat 8 r.setpoint, BitVec.ofNat 8 r.guardLow, BitVec.ofNat 8 r.guardHigh,
      BitVec.ofNat 8 r.recoveryLow, BitVec.ofNat 8 r.recoveryHigh, BitVec.ofNat 8 r.recoverySettle,
      byteOf r.recoveryLimit 1, byteOf r.recoveryLimit 0, byteOf r.kRad 2, byteOf r.kRad 1, byteOf r.kRad 0,
      byteOf r.window 1, byteOf r.window 0, 0, byteOf r.initialFile 1, byteOf r.initialFile 0,
      byteOf r.initialMachine 1, byteOf r.initialMachine 0, BitVec.ofNat 8 r.q, byteOf r.eotAllowance 2,
      byteOf r.eotAllowance 1, byteOf r.eotAllowance 0, BitVec.ofNat 8 r.tachTimeout, byteOf r.searchSpeed 1,
      byteOf r.searchSpeed 0, byteOf r.searchLimit 2, byteOf r.searchLimit 1, byteOf r.searchLimit 0,
      byteOf r.approach 2, byteOf r.approach 1, byteOf r.approach 0, byteOf r.drawDemand 1, byteOf r.drawDemand 0,
      byteOf r.drawLimit 1, byteOf r.drawLimit 0, byteOf r.windDemand 1, byteOf r.windDemand 0,
      BitVec.ofNat 8 (r.windTime / 100)] := by
  have htwo : ∀ v, bytesOf 2 v = [byteOf v 1, byteOf v 0] := fun _ => rfl
  have hthree : ∀ v, bytesOf 3 v = [byteOf v 2, byteOf v 1, byteOf v 0] := fun _ => rfl
  -- The unfolding equation of so long a definition is slow to derive; `delta` does without it.
  delta ServoRecord.bytes
  simp only [htwo, hthree, List.cons_append, List.nil_append]

/-- A servo record in its ranges is read back from its bytes (R175, R191). The unload wind time is sent in units of 100
ms, so it is read back when it is a whole number of them. -/
theorem servoFields_bytes {r : ServoRecord} (hv : r.valid = true) (hw : 100 ∣ r.windTime) : servoFields r.bytes = r := by
  simp only [ServoRecord.valid, ServoRecord.reelRanges, ServoRecord.sequenceRanges, inRange, Bool.and_eq_true,
    decide_eq_true_eq] at hv
  obtain ⟨⟨hreel, hsequence⟩, -⟩ := hv
  rw [servoBytes_eq]
  have hwind (b : List Byte) (hb : (b.drop 43).take 1 = [BitVec.ofNat 8 (r.windTime / 100)]) :
      fieldAt b 43 1 * 100 = r.windTime := by
    rw [fieldAt_byte hb (by omega)]
    exact Nat.div_mul_cancel hw
  obtain ⟨gFF, kp, kpRec, slew, satLimit, setpoint, guardLow, guardHigh, recoveryLow, recoveryHigh, recoverySettle,
    recoveryLimit, kRad, window, initialFile, initialMachine, q, eotAllowance, tachTimeout, searchSpeed, searchLimit,
    approach, drawDemand, drawLimit, windDemand, windTime⟩ := r
  simp only [servoFields, ServoRecord.mk.injEq]
  dsimp only at hreel hsequence
  refine ⟨fieldAt_byte rfl ?_, fieldAt_byte rfl ?_, fieldAt_byte rfl ?_, fieldAt_bytesOf rfl ?_, fieldAt_byte rfl ?_,
    fieldAt_byte rfl ?_, fieldAt_byte rfl ?_, fieldAt_byte rfl ?_, fieldAt_byte rfl ?_, fieldAt_byte rfl ?_,
    fieldAt_byte rfl ?_, fieldAt_bytesOf rfl ?_, fieldAt_bytesOf rfl ?_, fieldAt_bytesOf rfl ?_, fieldAt_bytesOf rfl ?_,
    fieldAt_bytesOf rfl ?_, fieldAt_byte rfl ?_, fieldAt_bytesOf rfl ?_, fieldAt_byte rfl ?_, fieldAt_bytesOf rfl ?_,
    fieldAt_bytesOf rfl ?_, fieldAt_bytesOf rfl ?_, fieldAt_bytesOf rfl ?_, fieldAt_bytesOf rfl ?_,
    fieldAt_bytesOf rfl ?_, hwind _ rfl⟩ <;> omega

theorem servoRecord_bytes {r : ServoRecord} (hv : r.valid = true) (hw : 100 ∣ r.windTime) :
    servoRecord r.bytes = some r := by
  have hlength : r.bytes.length = 44 := by rw [servoBytes_eq]; rfl
  simp [servoRecord, hlength, servoFields_bytes hv hw, hv]

theorem takesServo_iff (tr : Transport) : tr.takesServo = true ↔ tr.condition = .unloaded ∨ tr.condition = .faulted ∨
    (tr.condition = .loaded ∧ tr.phase = .stopped) := by
  simp [Transport.takesServo, or_assoc]

/-- READ SERVO answers any port (R165, R176). -/
theorem exec_readServo {h : Head} {t : TransportId} {s : State} (ht : s.Takes h.port []) (ha : s.addressed h = some t) :
    exec (.readServo h) s = .next (s.answered h 0 (s.servoOf t).bytes) := by
  have hserved : exec (.readServo h) s = done h (s.servoOf t).bytes (s.counted h.port) :=
    servoFrame_served (fun t s => done h (s.servoOf t).bytes s) ht.ready ht.fits ha rfl
  rw [hserved, done_counted (up_of_ready ht.ready)]

/-- LOAD SERVO from the owner, or at an unowned transport, reaches the transport (R164, R165). -/
theorem exec_loadServo {h : Head} {t : TransportId} {b : List Byte} {s : State} (ht : s.Takes h.port b)
    (hm : s.MaySend h t) : exec (.loadServo h b) s = serveLoadServo h b t (s.counted h.port) :=
  servoFrame_served _ ht.ready ht.fits hm.names (passes_of_maySend hm .reserving)

/-- Settles O13: the record is read back from its bytes and stored where the transport takes one, and READ SERVO answers
with the bytes of the stored one (R176, R191). -/
theorem servoRecordLoadsAndReads : Obligations.ServoRecordLoadsAndReads := by
  intro h t r s ht ha
  have hu := up_of_ready ht.ready
  refine ⟨exec_readServo (takes_empty ht) ha, fun ho hv hw => ?_⟩
  have hm : s.MaySend h t := ⟨ha, ho⟩
  have hiff := takesServo_iff (s.tr t)
  rw [exec_loadServo ht hm, serveLoadServo, tr_counted]
  split
  case isTrue hc =>
    simp only [hiff.mpr hc, servoRecord_bytes hv hw, reserveFor_eq (maySend_counted hm)]
    exact done_counted (s := setServo t r (s.setOwner t (some h.port))) hu []
  case isFalse hc =>
    have htakes : (s.tr t).takesServo = false := Bool.eq_false_iff.mpr fun h => hc (hiff.mp h)
    simp only [htakes]
    exact refused_counted hu .busy

end Sys2Proof.TableStore
end

section
/-! SUPPORT. The motion monitor (R178) and the counters (R181) as their frames set, report and clear them (R190), with the statements about them. -/

namespace Sys2Proof.Reports

open Sys2Proof Sys2Proof.Machine Sys2Proof.OrderQueue Sys2Proof.FaultReports Sys2Proof.PortControl Sys2Proof.GrantArbiter

/-! ### The motion monitor -/

theorem measureField_code (m : Measure) : measureField (BitVec.ofNat 8 m.code) = some m := by cases m <;> rfl

theorem transportField_transportByte (t : TransportId) : transportField (transportByte t) = some t := by cases t <;> rfl

theorem filterField_code (f : Filter) : filterField (BitVec.ofNat 8 f.code) = some f := by cases f <;> rfl

/-- SET MONITOR reads the record back from its three bytes and clears the rest of it (R178). -/
theorem monitorRecord_bytes (m : Measure) (t : TransportId) (f : Filter) :
    monitorRecord [BitVec.ofNat 8 m.code, transportByte t, BitVec.ofNat 8 f.code] =
      some { measure := m, transport := t, filter := f, samples := 0, last := none, maximum := none, running := none } := by
  simp [monitorRecord, byteAt, measureField_code, transportField_transportByte, filterField_code, idleMonitor]

theorem monitorBody_flags (m : Monitor) : ∀ x, (monitorBody m)[5]? = some x →
    x.getLsbD 0 = m.last.isSome ∧ x.getLsbD 1 = m.maximum.isSome ∧ x.getLsbD 2 = m.running.isSome := by
  intro x hx
  have hflags : (monitorBody m)[5]? =
      some (packed [(m.last.isSome.toNat, 0), (m.maximum.isSome.toNat, 1), (m.running.isSome.toNat, 2)]) := rfl
  exact packed_flags (Option.some.inj (hflags.symm.trans hx))

/-- A monitor record that SET MONITOR reads is stored (R178). -/
theorem exec_setMonitor {h : Head} {b : List Byte} {m : Monitor} {s : State} (hunit : h.unit = 255)
    (ht : s.Takes h.port b) (hr : monitorRecord b = some m) :
    exec (.setMonitor h b) s = .next (({ s with monitor := m } : State).answered h 0 []) := by
  refine (partFrame_counted _ ht hunit).trans ?_
  simp only [serveSetMonitor, hr]
  exact done_counted (s := { s with monitor := m }) (up_of_ready ht.ready) []

/-- READ MONITOR answers any port (R178). -/
theorem exec_readMonitor {h : Head} {s : State} (hunit : h.unit = 255) (ht : s.Takes h.port []) :
    exec (.readMonitor h) s = .next (s.answered h 0 (monitorBody s.monitor)) := by
  have hserved : exec (.readMonitor h) s = done h (monitorBody s.monitor) (s.counted h.port) :=
    partFrame_counted (fun s => done h (monitorBody s.monitor) s) ht hunit
  rw [hserved, done_counted (up_of_ready ht.ready)]

/-- Settles O18: the record is read back from its bytes, and each of its fields stands at its offset in the ten bytes of the
answer (R178, R190). -/
theorem monitorSetsAndReads : Obligations.MonitorSetsAndReads := by
  intro h m t f s hunit ht
  refine ⟨exec_setMonitor hunit ht (monitorRecord_bytes m t f), ?_⟩
  exact ⟨_, exec_readMonitor hunit (takes_empty ht), rfl, rfl, rfl, rfl, rfl, rfl, rfl, monitorBody_flags _⟩

/-! ### The counters -/

theorem length_portCountersBytes (c : PortCounters) : c.bytes.length = 8 := rfl

theorem length_transportCountersBytes (c : TransportCounters) : c.bytes.length = 8 := rfl

/-- READ COUNTERS sends the counters of Port A, Port B and T0 to T3 in turn (R190). -/
theorem countersBody_eq (s : State) : countersBody s =
    (s.port .a).counters.bytes ++ (s.port .b).counters.bytes ++ (s.tr .t0).counters.bytes ++ (s.tr .t1).counters.bytes ++
      (s.tr .t2).counters.bytes ++ (s.tr .t3).counters.bytes := by
  simp [countersBody, transportIds]

theorem length_countersBody (s : State) : (countersBody s).length = 48 := by
  simp [countersBody_eq, length_portCountersBytes, length_transportCountersBytes]

@[simp] theorem clearCounters_port (s : State) (p : PortId) :
    (clearCounters s).port p = (s.port p).setCounters zeroPortCounters := by
  cases p <;> rfl

/-- Clearing the counters forgets the count of the frame that asked for it (R181). -/
theorem clearCounters_counted (s : State) (p : PortId) : clearCounters (s.counted p) = clearCounters s := by
  cases p <;> rfl

/-- The ports after READ COUNTERS with the clear flag set: no counts, and the answer at the tail of its port's queue. -/
theorem port_cleared {h : Head} {s : State} (hu : (s.port h.port).up = true) (b : List Byte) (p : PortId) :
    (respond h .done b (clearCounters s)).port p = { s.port p with
      counters := zeroPortCounters
      tx := if p = h.port then (s.port p).tx ++
          [{ kind := .response, unit := h.unit, tag := h.tag, code := 0, body := b }]
        else (s.port p).tx } := by
  rw [respond_eq (by rw [clearCounters_port]; exact hu), State.port_setPort]
  split
  · subst p
    rw [clearCounters_port]
    rfl
  · rw [clearCounters_port]
    rfl

/-- Settles O19: by the flag byte (R181, R190). -/
theorem readCountersReportsAndClears : Obligations.ReadCountersReportsAndClears := by
  intro h x rest s hunit ht
  have hu := up_of_ready ht.ready
  have hserved : exec (.readCounters h (x :: rest)) s = serveReadCounters h (x :: rest) (s.counted h.port) :=
    partFrame_counted _ ht hunit
  intro two port transport report
  have hreport : countersBody (s.counted h.port) = report := countersBody_eq _
  rw [hserved]
  simp only [serveReadCounters, hreport]
  refine ⟨fun hx => ?report, fun hx => ?clear, fun hx => ?refuse, ?length⟩
  case report =>
    rw [if_pos hx, done_counted hu]
  case clear =>
    subst hx
    refine ⟨respond h .done report (clearCounters s), ?_, fun t => ?_, fun p => ?_, ?_⟩
    · rw [clearCounters_counted]
      rfl
    · rw [respond_eq (by rw [clearCounters_port]; exact hu), State.tr_setPort, clearCounters_tr]
      rfl
    · rw [port_cleared hu, hunit]
      rfl
    · rw [respond_eq (by rw [clearCounters_port]; exact hu)]
      exact ⟨rfl, rfl, rfl, rfl, rfl, rfl⟩
  case refuse =>
    have h0 : x ≠ 0 := by rintro rfl; exact absurd hx (by decide)
    have h1 : x ≠ 1 := by rintro rfl; exact absurd hx (by decide)
    rw [if_neg h0, if_neg h1]
    exact refused_counted hu .badField
  case length => rw [← hreport, length_countersBody]

end Sys2Proof.Reports
end

section
/-! SUPPORT. The frames that the part takes, there and back (R182, R183, R185): the receiver gathers the bytes of a whole frame, the check accepts what `envelope` closes, and the code names the command again. -/

namespace Sys2Proof.FrameCodes

open Sys2Proof Sys2Proof.Machine

/-! ### The receiver within a frame -/

theorem receiveBytes_cons {p : PortId} {r r' : Receiver} {x : Byte} {c : Option Instr}
    (hx : receiveByte p r x = (r', c)) (rest : List Byte) :
    receiveBytes p r (x :: rest) = ((receiveBytes p r' rest).1, c.toList ++ (receiveBytes p r' rest).2) := by
  simp only [receiveBytes, hx]

/-- Bytes as long as their own length byte says, from the kind byte to the last CRC byte, with a length that R182 allows. -/
structure WholeFrame (f : List Byte) : Prop where
  length : f.length = 7 + (byteAt f 4).toNat
  fits : (byteAt f 4).toNat ≤ 60

theorem byteAt_append_left {a : List Byte} {i : Nat} (hi : i < a.length) (b : List Byte) :
    byteAt (a ++ b) i = byteAt a i := List.getD_append _ _ _ _ hi

theorem byteAt_append_length (t : List Byte) (x : Byte) (rest : List Byte) : byteAt (t ++ x :: rest) t.length = x := by
  simp [byteAt]

section
variable {p : PortId} {t rest : List Byte} {x : Byte}

/-- No byte of a whole frame is a length above 60. -/
theorem not_longBody (hf : WholeFrame (t ++ x :: rest)) : ¬ ((t ++ [x]).length = 5 ∧ 60 < x.toNat) := by
  rintro ⟨hlen, hlong⟩
  have ht : t.length = 4 := by simpa using hlen
  have hx : byteAt (t ++ x :: rest) 4 = x := ht ▸ byteAt_append_length t x rest
  exact absurd (hx ▸ hf.fits) (Nat.not_le.mpr hlong)

/-- The receiver sees a whole frame end at its last byte and not before. -/
theorem frameEnds_iff (hf : WholeFrame (t ++ x :: rest)) :
    (5 ≤ (t ++ [x]).length ∧ (t ++ [x]).length = 7 + (byteAt (t ++ [x]) 4).toNat) ↔ rest = [] := by
  have hsplit : t ++ x :: rest = (t ++ [x]) ++ rest := by simp
  rw [hsplit] at hf
  have hlength : (t ++ [x]).length + rest.length = 7 + (byteAt (t ++ [x] ++ rest) 4).toNat := by
    rw [← List.length_append, hf.length]
  rw [← List.length_eq_zero_iff]
  constructor
  · rintro ⟨hfive, hend⟩
    rw [byteAt_append_left hfive] at hlength
    omega
  · intro hrest
    obtain rfl := List.length_eq_zero_iff.mp hrest
    rw [List.append_nil] at hlength
    exact ⟨by omega, by omega⟩

theorem receiveByte_within (hf : WholeFrame (t ++ x :: rest)) (hrest : rest ≠ []) :
    receiveByte p (some t) x = (some (t ++ [x]), none) := by
  simp only [receiveByte, if_neg (not_longBody hf), if_neg (mt (frameEnds_iff hf).mp hrest)]

theorem receiveByte_last (hf : WholeFrame (t ++ [x])) :
    receiveByte p (some t) x = (none, some (frameCommand p (t ++ [x]))) := by
  simp only [receiveByte, if_neg (not_longBody hf), if_pos ((frameEnds_iff hf).mpr rfl)]

/-- The rest of a whole frame completes its command, and the receiver hunts again (R183). -/
theorem receiveBytes_wholeFrame (hf : WholeFrame (t ++ x :: rest)) :
    receiveBytes p (some t) (x :: rest) = (none, [frameCommand p (t ++ x :: rest)]) := by
  induction rest generalizing t x with
  | nil => exact receiveBytes_cons (receiveByte_last hf) []
  | cons y rest ih =>
    have hsplit : t ++ x :: y :: rest = (t ++ [x]) ++ y :: rest := by simp
    rw [receiveBytes_cons (receiveByte_within hf (List.cons_ne_nil _ _)), hsplit, ih (hsplit ▸ hf)]
    rfl

end

/-! ### The check of a frame -/

/-- The kind byte of the frames that the part takes (R182). -/
def kindByte (k : InboundKind) : Byte :=
  match k with
  | .order => 1
  | .management => 2

/-- The command that a code names in frames of a kind (R185). -/
def codeCommand (k : InboundKind) (h : Head) (code : Byte) (body : List Byte) : Instr :=
  match k with
  | .order => orderCommand h code body
  | .management => managementCommand h code body

theorem length_crcBytes (b : List Byte) : (crcBytes b).length = 2 := FaultReports.length_bytesOf ..

section
variable {body : List Byte} (hb : body.length ≤ 60) (kind unit tag code : Byte)

include hb

/-- The length byte of a frame reads as the length of its body (R182). -/
theorem lengthByte_toNat (tail : List Byte) :
    (byteAt (coveredBytes kind unit tag code body ++ tail) 4).toNat = body.length := by
  show (BitVec.ofNat 8 body.length).toNat = body.length
  rw [BitVec.toNat_ofNat]
  exact Nat.mod_eq_of_lt (by omega)

theorem wholeFrame_covered : WholeFrame
    (coveredBytes kind unit tag code body ++ crcBytes (coveredBytes kind unit tag code body)) where
  length := by
    rw [lengthByte_toNat hb, List.length_append, length_crcBytes]
    simp [coveredBytes]
    omega
  fits := by rwa [lengthByte_toNat hb]

/-- A frame closed by its own CRC passes the check, and its fields are those it was made of (R182, R183). -/
theorem frameCommand_covered (k : InboundKind) (h : Head) :
    frameCommand h.port (coveredBytes (kindByte k) h.unit h.tag code body ++
      crcBytes (coveredBytes (kindByte k) h.unit h.tag code body)) = codeCommand k h code body := by
  have hlength : (coveredBytes (kindByte k) h.unit h.tag code body).length = 5 + body.length := by
    simp [coveredBytes]; omega
  simp only [frameCommand, lengthByte_toNat hb, ← hlength, List.drop_left, List.take_left, bne_self_eq_false,
    Bool.false_eq_true, if_false]
  have hbody : ((coveredBytes (kindByte k) h.unit h.tag code body ++
      crcBytes (coveredBytes (kindByte k) h.unit h.tag code body)).drop 5).take body.length = body := List.take_left ..
  rw [hbody]
  cases k with
  | order => rfl
  | management => rfl

end

/-! ### The codes -/

theorem knownCode_of_toNat {k : InboundKind} {code : Byte} {n : Nat} (hc : code.toNat = n)
    (hn : knownCode k (BitVec.ofNat 8 n) = true) : knownCode k code = true := by
  rwa [← hc, BitVec.ofNat_toNat, BitVec.setWidth_eq] at hn

/-- A code that names nothing of its kind gives the command for unknown codes (R163, R165). -/
theorem codeCommand_unknown {k : InboundKind} {code : Byte} (hk : knownCode k code = false) (h : Head)
    (body : List Byte) : codeCommand k h code body = .unknownCodeFrame h k code := by
  have hne : ∀ n, knownCode k (BitVec.ofNat 8 n) = true → code.toNat ≠ n := fun n hn hc => by
    rw [knownCode_of_toNat hc hn] at hk
    cases hk
  cases k with
  | order =>
    simp only [codeCommand, orderCommand]
    split
    case h_16 => rfl
    all_goals exact absurd ‹code.toNat = _› (hne _ (by decide))
  | management =>
    simp only [codeCommand, managementCommand]
    split
    case h_15 => rfl
    all_goals exact absurd ‹code.toNat = _› (hne _ (by decide))

theorem length_le_of_wellFormed {i : Instr} {b : List Byte} (hi : i.wellFormed = true) (hb : i.body? = some b) :
    b.length ≤ 60 := by
  simp only [Instr.wellFormed, Instr.bodyFits, hb, Bool.and_eq_true, decide_eq_true_eq] at hi
  exact hi.1

theorem knownCode_of_wellFormed {h : Head} {k : InboundKind} {code : Byte}
    (hi : (Instr.unknownCodeFrame h k code).wellFormed = true) : knownCode k code = false := by
  simpa [Instr.wellFormed, Instr.bodyFits, Instr.codeUnknown, Instr.body?] using hi

/-- What `Instr.frame?` gives of a well-formed command names that command again, with a body that a frame can carry
(R182, R185). -/
theorem codeCommand_of_frame {i : Instr} {h : Head} {kind code : Byte} {body : List Byte} (hi : i.wellFormed = true)
    (hf : i.frame? = some (h, kind, code, body)) :
    body.length ≤ 60 ∧ ∃ k, kind = kindByte k ∧ codeCommand k h code body = i := by
  cases i with
  | move _ _ | rewind _ _ | selectProfile _ _ =>
    cases hf
    exact ⟨length_le_of_wellFormed hi rfl, .order, rfl, rfl⟩
  | loadProfile _ _ | readProfile _ _ | lockBank _ _ | loadServo _ _ | setUnitMap _ _ | setVacuum _ _
  | setGrantLimit _ _ | setMonitor _ _ | readCounters _ _ =>
    cases hf
    exact ⟨length_le_of_wellFormed hi rfl, .management, rfl, rfl⟩
  | unload _ | load _ | stop _ | halt _ | pause _ | continueOrder _ | reserve _ | release _ | forceRelease _
  | clearFault _ | sense _ | readSnapshot _ =>
    cases hf
    exact ⟨Nat.zero_le _, .order, rfl, rfl⟩
  | readServo _ | readUnitMap _ | senseString _ | readMonitor _ | partReset _ =>
    cases hf
    exact ⟨Nat.zero_le _, .management, rfl, rfl⟩
  | unknownCodeFrame _ k _ =>
    have hunknown := codeCommand_unknown (knownCode_of_wellFormed hi)
    cases k with
    | order => cases hf; exact ⟨Nat.zero_le _, .order, rfl, hunknown _ _⟩
    | management => cases hf; exact ⟨Nat.zero_le _, .management, rfl, hunknown _ _⟩
  | _ => exact absurd hf nofun

/-- The bytes of a frame that the part takes: the sync byte opens it, and its last CRC byte completes the command. -/
theorem receiveBytes_envelope {body : List Byte} (hb : body.length ≤ 60) (k : InboundKind) (h : Head) (code : Byte) :
    receiveBytes h.port none (envelope (kindByte k) h.unit h.tag code body) = (none, [codeCommand k h code body]) := by
  have hsync : ∀ f, receiveBytes h.port none (0xA5 :: f) = receiveBytes h.port (some []) f := fun _ => rfl
  rw [← frameCommand_covered hb code k h, envelope, hsync]
  exact receiveBytes_wholeFrame (wholeFrame_covered hb ..)

/-- Settles O8: the bytes are gathered to the whole frame, the check accepts it, and its code names the command
(R182, R183, R185). -/
theorem frameBytesDecodeToTheirCommand : Obligations.FrameBytesDecodeToTheirCommand := by
  intro i p hi hp
  obtain ⟨⟨h, kind, code, body⟩, hf, rfl⟩ := Option.map_eq_some_iff.mp hp
  obtain ⟨hb, k, rfl, hcommand⟩ := codeCommand_of_frame hi hf
  simp only [Instr.frameBytes, hf]
  rw [receiveBytes_envelope hb, hcommand]

end Sys2Proof.FrameCodes
end

section
/-! SUPPORT. The step on a queue that holds a command (log 1), with its statement. -/

namespace Sys2Proof.QueueFront
open Sys2Proof Sys2Proof.Machine

/-- The case of a step that takes a command off the queue: the command runs with itself already removed (log 1). -/
theorem step_of_pending_cons {s : State} {c : Instr} {rest : List Instr} (hs : s.pending = c :: rest) :
    step s = exec c { s with pending := rest } := by
  rw [step, hs]

/-- Settles O1: the queue written into the state is the queue that the step takes its command from (log 1). -/
theorem stepRunsTheFrontCommand : Obligations.StepRunsTheFrontCommand := by
  intro s c rest
  have hfront : ({ s with pending := c :: rest } : State).pending = c :: rest := rfl
  exact step_of_pending_cons hfront

end Sys2Proof.QueueFront
end
section
/-! SUPPORT. What a safe state's safety reads, what the resets give it, and that every command keeps it, with the statements about the state after reset and about every step. -/

namespace Sys2Proof.SafeStates

open Sys2Proof Sys2Proof.Machine

/-! ### What safety reads -/

/-- The parts of a transport that its ranges and standing conditions read. -/
structure Read where
  reels : PerReel ReelServo
  position : Position
  botEdge : Int
  eotEdge : Int
  brakes : Bool
  valve : Bool
  condition : Condition
  grant : GrantState
  v : Int
  motion : Option Motion
  slot1 : Slot1
  queue : List OrderRecord

/-- What safety reads of a transport. -/
def readOf (tr : Transport) : Read :=
  { reels := tr.servo.reels, position := tr.sense.position, botEdge := tr.sense.botRun.edge
    eotEdge := tr.sense.eotRun.edge, brakes := tr.brakesEngaged, valve := tr.valveOpen, condition := tr.condition
    grant := tr.engine.grant, v := tr.engine.v, motion := tr.motion, slot1 := tr.hold.slot1, queue := tr.queue }

theorem inRange_of_readOf {x y : Transport} (hxy : readOf x = readOf y) (h : y.InRange) : x.InRange := by
  simp only [readOf, Read.mk.injEq] at hxy
  obtain ⟨hreels, hposition, hbot, heot, -, -, -, -, -, -, -, hqueue⟩ := hxy
  exact ⟨hreels ▸ h.file, hreels ▸ h.machine, hposition ▸ h.position, hbot ▸ h.botEdge, heot ▸ h.eotEdge,
    hqueue ▸ h.queue⟩

theorem braked_of_readOf {x y : Transport} (hxy : readOf x = readOf y) (h : y.Braked) : x.Braked := by
  simp only [readOf, Read.mk.injEq] at hxy
  obtain ⟨hreels, -, -, -, hbrakes, hvalve, hcondition, -, hv, hmotion, hslot, hqueue⟩ := hxy
  refine ⟨?_, ?_, ?_, ?_, ?_⟩
  · rw [hreels, hbrakes]; exact h.demands
  · rw [hbrakes, hvalve, hcondition]; exact h.unloaded
  · rw [hbrakes, hcondition]; exact h.faultedBrakes
  · rw [hv, hcondition]; exact h.faultedStill
  · rw [hmotion, hslot, hqueue, hcondition]; exact h.faultedEmpty

theorem grant_of_readOf {x y : Transport} (hxy : readOf x = readOf y) : x.engine.grant = y.engine.grant :=
  congrArg Read.grant hxy

/-- The arbiter's standing conditions see only the arbiter and the transports' own grant states. -/
theorem granted_of_grants {s u : State} (h : s.Granted) (ha : u.arbiter = s.arbiter)
    (hg : ∀ t, (u.tr t).engine.grant = (s.tr t).engine.grant) : u.Granted := by
  refine ⟨ha ▸ h.limit, fun t => ?_, fun t => ?_, ha ▸ h.order, ha ▸ h.once⟩
  · rw [ha, hg]; exact h.held t
  · rw [ha, hg]; exact h.requested t

section
variable {s u : State}

/-- A state in which safety reads the same of every transport. -/
theorem safe_of_read (h : s.Safe) (ht : ∀ t, readOf (u.tr t) = readOf (s.tr t)) (ha : u.arbiter = s.arbiter)
    (hv : u.vacuum.Ordered) (hs : u.tables.servo = s.tables.servo) : u.Safe where
  ranges := ⟨fun t => inRange_of_readOf (ht t) (h.ranges.transports t), fun t => by
    rw [State.servoOf, hs]; exact h.ranges.records t⟩
  braked t := braked_of_readOf (ht t) (h.braked t)
  vacuum := hv
  granted := granted_of_grants h.granted ha fun t => grant_of_readOf (ht t)

/-- A state with the same transports, arbiter, vacuum supply and servo records. -/
theorem safe_of_parts (h : s.Safe) (ht : u.transports = s.transports) (ha : u.arbiter = s.arbiter)
    (hv : u.vacuum = s.vacuum) (hs : u.tables.servo = s.tables.servo) : u.Safe :=
  safe_of_read h (fun t => by rw [State.tr_congr ht]) ha (hv ▸ h.vacuum) hs

variable {t : TransportId} {x : Transport}

/-- One transport replaced by one in its ranges and standing conditions. -/
theorem safe_setTr (h : s.Safe) (hr : x.InRange) (hb : x.Braked) (hg : x.engine.grant = (s.tr t).engine.grant) :
    (s.setTr t x).Safe where
  ranges := ⟨fun v => by
    rw [State.tr_setTr]; split
    · exact hr
    · exact h.ranges.transports v, h.ranges.records⟩
  braked v := by
    rw [State.tr_setTr]; split
    · exact hb
    · exact h.braked v
  vacuum := h.vacuum
  granted := granted_of_grants h.granted rfl fun v => by
    rw [State.tr_setTr]; split
    · subst v; exact hg
    · rfl

/-- One transport replaced by one of which safety reads the same. -/
theorem safe_setTr_read (h : s.Safe) (hx : readOf x = readOf (s.tr t)) : (s.setTr t x).Safe :=
  safe_setTr h (inRange_of_readOf hx (h.ranges.transports t)) (braked_of_readOf hx (h.braked t)) (grant_of_readOf hx)

/-- One transport that is not FAULTED replaced, its reels, position and brakes as they were. -/
theorem safe_setTr_live (h : s.Safe) (hc : (s.tr t).condition ≠ .faulted) (hq : x.queue.length ≤ 6)
    (hx : x.body = (s.tr t).body) : (s.setTr t x).Safe := by
  have hr : x.InRange := by
    have k : ({ x with queue := [] } : Transport).InRange :=
      Transport.inRange_of_body (y := s.tr t) hx (Nat.zero_le _) (h.ranges.transports t)
    exact ⟨k.file, k.machine, k.position, k.botEdge, k.eotEdge, hq⟩
  exact safe_setTr h hr (Transport.braked_of_body hx (fun _ k => absurd k hc) (h.braked t)) (congrArg Body.grant hx)

end

/-! ### The resets -/

theorem idleRun_edge_inRange : PositionInRange idleRun.edge := by constructor <;> decide

theorem resetTransport_inRange (l : Lines) {rec : ServoRecord} (snap : Option Snapshot) (h : rec.RadiiInRange) :
    (resetTransport l rec snap).InRange where
  file := idleReel_inRange h.fileLow h.fileHigh
  machine := idleReel_inRange h.machineLow h.machineHigh
  position := clearedPosition_inRange
  botEdge := idleRun_edge_inRange
  eotEdge := idleRun_edge_inRange
  queue := Nat.zero_le 6

theorem resetTransport_braked (l : Lines) (rec : ServoRecord) (snap : Option Snapshot) :
    (resetTransport l rec snap).Braked where
  demands _ := ⟨rfl, rfl⟩
  unloaded _ := ⟨rfl, rfl⟩
  faultedBrakes _ := rfl
  faultedStill _ := rfl
  faultedEmpty _ := ⟨rfl, rfl, rfl⟩

theorem defaultServo_radiiInRange : defaultServo.RadiiInRange := by constructor <;> decide

/-- A state whose transports are reset and whose arbiter has no holder and no request. -/
theorem safe_of_resets {u : State}
    (ht : ∀ t, ∃ l rec snap, rec.RadiiInRange ∧ u.tr t = resetTransport l rec snap)
    (hs : ∀ t, (u.servoOf t).RadiiInRange) (hl : u.arbiter.limit ≤ 4)
    (ha : u.arbiter = { resetArbiter with limit := u.arbiter.limit }) (hv : u.vacuum.Ordered) : u.Safe where
  ranges := ⟨fun t => by
    obtain ⟨l, rec, snap, hrec, htr⟩ := ht t
    rw [htr]; exact resetTransport_inRange l snap hrec, hs⟩
  braked t := by
    obtain ⟨l, rec, snap, -, htr⟩ := ht t
    rw [htr]; exact resetTransport_braked l rec snap
  vacuum := hv
  granted := by
    have hg : ∀ t, (u.tr t).engine.grant = .none := fun t => by
      obtain ⟨l, rec, snap, -, htr⟩ := ht t
      rw [htr]; rfl
    refine ⟨hl, fun t => ?_, fun t => ?_, ?_, ?_⟩
    · rw [hg, ha]; cases t <;> simp [resetArbiter, Quad.get]
    · rw [hg, ha]; simp [resetArbiter, Arbiter.lists]
    · rw [ha]; exact List.Pairwise.nil
    · rw [ha]; exact List.Pairwise.nil

theorem resetVacuum_ordered : resetVacuum.Ordered := ⟨by decide, by decide, nofun⟩

theorem defaultTables_radii (t : TransportId) : (defaultTables.servo.get t).RadiiInRange := by
  cases t <;> exact defaultServo_radiiInRange

/-- Settles O3: the state after reset is made of reset blocks. -/
theorem resetStateIsSafe : Obligations.ResetStateIsSafe := by
  refine safe_of_resets (fun t => ⟨initialLines, defaultServo, none, defaultServo_radiiInRange, ?_⟩)
    defaultTables_radii (by decide) rfl resetVacuum_ordered
  cases t <;> rfl

theorem execHardReset_tr (s : State) {u : State} (hu : execHardReset s = .next u) (t : TransportId) :
    u.tr t = resetTransport (s.tr t).lines defaultServo none := by
  cases hu
  cases t <;> rfl

theorem hardReset_safe (s : State) {u : State} (hu : execHardReset s = .next u) : u.Safe := by
  have htr := execHardReset_tr s hu
  cases hu
  exact safe_of_resets (fun t => ⟨_, _, _, defaultServo_radiiInRange, htr t⟩) defaultTables_radii
    (show 2 ≤ 4 by decide) rfl resetVacuum_ordered

/-! ### Outcomes -/

/-- The next state of an outcome, where it has one, is safe. -/
structure LeadsToSafe (r : Result) : Prop where
  next : ∀ u, r = .next u → u.Safe

section
variable {s : State}

theorem leadsToSafe_next (h : s.Safe) : LeadsToSafe (.next s) := by
  constructor
  rintro _ ⟨⟩
  exact h

theorem leadsToSafe_fault (x : Fault) : LeadsToSafe (.fault x) := ⟨fun _ h => nomatch h⟩

theorem leadsToSafe_refusal (x : Refusal) : LeadsToSafe (.refused x) := ⟨fun _ h => nomatch h⟩

theorem leadsToSafe_ite {p : Prop} [Decidable p] {a b : Result} (ha : p → LeadsToSafe a) (hb : ¬ p → LeadsToSafe b) :
    LeadsToSafe (if p then a else b) := by
  split
  · exact ha ‹_›
  · exact hb ‹_›

/-- A command that acts only where its condition holds, and otherwise changes nothing. -/
theorem leadsToSafe_when {p : Prop} [Decidable p] {r : Result} (hs : s.Safe) (hr : p → LeadsToSafe r) :
    LeadsToSafe (if p then r else .next s) :=
  leadsToSafe_ite hr fun _ => leadsToSafe_next hs

/-- A command that changes nothing where its condition holds. -/
theorem leadsToSafe_unless {p : Prop} [Decidable p] {r : Result} (hs : s.Safe) (hr : ¬ p → LeadsToSafe r) :
    LeadsToSafe (if p then .next s else r) :=
  leadsToSafe_ite (fun _ => leadsToSafe_next hs) hr

/-- The hand-offs of an event keep what its first state has (`handle_keeps`). -/
theorem leadsToSafe_finish {r : Reaction} (h : r.state.Safe) : LeadsToSafe (finish r) :=
  ⟨fun _ hr => (finish_keeps hr).safe h⟩

theorem leadsToSafe_answerDone {h : Head} {r : Reaction} (hr : r.state.Safe) : LeadsToSafe (answerDone h r) :=
  leadsToSafe_finish (r := r.andThen [.answer h .done []] []) hr

theorem leadsToSafe_mapNext {r : Result} {f : State → State} (hf : ∀ u, u.Safe → (f u).Safe) (hr : LeadsToSafe r) :
    LeadsToSafe (mapNext f r) := by
  cases r with
  | next u => exact leadsToSafe_next (hf u (hr.next u rfl))
  | fault x => exact leadsToSafe_fault x
  | refused x => exact leadsToSafe_refusal x

/-! ### Frames -/

theorem safe_setPort (hs : s.Safe) (p : PortId) (x : Port) : (s.setPort p x).Safe := safe_of_parts hs rfl rfl rfl rfl

theorem safe_setOwner (hs : s.Safe) (t : TransportId) (o : Option PortId) : (s.setOwner t o).Safe :=
  safe_of_parts hs rfl rfl rfl rfl

theorem leadsToSafe_done (hs : s.Safe) (h : Head) (b : List Byte) : LeadsToSafe (done h b s) :=
  leadsToSafe_next ((respond_keeps ..).safe hs)

theorem refuse_safe (hs : s.Safe) (h : Head) (st : Status) (b : List Byte) : (refuse h st b s).Safe :=
  (respond_keeps ..).safe (safe_setPort hs ..)

theorem leadsToSafe_refused (hs : s.Safe) (h : Head) (st : Status) : LeadsToSafe (refused h st s) :=
  leadsToSafe_next (refuse_safe hs ..)

theorem leadsToSafe_refuseNotOwner (hs : s.Safe) (h : Head) (t : TransportId) (b : List Byte) :
    LeadsToSafe (.next (refuseNotOwner h t b s)) :=
  leadsToSafe_next (refuse_safe (s := countRightsViolation t s) (safe_setTr_read hs rfl) ..)

variable {h : Head} {b : List Byte} {c : OrderClass}

theorem leadsToSafe_arrival (hs : s.Safe) {p : PortId} {serve : State → Result}
    (hserve : ∀ u, u.Safe → LeadsToSafe (serve u)) : LeadsToSafe (arrival p b serve s) := by
  constructor
  intro u hr
  obtain rfl | rfl | hserved := arrival_cases hr
  · exact hs
  · exact safe_setPort hs ..
  · exact (hserve _ (safe_setPort hs ..)).next u hserved

theorem leadsToSafe_unitFrame (hs : s.Safe) {serve : TransportId → State → Result}
    (hserve : ∀ t u, u.Safe → LeadsToSafe (serve t u)) : LeadsToSafe (unitFrame h c serve s) := by
  unfold unitFrame
  split
  · exact leadsToSafe_refused hs ..
  · exact leadsToSafe_ite (fun _ => hserve _ s hs) fun _ => leadsToSafe_refuseNotOwner hs ..

theorem leadsToSafe_orderFrame (hs : s.Safe) {o : Bool} {serve : TransportId → State → Result}
    (hserve : ∀ t u, u.Safe → LeadsToSafe (serve t u)) : LeadsToSafe (orderFrame h b c o serve s) :=
  leadsToSafe_arrival hs fun _ hu => leadsToSafe_unitFrame hu fun t v hv =>
    leadsToSafe_ite (fun _ => leadsToSafe_refused hv ..) fun _ => hserve t v hv

theorem leadsToSafe_servoFrame (hs : s.Safe) {serve : TransportId → State → Result}
    (hserve : ∀ t u, u.Safe → LeadsToSafe (serve t u)) : LeadsToSafe (servoFrame h b c serve s) :=
  leadsToSafe_arrival hs fun _ hu => leadsToSafe_unitFrame hu hserve

theorem leadsToSafe_partFrame (hs : s.Safe) {serve : State → Result} (hserve : ∀ u, u.Safe → LeadsToSafe (serve u)) :
    LeadsToSafe (partFrame h b serve s) :=
  leadsToSafe_arrival hs fun u hu => leadsToSafe_ite (fun _ => hserve u hu) fun _ => leadsToSafe_refused hu ..

end

/-! ### What begins an event

Behind these the hand-offs of the event follow. -/

section
variable (h : Head) (t : TransportId) {s : State} (hs : s.Safe)

theorem reserveFor_transports (s : State) : (reserveFor h t s).transports = s.transports := by
  unfold reserveFor
  split <;> rfl

include hs

theorem reserveFor_safe : (reserveFor h t s).Safe := by
  unfold reserveFor
  split
  · exact safe_setOwner hs ..
  · exact hs

theorem cancelRelease_safe : (cancelRelease h t s).Safe := by
  unfold cancelRelease
  split
  · split
    · exact (supersedeRelease_keeps ..).safe hs
    · exact hs
  · exact hs

theorem clearHolds_safe : (clearHolds t s).Safe := by
  have hb := hs.braked t
  refine safe_setTr hs (inRange_of_readOf (y := { s.tr t with hold := idleHold }) rfl ?_) ?_ rfl
  · obtain ⟨hfile, hmachine, hposition, hbot, heot, hqueue⟩ := hs.ranges.transports t
    exact ⟨hfile, hmachine, hposition, hbot, heot, hqueue⟩
  · exact ⟨hb.demands, hb.unloaded, hb.faultedBrakes, hb.faultedStill,
      fun k => ⟨(hb.faultedEmpty k).1, rfl, (hb.faultedEmpty k).2.2⟩⟩

theorem stopHeld_safe (hc : (s.tr t).condition = .loaded) : (stopHeld t s).state.Safe := by
  unfold stopHeld
  split
  · rename_i m _
    have hended := (finishOrder_keeps t m .doneEarly s).safe hs
    have hloaded : ((finishOrder t m .doneEarly s).tr t).condition ≠ .faulted := by
      simp [finishOrder, Transport.emptyMotion, hc]
    exact safe_setTr_live hended hloaded (hended.ranges.transports t).queue rfl
  · exact hs
  · exact hs

theorem stopEffect_safe : (stopEffect t s).state.Safe := by
  unfold stopEffect
  dsimp only
  split
  case h_1 | h_2 =>
    unfold stopWaiting
    split
    · exact hs
    · exact ((giveUpGrant_keeps ..).trans (endOrder_keeps ..)).safe hs
  case h_3 | h_4 => exact ((setEndReason_keeps ..).trans (beginDecel_keeps ..)).safe hs
  case h_5 => exact (setEndReason_keeps ..).safe hs
  case h_6 hc _ => exact stopHeld_safe t hs hc
  all_goals exact hs

theorem haltOrder_safe : (haltOrder t s).Safe := by
  have hgiven := giveUpGrant_keeps t s
  unfold haltOrder
  dsimp only
  split
  · exact hgiven.safe hs
  · exact (hgiven.trans (finishOrder_keeps ..)).safe hs

theorem haltLoaded_safe : (haltLoaded t s).state.Safe := by
  unfold haltLoaded
  split
  · have hflushed := ((setHaltReason_keeps t s).trans (flush_keeps t .aborted none _)).safe hs
    exact (beginDecel_keeps ..).safe (clearHolds_safe t hflushed)
  · have hflushed := (flush_keeps t .aborted none _).safe (haltOrder_safe t hs)
    exact (setPhase_keeps ..).safe (clearHolds_safe t hflushed)

theorem haltLoading_safe : (haltLoading t s).state.Safe := by
  unfold haltLoading
  dsimp only
  split
  · split
    · exact hs
    · exact (beginDecel_keeps ..).safe (clearHolds_safe t ((setHaltReason_keeps t s).safe hs))
  · exact (endLoadUnloaded_keeps ..).safe (clearHolds_safe t ((giveUpGrant_keeps t s).safe hs))

theorem completeUnload_safe (st flushed : Status) : (completeUnload t st flushed s).state.Safe := by
  have hended : Keeps s (endUnload t st flushed s) := by
    unfold endUnload
    dsimp only
    split
    · exact flush_keeps ..
    · exact (finishOrder_keeps ..).trans (flush_keeps ..)
  exact (hended.trans (enterUnloaded_keeps ..)).safe hs

theorem haltEffect_safe : (haltEffect t s).state.Safe := by
  unfold haltEffect
  split
  · exact haltLoaded_safe t hs
  · exact haltLoading_safe t hs
  · exact completeUnload_safe t hs ..
  · exact hs
  · exact hs

theorem forceEffect_safe (old : PortId) : (forceEffect h old t s).state.Safe :=
  safe_setPort (safe_setOwner ((supersedeRelease_keeps t _).safe (haltEffect_safe t hs)) ..) ..

theorem pauseEffect_safe : (pauseEffect t s).state.Safe := by
  unfold pauseEffect
  dsimp only
  split
  · exact safe_setTr_read hs rfl
  · exact hs

theorem continueEffect_safe : (continueEffect t s).state.Safe := safe_setTr_read hs rfl

/-- CLEAR FAULT releases the brakes or enters UNLOADED, and takes FAULTED with its conditions away (R115 to R117). -/
theorem clearFaultEffect_safe : (clearFaultEffect t s).state.Safe := by
  obtain ⟨hfile, hmachine, hposition, hbot, heot, hqueue⟩ := hs.ranges.transports t
  unfold clearFaultEffect
  dsimp only
  split
  · split
    · exact safe_setTr hs
        ⟨ReelServo.stopped_inRange hfile, ReelServo.stopped_inRange hmachine, clearedPosition_inRange,
          idleRun_edge_inRange, idleRun_edge_inRange, hqueue⟩
        ⟨fun _ => ⟨rfl, rfl⟩, fun _ => ⟨rfl, rfl⟩, nofun, nofun, nofun⟩ rfl
    · exact safe_setTr hs
        ⟨hfile, hmachine, ⟨hposition.count, hposition.eotPoint, hposition.lastBot, hposition.lastEot⟩, hbot, heot, hqueue⟩
        ⟨nofun, nofun, nofun, nofun, nofun⟩ rfl
  · exact hs

theorem tachDetection_safe : (tachDetection t s).state.Safe := by
  have hended := (setEndReason_keeps t .tach _).safe (safe_setTr_read (x := (s.tr t).tachDetected) hs rfl)
  unfold tachDetection
  dsimp only
  split
  · exact (beginDecel_keeps ..).safe hended
  · exact hended

theorem markerInactive_safe (m : Marker) : (markerInactive t m s).state.Safe := by
  cases m with
  | bot => exact (markerLeft_keeps ..).safe (safe_setTr_read hs rfl)
  | eot => exact safe_setTr_read hs rfl

theorem coverRead_safe : (coverRead t s).state.Safe := by
  unfold coverRead
  dsimp only
  split
  · exact (handFault_keeps ..).safe (safe_setTr_read hs rfl)
  · exact safe_setTr_read hs rfl

theorem onlineRead_safe : (onlineRead t s).Safe := by
  unfold onlineRead
  dsimp only
  split
  · exact hs
  · exact (attendAll_keeps ..).safe (safe_setTr_read hs rfl)

theorem placeHeld_safe (p : PortId) : (placeHeld p s).Safe :=
  safe_setPort ((Keeps.foldl (fun u t => attend_keeps p t .reservationLost [] u) _ s).safe hs) ..

/-- A pressure sample makes READY true only with the blower NORMAL (R137). -/
theorem vacuum_sampled_ordered (p : Nat) : (s.vacuum.sampled p).Ordered := by
  refine ⟨hs.vacuum.lossSag, hs.vacuum.sagRun, fun hready => ?_⟩
  by_contra hb
  have hsettle : nextSettle s.vacuum p = none := by
    have hb : s.vacuum.blower ≠ .normal := hb
    simp [nextSettle, hb]
  have hold : s.vacuum.ready = false := by
    by_contra k
    exact hb (hs.vacuum.ready (by simpa using k))
  simp [Vacuum.sampled, nextReady, hsettle, hold] at hready

end

/-! ### Commands that are no frames -/

section
variable (t : TransportId) {s : State} (hs : s.Safe)
include hs

theorem leadsToSafe_capstanCount (cta ctb : Bool) : LeadsToSafe (execCapstanCount t cta ctb s) := by
  have hphases : (setPhases t cta ctb s).Safe := safe_setTr_read hs rfl
  unfold execCapstanCount
  dsimp only
  split
  · exact leadsToSafe_next hphases
  · exact leadsToSafe_ite (fun _ => leadsToSafe_next hphases)
      fun _ => leadsToSafe_finish ((applyCount_keeps ..).safe hphases)

theorem safe_setReel (x : Reel) {y : ReelServo} (hy : ((s.tr t).servo.reels.get x).InRange → y.InRange)
    (hd : y.demand = ((s.tr t).servo.reels.get x).demand) :
    (s.setTr t { s.tr t with servo := { (s.tr t).servo with reels := (s.tr t).servo.reels.set x y } }).Safe := by
  obtain ⟨hfile, hmachine, hposition, hbot, heot, hqueue⟩ := hs.ranges.transports t
  obtain ⟨hdemands, hunloaded, hbrakes, hstill, hempty⟩ := hs.braked t
  cases x with
  | file =>
    exact safe_setTr hs ⟨hy hfile, hmachine, hposition, hbot, heot, hqueue⟩
      ⟨fun k => ⟨hd.trans (hdemands k).1, (hdemands k).2⟩, hunloaded, hbrakes, hstill, hempty⟩ rfl
  | machine =>
    exact safe_setTr hs ⟨hfile, hy hmachine, hposition, hbot, heot, hqueue⟩
      ⟨fun k => ⟨(hdemands k).1, hd.trans (hdemands k).2⟩, hunloaded, hbrakes, hstill, hempty⟩ rfl

theorem leadsToSafe_reelCount (x : Reel) : LeadsToSafe (execReelCount t x s) :=
  leadsToSafe_next (safe_setReel t hs x (y := ((s.tr t).servo.reels.get x).pulsed)
    (fun k => ⟨k.demandLow, k.demandHigh, k.satRun, k.radiusLow, k.radiusHigh, k.windowCount, Nat.min_le_left ..⟩) rfl)

theorem leadsToSafe_driveSaturation (x : Reel) : LeadsToSafe (execDriveSaturation t x s) :=
  leadsToSafe_when hs fun _ => leadsToSafe_finish ((handFault_keeps ..).safe (safe_setReel t hs x
    (y := { (s.tr t).servo.reels.get x with
      satRun := min smallCountTop (max ((s.tr t).servo.reels.get x).satRun (s.servoOf t).satLimit) })
    (fun k => ⟨k.demandLow, k.demandHigh, Nat.min_le_left .., k.radiusLow, k.radiusHigh, k.windowCount, k.reelCount⟩)
    rfl))

theorem leadsToSafe_markerInputChange (m : Marker) (a : Bool) : LeadsToSafe (execMarkerInputChange t m a s) :=
  leadsToSafe_unless hs fun _ => leadsToSafe_ite (fun _ => leadsToSafe_next (safe_setTr_read hs rfl))
    fun _ => leadsToSafe_finish (markerInactive_safe t hs m)

theorem leadsToSafe_coverChange (o : Bool) : LeadsToSafe (execCoverChange t o s) := by
  have hlines : (s.setTr t { s.tr t with lines := { (s.tr t).lines with coverOpen := o } }).Safe := safe_setTr_read hs rfl
  exact leadsToSafe_unless hs fun _ => leadsToSafe_ite (fun _ => leadsToSafe_finish (coverRead_safe t hlines))
    fun _ => leadsToSafe_next hlines

theorem leadsToSafe_transportPresentChange (p : Bool) : LeadsToSafe (execTransportPresentChange t p s) := by
  have hlines : (s.setTr t { s.tr t with lines := { (s.tr t).lines with present := p } }).Safe := safe_setTr_read hs rfl
  exact leadsToSafe_unless hs fun _ => leadsToSafe_ite
    (fun _ => leadsToSafe_finish (onlineRead_safe t (coverRead_safe t hlines))) fun _ => leadsToSafe_next hlines

theorem leadsToSafe_onlineSwitchChange (o : Bool) : LeadsToSafe (execOnlineSwitchChange t o s) := by
  have hlines : (s.setTr t { s.tr t with lines := { (s.tr t).lines with offlineSwitch := o } }).Safe :=
    safe_setTr_read hs rfl
  refine leadsToSafe_unless hs fun _ => leadsToSafe_next ?_
  dsimp only
  split
  · exact onlineRead_safe t hlines
  · exact hlines

theorem leadsToSafe_panelOrder (k : OrderKind) : LeadsToSafe (panelOrder t k s) := by
  refine leadsToSafe_when hs fun hidle => leadsToSafe_finish ?_
  simp only [Transport.panelIdle, Bool.and_eq_true, beq_iff_eq, List.isEmpty_iff] at hidle
  obtain ⟨⟨⟨⟨-, hloaded⟩, -⟩, hqueue⟩, -⟩ := hidle
  exact safe_setTr_live hs (by rw [hloaded]; nofun) (by simp [hqueue]) rfl

theorem leadsToSafe_markerCrossingQualified (m : Marker) : LeadsToSafe (execMarkerCrossingQualified t m s) := by
  refine leadsToSafe_when hs fun _ => leadsToSafe_finish (safe_setTr_read hs ?_)
  cases m <;> rfl

theorem leadsToSafe_pressureSample (p : Nat) : LeadsToSafe (finish (pressureSample p s)) :=
  leadsToSafe_finish (safe_of_read hs (fun _ => rfl) rfl (vacuum_sampled_ordered hs p) rfl)

theorem leadsToSafe_partResetHoldExpiry : LeadsToSafe (execPartResetHoldExpiry s) := by
  unfold execPartResetHoldExpiry
  split
  · exact leadsToSafe_next hs
  · refine leadsToSafe_done (s := { s with resetHold := none }) ?_ ..
    exact safe_of_parts hs rfl rfl rfl rfl

theorem tick_safe : s.tick.Safe := by
  refine safe_of_read hs (fun t => ?_) rfl ⟨hs.vacuum.lossSag, hs.vacuum.sagRun, hs.vacuum.ready⟩ rfl
  cases t <;> rfl

end

/-! ### Frames that are served -/

section
variable (h : Head) (b : List Byte) (t : TransportId) {s : State} (hs : s.Safe)

theorem endArrival_safe {u : State} (hu : u.Safe) : (endArrival t u).Safe := by
  obtain ⟨hfile, hmachine, hposition, hbot, heot, hqueue⟩ := hu.ranges.transports t
  obtain ⟨hdemands, hunloaded, hbrakes, hstill, hempty⟩ := hu.braked t
  refine safe_setTr hu ⟨hfile, hmachine, hposition, hbot, heot, by simpa [Transport.settled] using hqueue⟩
    ⟨hdemands, hunloaded, hbrakes, hstill, fun k => ?_⟩ rfl
  obtain ⟨hmotion, hslot, hnone⟩ := hempty k
  simp [Transport.settled, hmotion, hslot, hnone, Slot1.settled]

theorem supersedeRelease_readOf (s : State) (u : TransportId) :
    readOf ((supersedeRelease t s).tr u) = readOf (s.tr u) := by
  unfold supersedeRelease
  split
  · rfl
  · rw [answerRelease, State.tr_congr (place_transports ..), State.setRelease, State.tr_setTr]
    split
    · subst u; rfl
    · rfl

theorem cancelRelease_readOf (s : State) (u : TransportId) :
    readOf ((cancelRelease h t s).tr u) = readOf (s.tr u) := by
  unfold cancelRelease
  split
  · split
    · exact supersedeRelease_readOf ..
    · rfl
  · rfl

theorem room_of_joinRefusal {tables : Tables} {tr : Transport} {x : OrderRecord} (hx : joinRefusal tables tr x = none) :
    tr.queue.length < 6 := by
  unfold joinRefusal at hx
  split at hx
  · cases hx
  · split at hx
    · cases hx
    · exact Nat.lt_of_not_le ‹_›

theorem loaded_of_queuedRefusal {c : Condition} (hc : c.queuedRefusal = none) : c = .loaded := by
  cases c <;> first | rfl | cases hc

include hs

theorem leadsToSafe_joinOrder (x : OrderRecord) (hc : (s.tr t).condition = .loaded) (hq : (s.tr t).queue.length < 6) :
    LeadsToSafe (joinOrder h t x s) := by
  refine leadsToSafe_mapNext (fun u => endArrival_safe t) (leadsToSafe_finish ?_)
  have hsafe := cancelRelease_safe h t (reserveFor_safe h t hs)
  have hread : readOf ((cancelRelease h t (reserveFor h t s)).tr t) = readOf (s.tr t) := by
    rw [cancelRelease_readOf, State.tr_congr (reserveFor_transports h t s)]
  have hcondition := (congrArg Read.condition hread).trans hc
  have hqueue : ((cancelRelease h t (reserveFor h t s)).tr t).queue = (s.tr t).queue := congrArg Read.queue hread
  refine safe_setTr_live hsafe (fun k => ?_) ?_ rfl
  · exact nomatch k.symm.trans hcondition
  · simp only [hqueue, List.length_append, List.length_singleton]; omega

theorem leadsToSafe_serveQueued (x : Option OrderRecord) : LeadsToSafe (serveQueued h x t s) := by
  unfold serveQueued
  split
  · exact leadsToSafe_refused hs ..
  · exact leadsToSafe_refused hs ..
  · rename_i hc
    split
    · exact leadsToSafe_refused hs ..
    · rename_i hj
      exact leadsToSafe_joinOrder h t hs _ (loaded_of_queuedRefusal hc) (room_of_joinRefusal hj)

theorem leadsToSafe_serveLoad : LeadsToSafe (serveLoad h t s) := by
  unfold serveLoad
  split
  · exact leadsToSafe_refused hs ..
  · exact leadsToSafe_finish ((startLoad_keeps ..).safe (reserveFor_safe h t hs))

theorem leadsToSafe_servePause : LeadsToSafe (servePause h t s) := by
  unfold servePause
  split
  · exact leadsToSafe_refused hs ..
  · exact leadsToSafe_answerDone (pauseEffect_safe t (reserveFor_safe h t hs))

theorem leadsToSafe_serveContinue : LeadsToSafe (serveContinue h t s) :=
  leadsToSafe_ite (fun _ => leadsToSafe_refused hs ..)
    fun _ => leadsToSafe_answerDone (continueEffect_safe t (reserveFor_safe h t hs))

theorem leadsToSafe_serveSelect : LeadsToSafe (serveSelect h b t s) := by
  refine leadsToSafe_ite (fun _ => leadsToSafe_refused hs ..) fun _ => ?_
  split
  · exact leadsToSafe_refused hs ..
  · split
    · exact leadsToSafe_refused hs ..
    · refine leadsToSafe_done ?_ ..
      exact safe_setTr_read (reserveFor_safe h t hs) rfl

theorem leadsToSafe_serveReserve : LeadsToSafe (serveReserve h t s) := by
  unfold serveReserve
  split
  · exact leadsToSafe_done (safe_setOwner hs ..) ..
  · exact leadsToSafe_ite (fun _ => leadsToSafe_done hs ..) fun _ => leadsToSafe_refuseNotOwner hs ..

theorem leadsToSafe_releaseOwned : LeadsToSafe (releaseOwned h t s) := by
  have hsuperseded := (supersedeRelease_keeps t s).safe hs
  exact leadsToSafe_ite (fun _ => leadsToSafe_done (safe_setOwner hsuperseded ..) ..) fun _ =>
    leadsToSafe_ite (fun _ => leadsToSafe_next (refuse_safe hsuperseded ..))
      fun _ => leadsToSafe_next ((setRelease_keeps ..).safe hsuperseded)

theorem leadsToSafe_serveRelease : LeadsToSafe (serveRelease h t s) := by
  unfold serveRelease
  split
  · exact leadsToSafe_done hs ..
  · exact leadsToSafe_ite (fun _ => leadsToSafe_releaseOwned h t hs) fun _ => leadsToSafe_refuseNotOwner hs ..

theorem leadsToSafe_serveForce : LeadsToSafe (serveForce h t s) := by
  unfold serveForce
  split
  · exact leadsToSafe_done (safe_setOwner hs ..) ..
  · exact leadsToSafe_ite (fun _ => leadsToSafe_done hs ..) fun _ =>
      leadsToSafe_ite (fun _ => leadsToSafe_refuseNotOwner hs ..)
        fun _ => leadsToSafe_answerDone (forceEffect_safe h t hs _)

theorem leadsToSafe_serveLoadProfile : LeadsToSafe (serveLoadProfile h b s) := by
  unfold serveLoadProfile
  split
  · exact leadsToSafe_refused hs ..
  · refine leadsToSafe_ite (fun _ => leadsToSafe_refused hs ..) fun _ => leadsToSafe_done ?_ ..
    exact safe_of_parts hs rfl rfl rfl rfl

theorem leadsToSafe_serveReadProfile : LeadsToSafe (serveReadProfile h b s) := by
  unfold serveReadProfile
  split
  · exact leadsToSafe_refused hs ..
  · split
    · exact leadsToSafe_refused hs ..
    · exact leadsToSafe_done hs ..

theorem leadsToSafe_serveLockBank : LeadsToSafe (serveLockBank h b s) := by
  unfold serveLockBank
  split
  · exact leadsToSafe_refused hs ..
  · refine leadsToSafe_ite (fun _ => leadsToSafe_done ?_ ..) fun _ =>
      leadsToSafe_ite (fun _ => leadsToSafe_done ?_ ..) fun _ => leadsToSafe_refused hs ..
    · exact safe_of_parts hs rfl rfl rfl rfl
    · exact safe_of_parts hs rfl rfl rfl rfl

omit hs in
theorem radii_of_servoRecord {x : ServoRecord} (hx : servoRecord b = some x) : x.RadiiInRange := by
  unfold servoRecord at hx
  split at hx
  · cases hx
  · split at hx
    · rename_i hvalid
      cases hx
      simp only [ServoRecord.valid, ServoRecord.reelRanges, inRange, Bool.and_eq_true, decide_eq_true_eq] at hvalid
      obtain ⟨⟨⟨⟨-, hfile⟩, hmachine⟩, -⟩, -⟩ := hvalid
      exact ⟨hfile.1, hfile.2, hmachine.1, hmachine.2⟩
    · cases hx

theorem setServo_safe {x : ServoRecord} (hx : x.RadiiInRange) : (setServo t x s).Safe where
  ranges := ⟨hs.ranges.transports, fun u => by
    show ((s.tables.servo.set t x).get u).RadiiInRange
    rw [Quad.get_set]
    split
    · exact hx
    · exact hs.ranges.records u⟩
  braked := hs.braked
  vacuum := hs.vacuum
  granted := granted_of_grants hs.granted rfl fun _ => rfl

theorem leadsToSafe_serveLoadServo : LeadsToSafe (serveLoadServo h b t s) := by
  refine leadsToSafe_ite (fun _ => leadsToSafe_refused hs ..) fun _ => ?_
  split
  · exact leadsToSafe_refused hs ..
  · rename_i hx
    exact leadsToSafe_done (setServo_safe t (reserveFor_safe h t hs) (radii_of_servoRecord b hx)) ..

theorem leadsToSafe_serveSetUnitMap : LeadsToSafe (serveSetUnitMap h b s) := by
  unfold serveSetUnitMap
  split
  · exact leadsToSafe_refused hs ..
  · exact leadsToSafe_done (safe_setPort hs ..) ..

theorem leadsToSafe_serveSetVacuum : LeadsToSafe (serveSetVacuum h b s) := by
  refine leadsToSafe_ite (fun _ => leadsToSafe_refused hs ..) fun _ => ?_
  dsimp only
  split
  · exact leadsToSafe_refused hs ..
  · refine leadsToSafe_ite (fun horder => ?_) fun _ => leadsToSafe_refused hs ..
    simp only [Bool.and_eq_true, decide_eq_true_eq] at horder
    refine leadsToSafe_done ((reviewVacuum_keeps _).safe ?_) ..
    exact safe_of_read hs (fun _ => rfl) rfl ⟨horder.1, horder.2, hs.vacuum.ready⟩ rfl

theorem leadsToSafe_serveSetGrantLimit : LeadsToSafe (serveSetGrantLimit h b s) := by
  unfold serveSetGrantLimit
  split
  · exact leadsToSafe_refused hs ..
  · refine leadsToSafe_ite (fun _ => leadsToSafe_refused hs ..) fun hlimit => leadsToSafe_answerDone ?_
    exact ⟨⟨hs.ranges.transports, hs.ranges.records⟩, hs.braked, hs.vacuum,
      ⟨Nat.le_of_not_lt hlimit, hs.granted.held, hs.granted.requested, hs.granted.order, hs.granted.once⟩⟩

theorem leadsToSafe_serveSetMonitor : LeadsToSafe (serveSetMonitor h b s) := by
  unfold serveSetMonitor
  split
  · exact leadsToSafe_refused hs ..
  · refine leadsToSafe_done ?_ ..
    exact safe_of_parts hs rfl rfl rfl rfl

theorem leadsToSafe_serveReadCounters : LeadsToSafe (serveReadCounters h b s) := by
  unfold serveReadCounters
  split
  · exact leadsToSafe_refused hs ..
  · refine leadsToSafe_ite (fun _ => leadsToSafe_done hs ..) fun _ =>
      leadsToSafe_ite (fun _ => leadsToSafe_done ?_ ..) fun _ => leadsToSafe_refused hs ..
    refine safe_of_read hs (fun t => ?_) rfl hs.vacuum rfl
    cases t <;> rfl

theorem leadsToSafe_servePartReset : LeadsToSafe (servePartReset h s) := by
  refine leadsToSafe_next (safe_of_resets
    (fun t => ⟨(s.tr t).lines, s.servoOf t, (s.tr t).snapshot, hs.ranges.records t, ?_⟩) hs.ranges.records
    hs.granted.limit rfl ⟨hs.vacuum.lossSag, hs.vacuum.sagRun, nofun⟩)
  cases t <;> rfl

end

/-! ### Every command -/

/-- Every command leads from a safe state to a safe state. -/
theorem exec_leadsToSafe (c : Instr) {s : State} (hs : s.Safe) : LeadsToSafe (exec c s) := by
  cases c with
  | hardReset => exact ⟨fun u hu => hardReset_safe s hu⟩
  | capstanCount t a b => exact leadsToSafe_capstanCount t hs a b
  | reelCount t x => exact leadsToSafe_reelCount t hs x
  | servoSample t l => exact leadsToSafe_finish ((servoSample_keeps ..).safe hs)
  | rampStep t => exact leadsToSafe_finish ((rampStep_keeps ..).safe hs)
  | pressureSample p => exact leadsToSafe_pressureSample hs p.toNat
  | markerInputChange t m a => exact leadsToSafe_markerInputChange t hs m a
  | coverChange t o => exact leadsToSafe_coverChange t hs o
  | reelPresentChange t x p => exact leadsToSafe_next (safe_setTr_read hs rfl)
  | transportPresentChange t p => exact leadsToSafe_transportPresentChange t hs p
  | onlineSwitchChange t o => exact leadsToSafe_onlineSwitchChange t hs o
  | panelLoadPress t => exact leadsToSafe_when hs fun _ => leadsToSafe_finish ((startLoad_keeps ..).safe hs)
  | panelRewindPress t => exact leadsToSafe_panelOrder t hs .rewind
  | panelUnloadPress t => exact leadsToSafe_panelOrder t hs .unload
  | carrierUp p =>
    exact leadsToSafe_unless hs fun _ => leadsToSafe_next (placeHeld_safe (safe_setPort hs ..) p)
  | carrierDown p => exact leadsToSafe_when hs fun _ => leadsToSafe_next (safe_setPort hs ..)
  | transmissionEnd p => exact leadsToSafe_when hs fun _ => leadsToSafe_next (safe_setPort hs ..)
  | frameCheckFailure p d => exact leadsToSafe_unless hs fun _ => leadsToSafe_next (safe_setPort hs ..)
  | unknownCodeFrame h k x => exact leadsToSafe_arrival hs fun _ hu => leadsToSafe_refused hu h .unknownCode
  | move h b => exact leadsToSafe_orderFrame hs fun t _ hu => leadsToSafe_serveQueued h t hu _
  | rewind h b => exact leadsToSafe_orderFrame hs fun t _ hu => leadsToSafe_serveQueued h t hu _
  | unload h => exact leadsToSafe_orderFrame hs fun t _ hu => leadsToSafe_serveQueued h t hu _
  | load h => exact leadsToSafe_orderFrame hs fun t _ hu => leadsToSafe_serveLoad h t hu
  | stop h => exact leadsToSafe_orderFrame hs fun t _ hu => leadsToSafe_answerDone (stopEffect_safe t hu)
  | halt h => exact leadsToSafe_orderFrame hs fun t _ hu => leadsToSafe_answerDone (haltEffect_safe t hu)
  | pause h => exact leadsToSafe_orderFrame hs fun t _ hu => leadsToSafe_servePause h t hu
  | continueOrder h => exact leadsToSafe_orderFrame hs fun t _ hu => leadsToSafe_serveContinue h t hu
  | selectProfile h b => exact leadsToSafe_orderFrame hs fun t _ hu => leadsToSafe_serveSelect h b t hu
  | reserve h => exact leadsToSafe_orderFrame hs fun t _ hu => leadsToSafe_serveReserve h t hu
  | release h => exact leadsToSafe_orderFrame hs fun t _ hu => leadsToSafe_serveRelease h t hu
  | forceRelease h => exact leadsToSafe_orderFrame hs fun t _ hu => leadsToSafe_serveForce h t hu
  | clearFault h =>
    exact leadsToSafe_orderFrame hs fun t _ hu =>
      leadsToSafe_answerDone (clearFaultEffect_safe t (reserveFor_safe h t hu))
  | sense h => exact leadsToSafe_orderFrame hs fun _ _ hu => leadsToSafe_done hu h _
  | readSnapshot h => exact leadsToSafe_orderFrame hs fun _ _ hu => leadsToSafe_done hu h _
  | loadProfile h b => exact leadsToSafe_partFrame hs fun _ hu => leadsToSafe_serveLoadProfile h b hu
  | readProfile h b => exact leadsToSafe_partFrame hs fun _ hu => leadsToSafe_serveReadProfile h b hu
  | lockBank h b => exact leadsToSafe_partFrame hs fun _ hu => leadsToSafe_serveLockBank h b hu
  | loadServo h b => exact leadsToSafe_servoFrame hs fun t _ hu => leadsToSafe_serveLoadServo h b t hu
  | readServo h => exact leadsToSafe_servoFrame hs fun _ _ hu => leadsToSafe_done hu h _
  | setUnitMap h b => exact leadsToSafe_partFrame hs fun _ hu => leadsToSafe_serveSetUnitMap h b hu
  | readUnitMap h => exact leadsToSafe_partFrame hs fun _ hu => leadsToSafe_done hu h _
  | setVacuum h b => exact leadsToSafe_partFrame hs fun _ hu => leadsToSafe_serveSetVacuum h b hu
  | setGrantLimit h b => exact leadsToSafe_partFrame hs fun _ hu => leadsToSafe_serveSetGrantLimit h b hu
  | senseString h => exact leadsToSafe_partFrame hs fun _ hu => leadsToSafe_done hu h _
  | setMonitor h b => exact leadsToSafe_partFrame hs fun _ hu => leadsToSafe_serveSetMonitor h b hu
  | readMonitor h => exact leadsToSafe_partFrame hs fun _ hu => leadsToSafe_done hu h _
  | readCounters h b => exact leadsToSafe_partFrame hs fun _ hu => leadsToSafe_serveReadCounters h b hu
  | partReset h => exact leadsToSafe_partFrame hs fun _ hu => leadsToSafe_servePartReset h hu
  | partResetHoldExpiry => exact leadsToSafe_partResetHoldExpiry hs
  | tachLossDetection t => exact leadsToSafe_when hs fun _ => leadsToSafe_finish (tachDetection_safe t hs)
  | economyTimerExpiry => exact leadsToSafe_when hs fun _ => leadsToSafe_next ((economyExpiry_keeps s).safe hs)
  | vacuumStepExpiry t => exact leadsToSafe_when hs fun _ => leadsToSafe_finish ((endLoadUnloaded_keeps ..).safe hs)
  | drawLimitExpiry t => exact leadsToSafe_when hs fun _ => leadsToSafe_finish ((endLoadUnloaded_keeps ..).safe hs)
  | unloadWindExpiry t => exact leadsToSafe_when hs fun _ => leadsToSafe_finish (completeUnload_safe t hs ..)
  | readyBecomesTrue => exact leadsToSafe_finish ((settleComplete_keeps s).safe hs)
  | markerCrossingQualified t m => exact leadsToSafe_markerCrossingQualified t hs m
  | loopGuardTimerExpiry t | recoveryTimerExpiry t | tapeBreak t x | columnEnd t x e =>
    exact leadsToSafe_when hs fun _ => leadsToSafe_finish ((handFault_keeps ..).safe (safe_setTr_read hs rfl))
  | driveSaturation t x => exact leadsToSafe_driveSaturation t hs x
  | recoverySettled t => exact leadsToSafe_when hs fun _ => leadsToSafe_finish ((recoveryEnd_keeps ..).safe hs)
  | radiusWindowClose t x =>
    exact leadsToSafe_unless hs fun _ => leadsToSafe_next ((closeWindow_keeps ..).safe hs)
  | searchLimitReached t => exact leadsToSafe_finish ((searchLimitReached_keeps ..).safe hs)

/-- Settles O4: a step is one microsecond, which only runs timers down, or a command (log 1). -/
theorem everyStepKeepsSafe : Obligations.EveryStepKeepsSafe := by
  intro s u hs hstep
  unfold step at hstep
  split at hstep
  · cases hstep
    exact tick_safe hs
  · rename_i c rest _
    exact (exec_leadsToSafe c (s := { s with pending := rest }) (safe_of_parts hs rfl rfl rfl rfl)).next u hstep

end Sys2Proof.SafeStates
end
section
/-! SUPPORT. The radius windows (R3, R78 to R81): what a reel pulse and the close of a window change, and when the estimate stands, with their statement. -/

namespace Sys2Proof.RadiusWindows

open Sys2Proof Sys2Proof.Machine

/-- A window is accepted when it has a reel count and measures a plausible radius (R79). -/
theorem windowAccepted_iff (kRad n : Nat) : windowAccepted kRad n = true ↔
    n ≠ 0 ∧ 160 ≤ (2 * kRad + n) / (2 * n) ∧ (2 * kRad + n) / (2 * n) ≤ 560 := by
  simp only [windowAccepted, Bool.and_eq_true, bne_iff_ne, decide_eq_true_eq, and_assoc]
  rfl

theorem windowAccepted_eq_false_iff (kRad n : Nat) : windowAccepted kRad n = false ↔
    n = 0 ∨ (2 * kRad + n) / (2 * n) < 160 ∨ 560 < (2 * kRad + n) / (2 * n) := by
  rw [← Bool.not_eq_true, windowAccepted_iff]
  omega

/-- Outside UNLOADED the time before DRAW start is the VACUUM step of a LOAD, or a fault stop within it (R3, R81). -/
theorem beforeDraw_iff {tr : Transport} (hc : tr.condition ≠ .unloaded) : tr.beforeDraw = true ↔
    (tr.condition = .loading ∧ tr.load.step = some .vacuum) ∨
      (tr.condition = .faulted ∧ tr.valveOpen = false ∧ tr.snapshot.map Snapshot.condition = some .loading) := by
  cases h : tr.condition with
  | unloaded => exact absurd h hc
  | loading | loaded | unloading | faulted => simp [Transport.beforeDraw, h]

section
variable {s : State} {t : TransportId} {x : Reel}

theorem exec_radiusWindowClose (hc : (s.tr t).condition ≠ .unloaded) :
    exec (.radiusWindowClose t x) s = .next (closeWindow t x s) := by
  simp [exec, execRadiusWindowClose, hc]

/-- A rejected window restarts and is counted (R79). -/
theorem closeWindow_rejected (h : windowAccepted (s.servoOf t).kRad ((s.tr t).servo.reels.get x).reelCount = false) :
    closeWindow t x s = s.setTr t { s.tr t with
      servo := { (s.tr t).servo with
        reels := (s.tr t).servo.reels.set x { (s.tr t).servo.reels.get x with windowCount := 0, reelCount := 0 } }
      counters := { (s.tr t).counters with
        radiusRejections := min 65535 ((s.tr t).counters.radiusRejections + 1) } } := by
  simp [closeWindow, ReelServo.closeWindow, h, TransportCounters.rejected, satSucc, counterTop]

/-- An accepted window restarts, and moves the estimate unless DRAW start has not come (R80, R81). -/
theorem closeWindow_accepted (h : windowAccepted (s.servoOf t).kRad ((s.tr t).servo.reels.get x).reelCount = true) :
    closeWindow t x s = s.setTr t { s.tr t with
      servo := { (s.tr t).servo with
        reels := (s.tr t).servo.reels.set x { (s.tr t).servo.reels.get x with
          windowCount := 0, reelCount := 0
          radius := if (s.tr t).beforeDraw = true then ((s.tr t).servo.reels.get x).radius
            else movedRadius ((s.tr t).servo.reels.get x).radius
              (measuredRadius (s.servoOf t).kRad ((s.tr t).servo.reels.get x).reelCount) } } } := by
  cases hb : (s.tr t).beforeDraw <;> simp [closeWindow, ReelServo.closeWindow, h, hb, TransportCounters.rejected]

end

/-- Settles O43: a reel pulse, and a window's close by UNLOADED, rejection and DRAW start. -/
theorem radiusWindowCountsAndCloses : Obligations.RadiusWindowCountsAndCloses := by
  intro t x s tr w n measured put before
  refine ⟨rfl, fun hc => ?unloaded, fun hc hn => ?rejected, fun hc hn hlow hhigh hb => ?kept,
    fun hc hn hlow hhigh hb => ?moved⟩
  case unloaded =>
    have hc : (s.tr t).condition = .unloaded := hc
    simp [exec, execRadiusWindowClose, hc]
  case rejected =>
    rw [exec_radiusWindowClose hc, closeWindow_rejected ((windowAccepted_eq_false_iff ..).mpr hn)]
  case kept =>
    rw [exec_radiusWindowClose hc, closeWindow_accepted ((windowAccepted_iff ..).mpr ⟨hn, hlow, hhigh⟩),
      if_pos ((beforeDraw_iff hc).mpr hb)]
  case moved =>
    rw [exec_radiusWindowClose hc, closeWindow_accepted ((windowAccepted_iff ..).mpr ⟨hn, hlow, hhigh⟩),
      if_neg (fun h => hb ((beforeDraw_iff hc).mp h))]
    rfl

end Sys2Proof.RadiusWindows
end

section
/-! SUPPORT. The hard reset (log 4), and the input changes of the marker, cover and reel sensors (R7, R12, R13, R152), with their statements. -/

namespace Sys2Proof.InputChanges

open Sys2Proof Sys2Proof.Machine Sys2Proof.OrderQueue Sys2Proof.RampEngine Sys2Proof.Resumption

/-- Settles O22: the hard reset rebuilds every block of the reset state around the input lines and the carriers (log 4). -/
theorem hardResetLeavesTheResetState : Obligations.HardResetLeavesTheResetState := by
  intro s
  refine ⟨_, rfl, fun t => ?transport, fun p => ?port, rfl, rfl, rfl, rfl, rfl, rfl, rfl, rfl, rfl⟩
  case transport => cases t <;> rfl
  case port => cases p <;> rfl

/-! ### Attentions -/

/-- An attention placed beside a change of the transport reaches each port as `State.attended` says (R161). -/
theorem attendAll_told {s : State} {t : TransportId} (k : AttentionKind) (field : List Byte) (hr : s.resetHold = none)
    (x : Transport) : let w := s.setTr t x
    ∃ u, attendAll (attentionPorts (w.owner t) w) t k field w = u ∧ u = { w with ports := u.ports } ∧
      ∀ p, u.port p = s.attended t k.code field p := by
  intro w
  obtain ⟨y, hy⟩ := attendAll_eq (attentionPorts (w.owner t) w) t k field w
  refine ⟨_, rfl, by rw [hy], fun p => ?_⟩
  rw [port_attentions, if_neg (by simp [w, hr])]
  exact attended_congr rfl rfl k.code field

/-! ### Marker inputs -/

/-- The transport once its BOT marker input has become inactive: the run has ended (R7). -/
def botLeft (tr : Transport) : Transport :=
  { tr with
    lines := { tr.lines with bots := false }
    sense := { tr.sense with botRun := { tr.sense.botRun with count := 0, qualified := false } } }

theorem exec_botInputLeaves {s : State} {t : TransportId} (hb : (s.tr t).lines.bots = true) :
    exec (.markerInputChange t .bot false) s = finish (markerLeft t (s.setTr t (botLeft (s.tr t)))) := by
  simp only [exec, execMarkerInputChange, Lines.marker, hb, Bool.true_eq_false, Bool.false_eq_true, if_false,
    markerInactive, Lines.setMarker]
  rfl

section
variable {u : State} {t : TransportId}

/-- Outside CLEARING the BOT marker leaves the sensor without more (R152). -/
theorem markerLeft_idle (hs : (u.tr t).load.step ≠ some .clearing) : markerLeft t u = Reaction.idle u := by
  unfold markerLeft
  dsimp only
  split
  · exact absurd ‹_› hs
  · rfl

variable {m : Motion} (hm : (u.tr t).current = some m) (hs : (u.tr t).load.step = some .clearing)
include hm hs

/-- In ACCEL and CRUISE CLEARING becomes REVERSE STOP with a deceleration (R152). -/
theorem markerLeft_decelerates (hp : (u.tr t).phase = .accel ∨ (u.tr t).phase = .cruise) :
    markerLeft t u = beginDecel t .decel
      (u.setTr t { u.tr t with load := { (u.tr t).load with step := some .reverseStop } }) := by
  obtain hp | hp := hp <;> simp only [markerLeft, hm, hs, hp, decelWithoutReason]

/-- In a deceleration the marker-cleared flag notes it (R152). -/
theorem markerLeft_noted (hp : (u.tr t).phase = .decel ∨ (u.tr t).phase = .holdDecel) :
    markerLeft t u = Reaction.idle
      (u.setTr t { u.tr t with load := { (u.tr t).load with markerCleared := true } }) := by
  obtain hp | hp := hp <;> simp only [markerLeft, hm, hs, hp]

/-- In a wait and in HELD the sub-step becomes FORWARD CREEP at once (R152). -/
theorem markerLeft_creeps
    (hp : (u.tr t).phase = .waitVacuum ∨ (u.tr t).phase = .waitGrant ∨ (u.tr t).phase = .held) :
    markerLeft t u = Reaction.idle (u.setTr t ((u.tr t).forwardCreep m)) := by
  obtain hp | hp | hp := hp <;> simp only [markerLeft, hm, hs, hp]

end

theorem forwardCreep_of_motion {tr : Transport} {m : Motion} (hm : tr.motion = some m) : tr.forwardCreep m = { tr with
    motion := some { m with direction := .forward }
    load := { tr.load with step := some .forwardCreep, searchCount := 0 }
    engine := { tr.engine with workTop := some (m.copy.creep.getD m.copy.vTop) } } := by
  simp [Transport.forwardCreep, Transport.setCurrent, hm, Profile.creepSpeed]

theorem forwardCreep_of_slot {tr : Transport} {m : Motion} (hm : tr.motion = none) (h1 : tr.hold.slot1 = .saved m) :
    tr.forwardCreep m = { tr with
      hold := { tr.hold with slot1 := .saved { m with direction := .forward } }
      load := { tr.load with step := some .forwardCreep, searchCount := 0 }
      engine := { tr.engine with workTop := some (m.copy.creep.getD m.copy.vTop) } } := by
  simp [Transport.forwardCreep, Transport.setCurrent, hm, h1, Profile.creepSpeed]

/-! ### Levels -/

theorem exec_coverChange_read {s : State} {t : TransportId} {b : Bool} (hb : b ≠ (s.tr t).lines.coverOpen)
    (hp : (s.tr t).lines.present = true) : exec (.coverChange t b) s =
      finish (coverRead t (s.setTr t { s.tr t with lines := { (s.tr t).lines with coverOpen := b } })) := by
  simp [exec, execCoverChange, hb.symm, hp]

/-- A cover that is CLOSED, or read in UNLOADED, is only held (R12). -/
theorem coverRead_held {s : State} {t : TransportId}
    (h : (s.tr t).lines.coverOpen = false ∨ (s.tr t).condition = .unloaded) :
    coverRead t s = Reaction.idle
      (s.setTr t { s.tr t with sense := { (s.tr t).sense with coverOpen := (s.tr t).lines.coverOpen } }) := by
  have hn : ((s.tr t).lines.coverOpen && (s.tr t).condition != .unloaded) = false := by
    obtain h | h := h <;> simp [h]
  simp [coverRead, hn]

/-- While the transport is ABSENT a change of the cover is a level only (R13). -/
theorem exec_coverChange_absent {s : State} {t : TransportId} (b : Bool) (hp : (s.tr t).lines.present = false) :
    exec (.coverChange t b) s = .next (s.setTr t { s.tr t with lines := { (s.tr t).lines with coverOpen := b } }) := by
  by_cases hb : (s.tr t).lines.coverOpen = b
  · have hsame : ({ s.tr t with lines := { (s.tr t).lines with coverOpen := b } } : Transport) = s.tr t := by
      rw [← hb]
    rw [hsame, State.setTr_tr]
    simp [exec, execCoverChange, hb]
  · simp [exec, execCoverChange, hb, hp]

/-- Settles O51: each input by its level, BOTS leaving by sub-step and phase (R7, R12, R13, R152). -/
theorem sensorLevelsAreHeld : Obligations.SensorLevelsAreHeld := by
  intro t s tr
  have hw : (s.setTr t (botLeft tr)).tr t = botLeft tr := State.tr_setTr_self ..
  refine ⟨fun h => ?botActive, fun h => ?eotActive, fun h => ?eotInactive, fun h => ⟨fun hs => ?botPlain,
    fun hs hm hp => ?botNoted, fun hs hm hp hf => ?botDecelerates, fun m hs => ⟨fun hm hp => ?botCreeps,
      fun hm h1 hp => ?botCreepsHeld⟩⟩, fun b hb hp hc => ?cover, fun b hp => exec_coverChange_absent b hp,
    fun b => rfl, fun b => rfl⟩
  case botActive =>
    have h : (s.tr t).lines.bots = false := h
    simp [exec, execMarkerInputChange, Lines.marker, Lines.setMarker, h, tr]
  case eotActive =>
    have h : (s.tr t).lines.eots = false := h
    simp [exec, execMarkerInputChange, Lines.marker, Lines.setMarker, h, tr]
  case eotInactive =>
    have h : (s.tr t).lines.eots = true := h
    simp [exec, execMarkerInputChange, Lines.marker, Lines.setMarker, h, tr, markerInactive, Sense.setRun, Sense.run,
      MarkerRun.ended]
  case botPlain =>
    rw [exec_botInputLeaves h, markerLeft_idle (by rw [hw]; exact hs), finish_idle]
    rfl
  case botNoted =>
    obtain ⟨m, hm⟩ := Option.ne_none_iff_exists'.mp hm
    rw [exec_botInputLeaves h, markerLeft_noted (m := m) (by rw [hw]; exact Transport.current_of_motion hm)
      (by rw [hw]; exact hs) (by rw [hw]; exact hp), finish_idle, hw, State.setTr_setTr]
    rfl
  case botDecelerates =>
    obtain ⟨m, hm⟩ := Option.ne_none_iff_exists'.mp hm
    rw [exec_botInputLeaves h, markerLeft_decelerates (m := m) (by rw [hw]; exact Transport.current_of_motion hm)
      (by rw [hw]; exact hs) (by rw [hw]; exact hp), hw, State.setTr_setTr,
      finish_beginDecel (freeToLetGo_setTr hf (by rfl)), setPhase_setTr]
    rfl
  case botCreeps =>
    rw [exec_botInputLeaves h, markerLeft_creeps (m := m) (by rw [hw]; exact Transport.current_of_motion hm)
      (by rw [hw]; exact hs) (by rw [hw, ← or_assoc]; exact .inl hp), finish_idle, hw, State.setTr_setTr,
      forwardCreep_of_motion (tr := botLeft tr) hm]
    rfl
  case botCreepsHeld =>
    rw [exec_botInputLeaves h, markerLeft_creeps (m := m) (by rw [hw]; exact Transport.current_of_slot hm h1)
      (by rw [hw]; exact hs) (by rw [hw]; exact .inr (.inr hp)), finish_idle, hw, State.setTr_setTr,
      forwardCreep_of_slot (tr := botLeft tr) hm h1]
    rfl
  case cover =>
    rw [exec_coverChange_read hb hp, coverRead_held (by simpa using hc.symm), finish_idle]
    simp [tr]

/-! ### The online switch and the presence of a transport -/

section
variable {s : State} {t : TransportId} {x : Transport}

/-- Where the flag agrees with the switch, reading it changes nothing (R14). -/
theorem onlineRead_same (h : x.sense.offline = x.lines.offlineSwitch) : onlineRead t (s.setTr t x) = s.setTr t x := by
  simp [onlineRead, h]

/-- Where the flag differs from the switch it takes over the level, and ONLINE CHANGE goes out (R14, R161). -/
theorem onlineRead_changes (hr : s.resetHold = none) (h : x.sense.offline ≠ x.lines.offlineSwitch) :
    ∃ u, onlineRead t (s.setTr t x) = u ∧
      u = { s.setTr t { x with sense := { x.sense with offline := x.lines.offlineSwitch } } with ports := u.ports } ∧
      ∀ p, u.port p = s.attended t 3 [if x.lines.offlineSwitch then 1 else 0] p := by
  obtain ⟨u, hu, hstate, hports⟩ := attendAll_told (t := t) .onlineChange [if x.lines.offlineSwitch then 1 else 0] hr
    { x with sense := { x.sense with offline := x.lines.offlineSwitch } }
  refine ⟨u, ?_, hstate, hports⟩
  simp only [onlineRead, State.tr_setTr_self, h, if_false, State.setTr_setTr]
  exact hu

end

/-- A transport that becomes present reads its cover, here without a fault stop, and then its online switch (R13). -/
theorem exec_transportPresentChange {s : State} {t : TransportId} (hp : (s.tr t).lines.present = false)
    (hc : (s.tr t).lines.coverOpen = false ∨ (s.tr t).condition = .unloaded) :
    exec (.transportPresentChange t true) s = .next (onlineRead t (s.setTr t { s.tr t with
      lines := { (s.tr t).lines with present := true }
      sense := { (s.tr t).sense with coverOpen := (s.tr t).lines.coverOpen } })) := by
  have hread := coverRead_held (s := s.setTr t { s.tr t with lines := { (s.tr t).lines with present := true } })
    (t := t) (by simpa using hc)
  simp only [exec, execTransportPresentChange, hp, Bool.false_eq_true, if_false, if_true, hread, State.tr_setTr_self,
    State.setTr_setTr]
  rfl

/-- A change of the switch is its level, and is read where the transport is present (R13, R14). -/
theorem exec_onlineSwitchChange {s : State} {t : TransportId} {b : Bool} (hb : b ≠ (s.tr t).lines.offlineSwitch) :
    let w := s.setTr t { s.tr t with lines := { (s.tr t).lines with offlineSwitch := b } }
    exec (.onlineSwitchChange t b) s = .next (if (s.tr t).lines.present = true then onlineRead t w else w) :=
  if_neg hb.symm

/-- Settles O52: the online switch and the presence line of a transport that is present or ABSENT (R13, R14). -/
theorem onlineAndPresenceChanges : Obligations.OnlineAndPresenceChanges := by
  intro t s hr tr told
  refine ⟨fun b hb ho hp => ?online, fun b hp => ?absent, fun hp => ?leaves, fun hp hc => ⟨fun ho => ?same,
    fun ho => ?differs⟩⟩
  case online =>
    obtain ⟨u, hu, hstate, hports⟩ :=
      onlineRead_changes (t := t) (x := { tr with lines := { tr.lines with offlineSwitch := b } }) hr (Ne.symm ho)
    refine ⟨u, ?_, hstate, hports⟩
    rw [exec_onlineSwitchChange hb, if_pos hp]
    exact congrArg _ hu
  case absent =>
    by_cases hb : (s.tr t).lines.offlineSwitch = b
    · have hsame : ({ tr with lines := { tr.lines with offlineSwitch := b } } : Transport) = s.tr t := by
        rw [← hb]
      rw [hsame, State.setTr_tr]
      simp [exec, execOnlineSwitchChange, hb]
    · rw [exec_onlineSwitchChange (Ne.symm hb), if_neg (ne_true_of_eq_false hp)]
  case leaves =>
    have hp : (s.tr t).lines.present = true := hp
    simp [exec, execTransportPresentChange, hp, tr]
  case same =>
    rw [exec_transportPresentChange hp hc, onlineRead_same (by exact ho)]
  case differs =>
    obtain ⟨u, hu, hstate, hports⟩ := onlineRead_changes (t := t) (x := { tr with
      lines := { tr.lines with present := true }, sense := { tr.sense with coverOpen := tr.lines.coverOpen } }) hr ho
    exact ⟨u, by rw [exec_transportPresentChange hp hc]; exact congrArg _ hu, hstate, hports⟩

end Sys2Proof.InputChanges
end
section
/-! SUPPORT. A qualified marker crossing (R8, R9, R56, R148, R152, R153) by marker, direction, order and phase, with its statement. -/

namespace Sys2Proof.MarkerCrossings

open Sys2Proof Sys2Proof.Machine Sys2Proof.OrderQueue Sys2Proof.RampEngine Sys2Proof.Resumption
open Sys2Proof.LoadSequence Sys2Proof.InputChanges

/-! ### The crossing -/

/-- The transport once the run of a marker has reached Q, with this position record: the crossing has been acted on
there (R7 to R9). -/
def crossed (tr : Transport) (k : Marker) (q : Nat) (x : Position) : Transport :=
  { tr with sense := { tr.sense.setRun k ((tr.sense.run k).qualifiedAt q) with position := x } }

/-- The run of a qualified marker is counted full, and its crossing is acted on (R7). -/
theorem exec_markerCrossing {s : State} {t : TransportId} {k : Marker} (hc : (s.tr t).condition ≠ .unloaded)
    (hn : ((s.tr t).sense.run k).count ≠ 0) (hq : ((s.tr t).sense.run k).qualified = false) :
    exec (.markerCrossingQualified t k) s = runTasks 4096 [.crossing t k]
      (s.setTr t (crossed (s.tr t) k (s.servoOf t).q (s.tr t).sense.position)) := by
  have hposition : (s.tr t).sense.setRun k (((s.tr t).sense.run k).qualifiedAt (s.servoOf t).q) =
      { (s.tr t).sense.setRun k (((s.tr t).sense.run k).qualifiedAt (s.servoOf t).q) with
        position := (s.tr t).sense.position } := by cases k <;> rfl
  simp only [exec, execMarkerCrossingQualified, crossed, ← hposition]
  simp [hc, hn, hq, finish, agendaBound]

section
variable {s : State} {t : TransportId} {q : Nat} {x : Position}

/-- A reverse EOT crossing clears the past-EOT flag and the EOT point (R9). -/
theorem crossing_eotReverse (hd : (s.tr t).sense.eotRun.direction = .reverse) :
    crossing t .eot (s.setTr t (crossed (s.tr t) .eot q (s.tr t).sense.position)) =
      Reaction.idle (s.setTr t (crossed (s.tr t) .eot q
        ((s.tr t).sense.position.eotReturned (s.tr t).sense.eotRun.edge))) := by
  have hd' : ((crossed (s.tr t) .eot q (s.tr t).sense.position).sense.run .eot).direction = .reverse := hd
  simp only [crossing, State.tr_setTr_self, hd', State.setTr_setTr]
  rfl

/-- A forward EOT crossing sets them at the edge stamp, and EOT CROSSED goes out (R9, R161). -/
theorem crossing_eotForward (hd : (s.tr t).sense.eotRun.direction = .forward) :
    let w := s.setTr t (crossed (s.tr t) .eot q ((s.tr t).sense.position.eotPassed (s.tr t).sense.eotRun.edge))
    crossing t .eot (s.setTr t (crossed (s.tr t) .eot q (s.tr t).sense.position)) =
      Reaction.idle (attendAll (attentionPorts (w.owner t) w) t .eotCrossed (bytesOf 4 (s.tr t).sense.eotRun.edge) w) := by
  have hd' : ((crossed (s.tr t) .eot q (s.tr t).sense.position).sense.run .eot).direction = .forward := hd
  simp only [crossing, State.tr_setTr_self, hd', State.setTr_setTr]
  rfl

/-- A forward BOT crossing references the position, and Load Control takes it from there (R8). -/
theorem crossing_botForward (hd : (s.tr t).sense.botRun.direction = .forward) :
    crossing t .bot (s.setTr t (crossed (s.tr t) .bot q (s.tr t).sense.position)) =
      botForwardToLoad t (s.setTr t (crossed (s.tr t) .bot q
        ((s.tr t).sense.position.referencedAt (s.tr t).sense.botRun.edge))) := by
  have hd' : ((crossed (s.tr t) .bot q (s.tr t).sense.position).sense.run .bot).direction = .forward := hd
  simp only [crossing, State.tr_setTr_self, hd', State.setTr_setTr]
  rfl

/-- A reverse BOT crossing is recorded, and the engine and Load Control take it from there (R8). -/
theorem crossing_botReverse (hd : (s.tr t).sense.botRun.direction = .reverse) :
    crossing t .bot (s.setTr t (crossed (s.tr t) .bot q (s.tr t).sense.position)) =
      botReverse t (s.setTr t (crossed (s.tr t) .bot q
        ((s.tr t).sense.position.botReversed (s.tr t).sense.botRun.edge))) := by
  have hd' : ((crossed (s.tr t) .bot q (s.tr t).sense.position).sense.run .bot).direction = .reverse := hd
  simp only [crossing, State.tr_setTr_self, hd', State.setTr_setTr]
  rfl

end

/-! ### A forward BOT crossing in Load Control -/

section
variable {u : State} {t : TransportId} {m : Motion}

/-- Outside a search and a FORWARD CREEP Load Control does nothing more (R8). -/
theorem botForward_idle (hs : (u.tr t).condition ≠ .loading ∨ (u.tr t).load.step ≠ some .search)
    (hf : (u.tr t).load.step ≠ some .forwardCreep) : botForwardToLoad t u = Reaction.idle u := by
  have hsearch : (u.tr t).searching = false := by
    obtain hs | hs := hs <;> simp [Transport.searching, hs]
  cases hm : (u.tr t).current <;> simp [botForwardToLoad, hm, hsearch, hf]

/-- In a search the outcome becomes BOT FOUND, over any earlier one (R148, log 28). -/
theorem botForward_finds (hm : (u.tr t).current ≠ none) (hc : (u.tr t).condition = .loading)
    (hs : (u.tr t).load.step = some .search) : botForwardToLoad t u = searchDecided t
      (u.setTr t { u.tr t with load := { (u.tr t).load with outcome := .botFound } }) := by
  obtain ⟨m, hm⟩ := Option.ne_none_iff_exists'.mp hm
  simp [botForwardToLoad, hm, Transport.searching, hc, hs, setOutcome]

theorem botForward_creeps (hm : (u.tr t).current = some m) (hc : (u.tr t).condition = .loaded)
    (hs : (u.tr t).load.step = some .forwardCreep) : botForwardToLoad t u = creepBotFound t m u := by
  simp [botForwardToLoad, hm, Transport.searching, hc, hs]

/-! ### End reason BOT -/

/-- The order with end reason BOT, unless one stands (R29). -/
def atBot (m : Motion) : Motion := { m with endReason := some (m.endReason.getD .bot) }

theorem setEndReason_atBot (hm : (u.tr t).motion = some m) :
    setEndReason t .bot u = u.setTr t { u.tr t with motion := some (atBot m) } := setEndReason_motion hm .bot

theorem setEndReason_slot (hm : (u.tr t).motion = none) (h1 : (u.tr t).hold.slot1 = .saved m) :
    setEndReason t .bot u = u.setTr t { u.tr t with hold := { (u.tr t).hold with slot1 := .saved (atBot m) } } := by
  have hend : m.endWith .bot = atBot m := by
    cases he : m.endReason <;> simp [Motion.endWith, atBot, he]
  simp [setEndReason, Transport.current, hm, h1, Transport.setCurrent, hend]

/-- In ACCEL and CRUISE end reason BOT comes with a deceleration (R56, R153). -/
theorem bot_decelerates (hm : (u.tr t).motion = some m) (hp : (u.tr t).phase = .accel ∨ (u.tr t).phase = .cruise) :
    creepBotFound t m u = beginDecel t .decel (u.setTr t { u.tr t with motion := some (atBot m) }) ∧
      botReverseMove t m u = beginDecel t .decel (u.setTr t { u.tr t with motion := some (atBot m) }) := by
  obtain hp | hp := hp <;> simp only [creepBotFound, botReverseMove, hp, setEndReason_atBot hm] <;> exact ⟨trivial, trivial⟩

/-- In HELD end reason BOT is set in slot 1 (R56, R153). -/
theorem bot_held (hm : (u.tr t).motion = none) (h1 : (u.tr t).hold.slot1 = .saved m) (hp : (u.tr t).phase = .held) :
    creepBotFound t m u = Reaction.idle
        (u.setTr t { u.tr t with hold := { (u.tr t).hold with slot1 := .saved (atBot m) } }) ∧
      botReverseMove t m u = Reaction.idle
        (u.setTr t { u.tr t with hold := { (u.tr t).hold with slot1 := .saved (atBot m) } }) := by
  simp only [creepBotFound, botReverseMove, hp, setEndReason_slot hm h1, and_self]

/-- In a deceleration of a FORWARD CREEP end reason BOT is all (R153). -/
theorem creepBotFound_slows (hm : (u.tr t).motion = some m)
    (hp : (u.tr t).phase = .decel ∨ (u.tr t).phase = .holdDecel) :
    creepBotFound t m u = Reaction.idle (u.setTr t { u.tr t with motion := some (atBot m) }) := by
  obtain hp | hp := hp <;> simp only [creepBotFound, hp, setEndReason_atBot hm]

/-- In a waiting phase the FORWARD CREEP is over at once (R153, log 16). -/
theorem creepBotFound_waits (hm : (u.tr t).motion = some m)
    (hp : (u.tr t).phase = .waitVacuum ∨ (u.tr t).phase = .waitGrant) (hg : (u.tr t).engine.grant ≠ .held) :
    creepBotFound t m u = endAtBot t m ((u.setTr t { u.tr t with motion := some (atBot m) }).withdrawn t) := by
  have hgive : (giveUpGrant t (u.setTr t { u.tr t with motion := some (atBot m) })).state =
      (u.setTr t { u.tr t with motion := some (atBot m) }).withdrawn t := by
    rw [giveUpGrant_of_not_held (by rwa [State.tr_setTr_self])]; rfl
  obtain hp | hp := hp <;> simp only [creepBotFound, hp, setEndReason_atBot hm] <;> rw [← hp, ← hgive]

/-- In a waiting phase a reverse MOVE ends AT BOT (R56). -/
theorem botReverseMove_waits (hp : (u.tr t).phase = .waitVacuum ∨ (u.tr t).phase = .waitGrant)
    (hg : (u.tr t).engine.grant ≠ .held) : botReverseMove t m u = endOrder t m .atBot (u.withdrawn t) := by
  have hgive : (giveUpGrant t u).state = u.withdrawn t := by rw [giveUpGrant_of_not_held hg]; rfl
  obtain hp | hp := hp <;> simp only [botReverseMove, hp, hgive]

/-- In DECEL a reverse MOVE is not touched (R56). -/
theorem botReverseMove_decel (hp : (u.tr t).phase = .decel) : botReverseMove t m u = Reaction.idle u := by
  simp only [botReverseMove, hp]

/-- In HOLD DECEL a reverse MOVE takes end reason BOT (R56). -/
theorem botReverseMove_holdDecel (hm : (u.tr t).motion = some m) (hp : (u.tr t).phase = .holdDecel) :
    botReverseMove t m u = Reaction.idle (u.setTr t { u.tr t with motion := some (atBot m) }) := by
  simp only [botReverseMove, hp, setEndReason_atBot hm]

theorem endAtBot_ends (hk : m.kind ≠ .unload) : endAtBot t m u = endOrder t m .atBot u := by
  simp [endAtBot, hk]

/-- An UNLOAD at BOT begins its WIND step (R154). -/
theorem endAtBot_winds (hk : m.kind = .unload) :
    endAtBot t m u = { state := u.windBegun t, later := [.vacuumReview] } := by
  simp [endAtBot, hk, windStart, State.windBegun, ms, Nat.mul_comm]

/-! ### A reverse BOT crossing -/

theorem botReverse_none (hm : (u.tr t).current = none) : botReverse t u = Reaction.idle u := by
  simp [botReverse, hm]

variable (hm : (u.tr t).current = some m)
include hm

/-- A LOAD and a forward MOVE are not touched (R56). -/
theorem botReverse_untouched (hk : m.kind = .load ∨ (m.kind = .move ∧ m.direction = .forward)) :
    botReverse t u = Reaction.idle u := by
  obtain hk | ⟨hk, hd⟩ := hk
  · simp [botReverse, hm, hk]
  · simp [botReverse, hm, hk, hd]

theorem botReverse_move (hk : m.kind = .move) (hd : m.direction = .reverse) :
    botReverse t u = botReverseMove t m u := by
  simp [botReverse, hm, hk, hd]

/-- A REWIND or UNLOAD in REVERSE or REVERSE CREEP goes on in CLEARING (R152). -/
theorem botReverse_sequence (hk : m.kind = .rewind ∨ m.kind = .unload) : botReverse t u = Reaction.idle
    (if (u.tr t).load.step = some .reverse ∨ (u.tr t).load.step = some .reverseCreep then
      u.setTr t { u.tr t with load := { (u.tr t).load with step := some .clearing, markerCleared := false } }
    else u) := by
  by_cases hs : (u.tr t).load.step = some .reverse ∨ (u.tr t).load.step = some .reverseCreep
  · have hs' : ((u.tr t).load.step == some .reverse || (u.tr t).load.step == some .reverseCreep) = true := by
      simpa using hs
    obtain hk | hk := hk <;> simp only [botReverse, hm, hk, hs', if_true, if_pos hs] <;> rfl
  · have hs' : ((u.tr t).load.step == some .reverse || (u.tr t).load.step == some .reverseCreep) = false := by
      simpa using hs
    obtain hk | hk := hk <;> simp only [botReverse, hm, hk, hs', Bool.false_eq_true, if_false, if_neg hs]

end

/-! ### How the event of a crossing ends -/

section
variable {s w : State} {t : TransportId} {k : Task}

/-- A hand-off that changes the state and hands nothing on. -/
theorem runTasks_idle {u : State} (hk : handle k w = Reaction.idle u) (n : Nat) : runTasks (n + 1) [k] w = .next u := by
  rw [runTasks_succ, hk]
  exact runTasks_nil ..

/-- A hand-off that begins a deceleration, where no one waits for the grant given back (R52). -/
theorem runTasks_decelerates {x : Transport} {ph : Phase} (hk : handle k w = beginDecel t ph (s.setTr t x))
    (hf : s.FreeToLetGo t) (hx : x.engine.grant = (s.tr t).engine.grant) (n : Nat) :
    runTasks (n + 2) [k] w = .next ((s.setTr t { x with phase := ph }).letGo t) := by
  rw [runTasks_succ, hk, runTasks_beginDecel (freeToLetGo_setTr hf hx) (runTasks_nil ..), setPhase_setTr]

/-- A hand-off that ends in an ending, in an event of its own (R32, R40). -/
theorem runTasks_eq_finish {v : State} {r : Reaction} (hk : handle k w = r) (hr : r = afterEnding t v)
    (hc : (v.tr t).condition = .loaded) (hp : (v.tr t).phase = .stopped) (hq : (v.tr t).queue = []) (n : Nat) :
    runTasks (n + 4) [k] w = finish r := by
  subst hr
  exact (runTasks_ends hk hc hp hq n).trans (finish_afterEnding hc hp hq).symm

theorem runTasks_endLoadLoaded {st : Status} (hk : handle k w = endLoadLoaded t st s)
    (h1 : (s.tr t).hold.slot1 = .free) (hq : (s.tr t).queue = []) (n : Nat) :
    runTasks (n + 4) [k] w = finish (endLoadLoaded t st s) := by
  refine runTasks_eq_finish hk (endLoadLoaded_eq h1) ?_ ?_ ?_ n
  · rw [tr_sending, State.loadEnded, State.tr_setTr_self]
  · rw [tr_sending, State.loadEnded, State.tr_setTr_self]
  · rw [tr_sending, State.loadEnded, State.tr_setTr_self, loadMarked_eq, State.tr_setTr_self]
    exact (marked_keeps _ _).1.trans hq

theorem runTasks_endOrder {m : Motion} {st : Status} (hk : handle k w = endOrder t m st s)
    (hc : (s.tr t).condition = .loaded) (hq : (s.tr t).queue = []) (n : Nat) :
    runTasks (n + 4) [k] w = finish (endOrder t m st s) := by
  refine runTasks_eq_finish hk (endOrder_eq ..) ?_ ?_ ?_ n <;> simp [State.setPhase, hc, hq]

theorem setTr_with_arbiter (a : Arbiter) (x : Transport) :
    ({ s with arbiter := a } : State).setTr t x = { s.setTr t x with arbiter := a } := rfl

/-- A waiting order that ends AT BOT, once the transport has changed to `x`, its motion context aside (R32). -/
theorem finish_endOrder_found (x : Transport) (held : Option Motion) (m : Motion) (hc : x.condition = .loaded)
    (hq : x.queue = []) :
    let u := (s.setTr t x).withdrawn t
    ∃ w : State, finish (endOrder t m .atBot ((s.setTr t { x with motion := held }).withdrawn t)) =
        .next (reviewVacuum (w.relieved t)) ∧
      w = { (u.setTr t { u.tr t with phase := .stopped }).orderGone t with ports := w.ports } ∧
      ∀ q, w.port q = (s.port q).sent ((s.setTr t x).endingOf t q m 2 none) := by
  intro u
  obtain ⟨w, hw, hstate, hports⟩ := finish_endOrder_withdrawn (s := s.setTr t x) (t := t)
    (x := { x with motion := held }) m .atBot hc hq (by rw [State.tr_setTr_self])
  rw [State.setTr_setTr] at hw hstate
  refine ⟨w, hw, hstate.trans ?_, hports⟩
  simp only [u, State.setPhase, State.orderGone, State.tr_setTr_self, tr_withdrawn, setTr_withdrawn, State.tr_arbiter,
    setTr_with_arbiter, State.setTr_setTr]
  rfl

end

/-- Settles O58: the crossing by marker and direction, what Load Control and the engine make of it by order and phase, and
how its event ends. -/
theorem markerCrossingsAreActedOn : Obligations.MarkerCrossingsAreActedOn := by
  intro t k s tr run pos done at_ back moves slows waits ends hc hn hq
  have hexec := exec_markerCrossing (k := k) hc hn hq
  refine ⟨?eotReverse, ?eotForward, ?botForward, ?botReverse⟩
  case eotReverse =>
    rintro rfl hd
    rw [hexec, runTasks_idle (k := .crossing t .eot) (crossing_eotReverse hd)]
    rfl
  case eotForward =>
    rintro rfl hd hr
    rw [hexec, runTasks_idle (k := .crossing t .eot) (crossing_eotForward hd)]
    obtain ⟨u, hu, hstate, hports⟩ := attendAll_told (s := s) (t := t) .eotCrossed (bytesOf 4 run.edge) hr
      (crossed tr .eot (s.servoOf t).q (pos.eotPassed run.edge))
    exact ⟨u, congrArg _ hu, hstate, hports⟩
  case botForward =>
    rintro rfl hd found
    have hfound : (s.setTr t found).tr t = found := State.tr_setTr_self ..
    have hcross : handle (.crossing t .bot) (s.setTr t (crossed tr .bot (s.servoOf t).q pos)) =
        botForwardToLoad t (s.setTr t found) := crossing_botForward hd
    refine ⟨fun hs hf => ?plain, fun hs hstep hm => ?search, fun m hs hstep => ?creep⟩
    case plain =>
      rw [hexec, runTasks_idle (hcross.trans (botForward_idle (by rw [hfound]; exact hs) (by rw [hfound]; exact hf)))]
    case search =>
      intro decided
      obtain ⟨m, -⟩ := Option.ne_none_iff_exists'.mp hm
      have hfinds : botForwardToLoad t (s.setTr t found) = searchDecided t (s.setTr t decided) := by
        have h := botForward_finds (u := s.setTr t found) (t := t) (by rw [hfound]; exact hm) (by rw [hfound]; exact hs)
          (by rw [hfound]; exact hstep)
        rw [hfound, State.setTr_setTr] at h
        exact h
      have hdecided : (s.setTr t decided).tr t = decided := State.tr_setTr_self ..
      have hrun := hcross.trans hfinds
      refine ⟨fun hp hf => ?moves, fun hp => ?slows, fun hp h1 hq => ?waits⟩
      case moves =>
        obtain ⟨hdecel, -⟩ := decided_decelerates m (w := s.setTr t decided) (t := t)
          (by rw [hdecided]; exact hp)
        rw [hexec, runTasks_decelerates (hrun.trans hdecel) hf rfl]
      case slows =>
        obtain ⟨hnoted, -⟩ := decided_noted m (w := s.setTr t decided) (t := t)
          (by rw [hdecided, ← or_assoc]; exact hp)
        rw [hexec, runTasks_idle (hrun.trans hnoted)]
      case waits =>
        obtain ⟨hends, -⟩ := decided_ends m (w := s.setTr t decided) (t := t)
          (by rw [hdecided]; exact hp.1) (by rw [hdecided]; exact hp.2)
        rw [hdecided] at hends
        obtain ⟨w, hw, hstate, hports⟩ := finish_endLoadLoaded_withdrawn (s := s.setTr t found) (t := t) (x := decided)
          .done h1 hq (by rw [hfound]) (by rw [hfound])
        rw [State.setTr_setTr] at hw hstate
        refine ⟨w, ?_, ?_, hports⟩
        · rw [hexec, runTasks_endLoadLoaded (hrun.trans hends) (by rw [tr_withdrawn, hdecided]; exact h1)
            (by rw [tr_withdrawn, hdecided]; exact hq)]
          exact hw
        · refine hstate.trans ?_
          simp only [State.loadEnded, loadMarked_eq, tr_withdrawn, setTr_withdrawn, State.tr_setTr_self,
            State.tr_arbiter, setTr_with_arbiter, State.setTr_setTr]
          rfl
    case creep =>
      intro ended
      have hcreeps : tr.current = some m → handle (.crossing t .bot) (s.setTr t (crossed tr .bot (s.servoOf t).q pos)) =
          creepBotFound t m (s.setTr t found) := fun hm =>
        hcross.trans (botForward_creeps (by rw [hfound]; exact hm) (by rw [hfound]; exact hs)
          (by rw [hfound]; exact hstep))
      refine ⟨fun hm hp hf => ?moves, fun hm hp => ?slows, fun hm h1 hp => ?held, fun hm hp hk hq hc => ?ends,
        fun hm hp hk => ?winds⟩
      case moves =>
        obtain ⟨hdecel, -⟩ := bot_decelerates (u := s.setTr t found) (t := t) (m := m) (by rw [hfound]; exact hm)
          (by rw [hfound]; exact hp)
        rw [hfound, State.setTr_setTr] at hdecel
        rw [hexec, runTasks_decelerates ((hcreeps (Transport.current_of_motion hm)).trans hdecel) hf rfl]
        rfl
      case slows =>
        have hslows := creepBotFound_slows (u := s.setTr t found) (t := t) (m := m) (by rw [hfound]; exact hm)
          (by rw [hfound]; exact hp)
        rw [hfound, State.setTr_setTr] at hslows
        rw [hexec, runTasks_idle ((hcreeps (Transport.current_of_motion hm)).trans hslows)]
        rfl
      case held =>
        obtain ⟨hheld, -⟩ := bot_held (u := s.setTr t found) (t := t) (m := m) (by rw [hfound]; exact hm)
          (by rw [hfound]; exact h1) (by rw [hfound]; exact hp)
        rw [hfound, State.setTr_setTr] at hheld
        rw [hexec, runTasks_idle ((hcreeps (Transport.current_of_slot hm h1)).trans hheld)]
        rfl
      all_goals
        have hwaits := creepBotFound_waits (u := s.setTr t found) (t := t) (m := m) (by rw [hfound]; exact hm)
          (by rw [hfound]; exact hp.1) (by rw [hfound]; exact hp.2)
        rw [hfound, State.setTr_setTr] at hwaits
        have hrun := (hcreeps (Transport.current_of_motion hm)).trans hwaits
      case ends =>
        have hends := hrun.trans (endAtBot_ends hk)
        rw [hexec, runTasks_endOrder hends (by rw [tr_withdrawn, State.tr_setTr_self]; exact hc)
          (by rw [tr_withdrawn, State.tr_setTr_self]; exact hq)]
        exact finish_endOrder_found found (some (atBot m)) m hc hq
      case winds =>
        rw [hexec, runTasks_succ, hrun, endAtBot_winds hk]
        simp only [List.nil_append]
        rw [runTasks_vacuumReview, runTasks_nil]
        rfl
  case botReverse =>
    rintro rfl hd seen
    have hseen : (s.setTr t seen).tr t = seen := State.tr_setTr_self ..
    have hcross : handle (.crossing t .bot) (s.setTr t (crossed tr .bot (s.servoOf t).q pos)) =
        botReverse t (s.setTr t seen) := crossing_botReverse hd
    refine ⟨fun hm => ?none, fun m hm hk => ?untouched, fun m hk hd => ?move, fun m hm hk => ?sequence⟩
    case none => rw [hexec, runTasks_idle (hcross.trans (botReverse_none (by rw [hseen]; exact hm)))]
    case untouched => rw [hexec, runTasks_idle (hcross.trans (botReverse_untouched (by rw [hseen]; exact hm) hk))]
    case sequence =>
      rw [hexec, runTasks_idle (hcross.trans (botReverse_sequence (by rw [hseen]; exact hm) hk)), hseen,
        State.setTr_setTr, apply_ite (s.setTr t)]
    case move =>
      intro ended
      have hmove : tr.current = some m → handle (.crossing t .bot) (s.setTr t (crossed tr .bot (s.servoOf t).q pos)) =
          botReverseMove t m (s.setTr t seen) := fun hm =>
        hcross.trans (botReverse_move (by rw [hseen]; exact hm) hk hd)
      refine ⟨fun hm hp hf => ?moves, fun hm hp => ?decel, fun hm hp => ?holdDecel, fun hm h1 hp => ?held,
        fun hm hp hq hc => ?ends⟩
      case moves =>
        obtain ⟨-, hdecel⟩ := bot_decelerates (u := s.setTr t seen) (t := t) (m := m) (by rw [hseen]; exact hm)
          (by rw [hseen]; exact hp)
        rw [hseen, State.setTr_setTr] at hdecel
        rw [hexec, runTasks_decelerates ((hmove (Transport.current_of_motion hm)).trans hdecel) hf rfl]
        rfl
      case decel =>
        have hnone := botReverseMove_decel (u := s.setTr t seen) (t := t) (m := m) (by rw [hseen]; exact hp)
        rw [hexec, runTasks_idle ((hmove (Transport.current_of_motion hm)).trans hnone)]
      case holdDecel =>
        have hset := botReverseMove_holdDecel (u := s.setTr t seen) (t := t) (m := m) (by rw [hseen]; exact hm)
          (by rw [hseen]; exact hp)
        rw [hseen, State.setTr_setTr] at hset
        rw [hexec, runTasks_idle ((hmove (Transport.current_of_motion hm)).trans hset)]
        rfl
      case held =>
        obtain ⟨-, hheld⟩ := bot_held (u := s.setTr t seen) (t := t) (m := m) (by rw [hseen]; exact hm)
          (by rw [hseen]; exact h1) (by rw [hseen]; exact hp)
        rw [hseen, State.setTr_setTr] at hheld
        rw [hexec, runTasks_idle ((hmove (Transport.current_of_slot hm h1)).trans hheld)]
        rfl
      case ends =>
        have hends := (hmove (Transport.current_of_motion hm)).trans
          (botReverseMove_waits (by rw [hseen]; exact hp.1) (by rw [hseen]; exact hp.2))
        rw [hexec, runTasks_endOrder hends (by rw [tr_withdrawn, hseen]; exact hc) (by rw [tr_withdrawn, hseen]; exact hq)]
        exact finish_endOrder_found seen tr.motion m hc hq

end Sys2Proof.MarkerCrossings
end
section
/-! SUPPORT. What a servo sample comes to (R4 to R6, R65 to R75): its columns, targets and demands by the mode, and the transport behind the band tests. -/

namespace Sys2Proof.ServoSamples

open Sys2Proof Sys2Proof.Machine Sys2Proof.OrderQueue

/-! ### The columns -/

/-- The column checks run at this transport: it is LOADED, or LOADING with DRAW begun (R5). -/
def Checks (tr : Transport) : Prop := tr.condition = .loaded ∨ tr.drawBegun = true

/-- A column with its flag set and its runs at 0. -/
def seenColumn : Column := { tapeSeen := true, zeroRun := 0, upperRun := 0, lowerRun := 0 }

/-- A checked column counts each of its runs (R5, R6). -/
theorem sampled_checked {tr : Transport} (hc : Checks tr) {k : Column} {depth : Nat} (hs : k.tapeSeen = true ∨ depth ≠ 0)
    (ends : Bool × Bool) : k.sampled tr depth ends =
      { tapeSeen := true, zeroRun := nextRun (depth == 0) k.zeroRun
        upperRun := nextRun ends.1 k.upperRun, lowerRun := nextRun ends.2 k.lowerRun } := by
  have hc' : (tr.condition == .loaded || tr.drawBegun) = true := by simpa [Checks] using hc
  have hs' : (k.tapeSeen || depth != 0) = true := by simpa using hs
  simp only [Column.sampled, Transport.columnChecked, hc', hs', Bool.true_and, Bool.and_true]

/-- A column with a loop in it and no end switch active has no run (R5, R6). -/
theorem sampled_quiet {tr : Transport} (hc : Checks tr) (k : Column) {depth : Nat} (hd : depth ≠ 0) :
    k.sampled tr depth (false, false) = seenColumn := by
  rw [sampled_checked hc (.inr hd), beq_false_of_ne hd]
  rfl

/-- A column that is not checked has no run (R5, R6). -/
theorem sampled_unchecked {tr : Transport} (hc : ¬ Checks tr) (k : Column) (depth : Nat) (ends : Bool × Bool) :
    k.sampled tr depth ends = { seenColumn with tapeSeen := k.tapeSeen } := by
  have hc' : (tr.condition == .loaded || tr.drawBegun) = false := by simpa [Checks] using hc
  simp only [Column.sampled, Transport.columnChecked, hc', Bool.false_and, Bool.or_false]
  rfl

theorem nextRun_full_iff (hit : Bool) (n : Nat) : nextRun hit n = 2 ↔ hit = true ∧ 1 ≤ n := by
  cases hit <;> simp [nextRun, satSucc]

theorem nextRun_of_lt {hit : Bool} {n : Nat} (h : (if hit then n + 1 else 0) < 2) :
    nextRun hit n = if hit then n + 1 else 0 := by
  cases hit
  · rfl
  · simp only [if_true] at h
    simp only [nextRun, satSucc, if_true]
    omega

/-- Columns without a full run give no cause (R5, R6). -/
theorem columnCause_none {a b : Column} (ha : a.zeroRun ≠ 2 ∧ a.upperRun ≠ 2 ∧ a.lowerRun ≠ 2)
    (hb : b.zeroRun ≠ 2 ∧ b.upperRun ≠ 2 ∧ b.lowerRun ≠ 2) : columnCause a b = none := by
  simp [columnCause, ha, hb]

/-! ### The mode and the targets -/

section
variable {tr : Transport} (hb : tr.brakesEngaged = false)
include hb

theorem servoMode_track (hc : tr.condition = .loaded) : tr.servoMode = .track := by
  simp [Transport.servoMode, hb, hc]

theorem servoMode_draw (hc : tr.condition = .loading) (hs : tr.load.step = some .draw) : tr.servoMode = .draw := by
  simp [Transport.servoMode, hb, hc, hs]

theorem servoMode_wind (hc : tr.condition = .unloading) (hs : tr.load.step = some .wind) : tr.servoMode = .wind := by
  simp [Transport.servoMode, hb, hc, hs]

end

theorem clampDemand_eq {d : Int} (h : d.natAbs ≤ 2047) : clampDemand d = d := by
  simp only [clampDemand, clamp, demandTop]
  omega

theorem clampDemand_eq_iff (d : Int) : clampDemand d = d ↔ d.natAbs ≤ 2047 := by
  simp only [clampDemand, clamp, demandTop]
  omega

/-- The feed-forward and the loop correction of a target in TRACK, by side (R66, R67). -/
theorem reelTarget_track (tr : Transport) (l : LoopReading) (c : ServoRecord) :
    reelTarget .track .file c (tr.sampled l) = (tr.engine.v * c.gFF).tdiv (16 * tr.servo.reels.file.radius) +
        ((loopGain c tr.hold.active : Int) * ((c.setpoint : Int) - l.flp.toNat)).tdiv 4 ∧
      reelTarget .track .machine c (tr.sampled l) = (tr.engine.v * c.gFF).tdiv (16 * tr.servo.reels.machine.radius) +
        ((loopGain c tr.hold.active : Int) * ((l.mlp.toNat : Int) - c.setpoint)).tdiv 4 := ⟨rfl, rfl⟩

/-- A target within the demand range does not saturate the reel (R69). -/
theorem saturates_of_inRange {d : Int} (h : d.natAbs ≤ 2047) (x : ReelServo) (mode : ServoMode) (limit : Nat) :
    x.saturates mode d limit = false := by
  simp [ReelServo.saturates, clampDemand_eq h]

/-- Outside TRACK no reel saturates (R68). -/
theorem saturates_of_not_track {mode : ServoMode} (h : mode ≠ .track) (x : ReelServo) (d : Int) (limit : Nat) :
    x.saturates mode d limit = false := by
  simp [ReelServo.saturates, h]

/-- A sample that drives the reels within the demand range leaves no saturation run (R68, R70). -/
theorem driven_inRange {d : Int} (h : d.natAbs ≤ 2047) (x : ReelServo) {mode : ServoMode} (hm : mode ≠ .zero)
    (slew : Nat) : x.driven mode d slew =
      { x with demand := x.demand + max (-(slew : Int)) (min slew (d - x.demand)), satRun := 0 } := by
  simp [ReelServo.driven, hm, slewed, clampDemand_eq h, nextSatRun, clamp]

/-! ### The transport behind a sample -/

/-- The transport after the column checks, the outputs and the band tests of a sample: these columns, this mode and these
reels, and what the bands say (R4, R74, R75, R86, R89). -/
def behindSample (tr : Transport) (c : ServoRecord) (l : LoopReading) (columns : PerReel Column) (mode : ServoMode)
    (reels : PerReel ReelServo) : Transport :=
  let depths : PerReel Nat := { file := l.flp.toNat, machine := l.mlp.toNat }
  { tr with
    sense := { tr.sense with depths := depths, columns := columns }
    servo := { reels := reels, mode := mode, loopGuard := nextLoopGuard tr (bandOf c depths) c.recoveryLimit
               band := bandOf c depths }
    hold := if tr.hasPhase then tr.hold.sampled (bandOf c depths) else tr.hold }

section
variable {s : State} {t : TransportId} {l : LoopReading} {columns : PerReel Column} {mode : ServoMode}
  {reels : PerReel ReelServo}

/-- A sample with no full run: the transport behind it, and the hand-offs of its band standing. -/
theorem exec_servoSample_behind
    (hcolumns : { file := (s.tr t).sense.columns.file.sampled (s.tr t) l.flp.toNat (l.fue, l.fle)
                  machine := (s.tr t).sense.columns.machine.sampled (s.tr t) l.mlp.toNat (l.mue, l.mle) } = columns)
    (hnone : columnCause columns.file columns.machine = none) (hmode : (s.tr t).servoMode = mode)
    (hsat : ((s.tr t).sampled l).servoSaturates (s.servoOf t) = false)
    (hreels : { file := (s.tr t).servo.reels.file.driven mode
                  (reelTarget mode .file (s.servoOf t) ((s.tr t).sampled l)) (s.servoOf t).slew
                machine := (s.tr t).servo.reels.machine.driven mode
                  (reelTarget mode .machine (s.servoOf t) ((s.tr t).sampled l)) (s.servoOf t).slew } = reels) :
    exec (.servoSample t l) s = runTasks 4094
      (bandTasks t (s.tr t).servo.band (behindSample (s.tr t) (s.servoOf t) l columns mode reels) (s.servoOf t))
      (s.setTr t (behindSample (s.tr t) (s.servoOf t) l columns mode reels)) := by
  subst hcolumns hmode hreels
  exact exec_servoSample_runs hnone hsat

/-- The same at a transport whose reels are driven within the demand range. -/
theorem exec_servoSample_inRange {f m : Int}
    (hcolumns : { file := (s.tr t).sense.columns.file.sampled (s.tr t) l.flp.toNat (l.fue, l.fle)
                  machine := (s.tr t).sense.columns.machine.sampled (s.tr t) l.mlp.toNat (l.mue, l.mle) } = columns)
    (hnone : columnCause columns.file columns.machine = none) (hmode : (s.tr t).servoMode = mode) (hzero : mode ≠ .zero)
    (hf : reelTarget mode .file (s.servoOf t) ((s.tr t).sampled l) = f)
    (hm : reelTarget mode .machine (s.servoOf t) ((s.tr t).sampled l) = m)
    (hfr : f.natAbs ≤ 2047) (hmr : m.natAbs ≤ 2047) :
    let y := behindSample (s.tr t) (s.servoOf t) l columns mode
      { file := { (s.tr t).servo.reels.file with
          demand := (s.tr t).servo.reels.file.demand +
            max (-((s.servoOf t).slew : Int)) (min (s.servoOf t).slew (f - (s.tr t).servo.reels.file.demand))
          satRun := 0 }
        machine := { (s.tr t).servo.reels.machine with
          demand := (s.tr t).servo.reels.machine.demand +
            max (-((s.servoOf t).slew : Int)) (min (s.servoOf t).slew (m - (s.tr t).servo.reels.machine.demand))
          satRun := 0 } }
    exec (.servoSample t l) s = runTasks 4094 (bandTasks t (s.tr t).servo.band y (s.servoOf t)) (s.setTr t y) := by
  refine exec_servoSample_behind hcolumns hnone hmode ?_ ?_
  · subst hmode hf hm
    exact Bool.or_eq_false_iff.mpr ⟨saturates_of_inRange hfr .., saturates_of_inRange hmr ..⟩
  · rw [hf, hm, driven_inRange hfr _ hzero, driven_inRange hmr _ hzero]

end

end Sys2Proof.ServoSamples
end

section
/-! SUPPORT. The fault stop of each cause (R107 to R111), with the statement about it: what a fault stop does not read of the transport, the commands that name a full run, and the samples that find one. -/

namespace Sys2Proof.FaultStops

open Sys2Proof Sys2Proof.Machine Sys2Proof.OrderQueue Sys2Proof.Resumption Sys2Proof.InputChanges Sys2Proof.ServoSamples
  Sys2Proof.FaultReports

/-! ### What a fault stop reads -/

/-- Two transports agree in all that a fault stop reads of them (R108 to R111): what it records in the snapshot, what it
ends, and what it keeps. -/
structure StopsAlike (x y : Transport) : Prop where
  condition : x.condition = y.condition
  phase : x.phase = y.phase
  position : x.sense.position = y.sense.position
  depths : x.sense.depths = y.sense.depths
  velocity : x.engine.v = y.engine.v
  grant : x.engine.grant = y.engine.grant
  inService : x.hold.inService = y.hold.inService
  pending : x.hold.pending = y.hold.pending
  slot1 : x.hold.slot1 = y.hold.slot1
  slot2 : x.hold.slot2 = y.hold.slot2
  fileDemand : x.servo.reels.file.demand = y.servo.reels.file.demand
  machineDemand : x.servo.reels.machine.demand = y.servo.reels.machine.demand
  fileRadius : x.servo.reels.file.radius = y.servo.reels.file.radius
  machineRadius : x.servo.reels.machine.radius = y.servo.reels.machine.radius
  step : x.load.step = y.load.step
  record : x.load.record = y.load.record
  motion : x.motion = y.motion
  queue : x.queue = y.queue
  release : x.release = y.release
  valve : x.valveOpen = y.valveOpen
  selected : x.selected = y.selected
  counters : x.counters = y.counters

section
variable {x y : Transport} (h : StopsAlike x y)
include h

theorem StopsAlike.current : x.current = y.current := by
  simp only [Transport.current, h.motion, h.slot1]

theorem StopsAlike.phaseSeen : x.phaseSeen = y.phaseSeen := by
  simp only [Transport.phaseSeen, Transport.hasPhase, Transport.searching, h.condition, h.phase, h.step]
  rfl

theorem StopsAlike.slotsUsed : x.hold.slotsUsed = y.hold.slotsUsed := by
  simp only [Hold.slotsUsed, h.slot1, h.slot2]

end

section
variable {s u : State} {t : TransportId} {x : Transport} (h : StopsAlike x (s.tr t))
include h

/-- A fault stop places the same frames at transports that agree in what it reads. -/
theorem faultPort_alike (c : FaultCause) (q : PortId) : (s.setTr t x).faultPort t c q = s.faultPort t c q := by
  have haborted : aborted (s.setTr t x) t c q = aborted s t c q := by
    simp only [aborted, State.tr_setTr_self, h.condition, h.current, loadEnding_setTr s t q _ _ h.position h.record,
      flushed_setTr s t q _ _ h.position h.queue, endingOf_setTr s t q _ _ _ h.position]
  simp only [faultPort_eq, haborted, State.tr_setTr_self, h.release]
  rfl

/-- A fault stop is one of every transport that agrees in what it reads. -/
theorem faultStopped_alike {c : FaultCause} (hs : (s.setTr t x).FaultStopped u t c) : s.FaultStopped u t c := by
  have hsnap := hs.snapshot
  have hradii := hs.radii
  have hkept := hs.kept
  simp only [State.tr_setTr_self, h.condition, h.phaseSeen, h.position, h.velocity, h.queue, h.inService, h.pending,
    h.slotsUsed, h.depths, h.fileDemand, h.machineDemand, h.fileRadius, h.machineRadius, h.record, h.current, h.selected] at hsnap hradii hkept
  exact {
    condition := hs.condition, cause := hs.cause, brakes := hs.brakes
    valve := hs.valve.trans (by rw [State.tr_setTr_self, h.valve])
    still := hs.still, demands := hs.demands, loopGuard := hs.loopGuard, radii := hradii, empty := hs.empty
    kept := hkept
    counter := hs.counter.trans (by rw [State.tr_setTr_self, h.counters])
    snapshot := hsnap
    others := fun hb v hv => (hs.others hb v hv).trans (State.tr_setTr_ne _ _ hv)
    frames := fun q => (hs.frames q).trans (faultPort_alike h c q)
    released := hs.released.trans (by rw [State.tr_setTr_self, h.release]; rfl)
    tables := hs.tables }

/-- A cause handed to Fault Stop alone in its event, behind changes that the fault stop does not read (R107). -/
theorem handFault_alike (hc : (s.tr t).condition ≠ .faulted) (hf : s.FreeToLetGo t) (c : FaultCause) :
    ∃ u, finish (handFault t c (s.setTr t x)) = .next u ∧ s.FaultStopped u t c := by
  obtain ⟨u, hrun, hu, -⟩ := runTasks_faultStops (s := s.setTr t x) (t := t)
    (by rw [State.tr_setTr_self, h.condition]; exact hc) (freeToLetGo_setTr hf h.grant) c 4094
  rw [runTasks_succ, List.append_nil] at hrun
  exact ⟨u, hrun, faultStopped_alike h hu⟩

end

/-! ### The commands that name a full run or timer -/

theorem coverRead_opens {s : State} {t : TransportId} {x : Transport} (ho : x.lines.coverOpen = true)
    (hu : x.condition ≠ .unloaded) : coverRead t (s.setTr t x) =
      handFault t .coverOpen (s.setTr t { x with sense := { x.sense with coverOpen := true } }) := by
  simp [coverRead, ho, hu]

theorem handFault_faulted {s : State} {t : TransportId} {x : Transport} (c : FaultCause) (hc : x.condition = .faulted) :
    handFault t c (s.setTr t x) = Reaction.idle (s.setTr t
      { x with snapshot := x.snapshot.map fun k => { k with further := min 255 (k.further + 1) } }) := by
  have hf : (((s.setTr t x).tr t).condition == .faulted) = true := by simp [hc]
  rw [handFault, if_pos hf, furtherFault, State.tr_setTr_self, State.setTr_setTr]
  rfl

section
variable {s : State} {t : TransportId} (hc : (s.tr t).condition ≠ .faulted) (hf : s.FreeToLetGo t)
include hc hf

theorem exec_coverChange_stops (hu : (s.tr t).condition ≠ .unloaded) (hp : (s.tr t).lines.present = true)
    (ho : (s.tr t).lines.coverOpen = false) :
    ∃ u, exec (.coverChange t true) s = .next u ∧ s.FaultStopped u t .coverOpen := by
  rw [exec_coverChange_read (by rw [ho]; nofun) hp, coverRead_opens]
  · refine handFault_alike ?_ hc hf _
    constructor <;> rfl
  · rfl
  · exact hu

theorem exec_tapeBreak_stops {x : Reel} (hk : (s.tr t).columnChecked ((s.tr t).sense.columns.get x) = true) :
    ∃ u, exec (.tapeBreak t x) s = .next u ∧ s.FaultStopped u t .tapeBreak := by
  have hexec : exec (.tapeBreak t x) s = execTapeBreak t x s := rfl
  rw [hexec, execTapeBreak, if_pos hk]
  refine handFault_alike ?_ hc hf _
  constructor <;> rfl

theorem exec_columnEnd_stops {x : Reel} (hk : (s.tr t).columnChecked ((s.tr t).sense.columns.get x) = true)
    (e : ColumnEnd) : ∃ u, exec (.columnEnd t x e) s = .next u ∧ s.FaultStopped u t .columnEnd := by
  have hexec : exec (.columnEnd t x e) s = execColumnEnd t x e s := rfl
  rw [hexec, execColumnEnd, if_pos hk]
  refine handFault_alike ?_ hc hf _
  constructor <;> rfl

theorem exec_driveSaturation_stops (x : Reel) (hm : (s.tr t).servo.mode = .track) :
    ∃ u, exec (.driveSaturation t x) s = .next u ∧ s.FaultStopped u t .driveSaturation := by
  have hexec : exec (.driveSaturation t x) s = execDriveSaturation t x s := rfl
  rw [hexec, execDriveSaturation, if_pos (by rw [hm]; rfl)]
  refine handFault_alike ?_ hc hf _
  cases x <;> constructor <;> rfl

theorem exec_loopGuardTimerExpiry_stops (hg : (s.tr t).servo.loopGuard ≠ none) :
    ∃ u, exec (.loopGuardTimerExpiry t) s = .next u ∧ s.FaultStopped u t .recoveryTimeout := by
  have hexec : exec (.loopGuardTimerExpiry t) s = execLoopGuardTimerExpiry t s := rfl
  rw [hexec, execLoopGuardTimerExpiry, if_pos (Option.isSome_iff_ne_none.mpr hg)]
  refine handFault_alike ?_ hc hf _
  constructor <;> rfl

theorem exec_recoveryTimerExpiry_stops (ht : (s.tr t).hold.timer ≠ none) :
    ∃ u, exec (.recoveryTimerExpiry t) s = .next u ∧ s.FaultStopped u t .recoveryTimeout := by
  have hexec : exec (.recoveryTimerExpiry t) s = execRecoveryTimerExpiry t s := rfl
  rw [hexec, execRecoveryTimerExpiry, if_pos (Option.isSome_iff_ne_none.mpr ht)]
  refine handFault_alike ?_ hc hf _
  constructor <;> rfl

end

/-! ### A sample behind the stop -/

/-- The transport with this band standing. -/
def banded (tr : Transport) (b : Band) : Transport := { tr with servo := { tr.servo with band := b } }

section
variable {s : State} {t : TransportId} (hc : (s.tr t).condition = .faulted)
include hc

/-- A FAULTED transport, with its brakes engaged and its reels at 0, gets no demand from a sample (R71). -/
theorem driveOutputs_faulted (hs : (s.tr t).servo.zeroed = (s.tr t).servo) : driveOutputs t s = Reaction.idle s := by
  have hmode : (s.tr t).servoMode = .zero := by simp [Transport.servoMode, hc]
  have hsame : { s.tr t with servo := (s.tr t).servoDriven (s.servoOf t) } = s.tr t := by
    simp only [Transport.servoDriven, hmode]
    exact congrArg (fun x => { s.tr t with servo := x }) hs
  rw [driveOutputs, hsame, State.setTr_tr]

/-- At a FAULTED transport a sample sets the band standing and hands nothing over that acts (R74). -/
theorem runTasks_bandTests_faulted (hg : (s.tr t).servo.loopGuard = none) (n : Nat) (l : List Task) : ∃ b,
    ∀ u, runTasks n l (s.setTr t (banded (s.tr t) b)) = .next u → runTasks (n + 2) (.bandTests t :: l) s = .next u := by
  refine ⟨bandOf (s.servoOf t) (s.tr t).sense.depths, fun u h => ?_⟩
  have hnew : (s.tr t).bandTested (s.servoOf t) = banded (s.tr t) (bandOf (s.servoOf t) (s.tr t).sense.depths) := by
    simp only [Transport.bandTested, nextLoopGuard, Transport.hasPhase, Transport.searching, hc, banded, hg]
    rfl
  have htasks : bandTasks t (s.tr t).servo.band (banded (s.tr t) (bandOf (s.servoOf t) (s.tr t).sense.depths)) (s.servoOf t) =
      if (s.tr t).servo.band == .outsideGuard && bandOf (s.servoOf t) (s.tr t).sense.depths != .outsideGuard
      then [.takeTest t] else [] := by
    simp [bandTasks, banded, Transport.hasPhase, Transport.searching, hc]
  rw [runTasks_succ, handle, bandTests, hnew, htasks]
  split
  · have hidle : takeTest t (s.setTr t (banded (s.tr t) (bandOf (s.servoOf t) (s.tr t).sense.depths))) = Reaction.idle _ :=
      takeTest_of_not_canTake (by simp [Transport.canTake, banded, hc])
    rw [List.append_nil, List.singleton_append, runTasks_succ, handle, hidle]
    simpa [Reaction.idle] using h
  · simpa using runTasks_succ_of_next h

end

/-- The rest of a sample behind its fault stop changes nothing that the fault stop has left (R107, R71). -/
theorem runTasks_fault_bandTests {s : State} {t : TransportId} (hc : (s.tr t).condition ≠ .faulted) (hf : s.FreeToLetGo t)
    (c : FaultCause) {l : List Task} (hl : l = [] ∨ l = [.driveOutputs t]) (n : Nat) : ∃ u,
    runTasks (n + 6) (.fault t c :: (l ++ [.bandTests t])) s = .next u ∧ s.FaultStopped u t c := by
  obtain ⟨w, hw, hs⟩ := faultStop_stopped t c s
  have hz : (w.letGo t).tr t = { (s.tr t).faultStopped c ((s.tr t).takeSnapshot c) with
      release := none
      engine := { idleEngine with grant := if (s.tr t).engine.grant = .held then .none else (s.tr t).engine.grant } } := by
    rw [tr_letGo, hs.transport]; rfl
  obtain ⟨b, hband⟩ := runTasks_bandTests_faulted (s := w.letGo t) (t := t) (by rw [hz]; rfl) (by rw [hz]; rfl) (n + 1)
    [.vacuumReview]
  have halike : StopsAlike (banded (s.tr t) b) (s.tr t) := by constructor <;> rfl
  have hstopped : Stopped (s.setTr t (banded (s.tr t) b)) (w.setTr t (banded (w.tr t) b)) t c := {
    transport := by rw [State.tr_setTr_self, State.tr_setTr_self, hs.transport]; rfl
    others := fun v hv => by rw [State.tr_setTr_ne _ _ hv, State.tr_setTr_ne _ _ hv, hs.others v hv]
    ports := fun q => (hs.ports q).trans (faultPort_alike halike c q).symm
    owner := by rw [State.tr_setTr_self]; exact hs.owner
    tables := hs.tables, vacuum := hs.vacuum, arbiter := hs.arbiter }
  have hswap : (w.letGo t).setTr t (banded ((w.letGo t).tr t) b) = (w.setTr t (banded (w.tr t) b)).letGo t := by
    have hbanded : (banded (w.tr t) b).engine.grant = (w.tr t).engine.grant := rfl
    rw [setTr_letGo, tr_letGo]
    by_cases hg : (w.tr t).engine.grant = .held
    · simp only [State.letGo, State.released, State.tr_setTr_self, hbanded, hg, if_true,
        MarkerCrossings.setTr_with_arbiter, State.setTr_setTr]
      rfl
    · simp only [State.letGo, State.tr_setTr_self, hbanded, hg, if_false]
      rfl
  refine ⟨reviewVacuum ((w.setTr t (banded (w.tr t) b)).letGo t), runTasks_behind_fault hw hs hc hf ?_,
    faultStopped_alike halike (hstopped.faultStopped (freeToLetGo_setTr hf rfl))⟩
  have hrest : runTasks (n + 3) [.bandTests t, .vacuumReview] (w.letGo t) =
      .next (reviewVacuum ((w.setTr t (banded (w.tr t) b)).letGo t)) :=
    hband _ (by rw [hswap, runTasks_vacuumReview, runTasks_nil])
  obtain rfl | rfl := hl
  · exact runTasks_succ_of_next hrest
  · have hidle : driveOutputs t (w.letGo t) = Reaction.idle (w.letGo t) :=
      driveOutputs_faulted (by rw [hz]; rfl) (by rw [hz]; rfl)
    rw [List.cons_append, List.cons_append, runTasks_succ, handle, hidle]
    exact hrest

/-! ### A sample that finds a full run -/

section
variable {s : State} {t : TransportId} {l : LoopReading} (hc : (s.tr t).condition ≠ .faulted) (hf : s.FreeToLetGo t)
include hc hf

/-- A sample with a full column run and no full saturation run makes the fault stop of its columns (R5, R6). -/
theorem exec_servoSample_column {c : FaultCause}
    (hk : columnCause ((s.tr t).sampled l).sense.columns.file ((s.tr t).sampled l).sense.columns.machine = some c)
    (hs : ((s.tr t).sampled l).servoSaturates (s.servoOf t) = false) :
    ∃ u, exec (.servoSample t l) s = .next u ∧ (s.setTr t ((s.tr t).sampled l)).FaultStopped u t c := by
  have hexec : exec (.servoSample t l) s = runTasks 4096 [.fault t c, .driveOutputs t, .bandTests t]
      (s.setTr t ((s.tr t).sampled l)) := by
    simp only [exec, execServoSample, finish, agendaBound, servoSample, hk, hs, sampleTasks, Bool.and_false,
      Bool.false_eq_true, if_false, List.append_nil]
  rw [hexec]
  refine runTasks_fault_bandTests ?_ (freeToLetGo_setTr hf ?_) c (.inr rfl) 4090
  · rw [State.tr_setTr_self]; exact hc
  · rfl

/-- A sample with a full saturation run alone makes the fault stop behind its demands (R69). -/
theorem exec_servoSample_saturation
    (hk : columnCause ((s.tr t).sampled l).sense.columns.file ((s.tr t).sampled l).sense.columns.machine = none)
    (hs : ((s.tr t).sampled l).servoSaturates (s.servoOf t) = true) :
    ∃ u, exec (.servoSample t l) s = .next u ∧
      (s.setTr t ((s.tr t).driven l (s.servoOf t))).FaultStopped u t .driveSaturation := by
  have hexec : exec (.servoSample t l) s = runTasks 4095 [.fault t .driveSaturation, .bandTests t]
      (s.setTr t ((s.tr t).driven l (s.servoOf t))) := by
    simp [exec, execServoSample, finish, agendaBound, servoSample, hk, hs, sampleTasks, handle, driveOutputs,
      Reaction.idle, Transport.driven]
  rw [hexec]
  refine runTasks_fault_bandTests ?_ (freeToLetGo_setTr hf ?_) _ (.inl rfl) 4089
  · rw [State.tr_setTr_self]; exact hc
  · rfl

end

/-! ### Which runs a sample fills -/

section
variable {tr : Transport} {l : LoopReading} (hc : Checks tr) (hf : tr.sense.columns.file.tapeSeen = true)
  (hm : tr.sense.columns.machine.tapeSeen = true)
include hc hf hm

/-- The columns of a sample where both have held a loop (R5, R6). -/
theorem sampled_columns : (tr.sampled l).sense.columns =
    { file := { tapeSeen := true, zeroRun := nextRun (l.flp.toNat == 0) tr.sense.columns.file.zeroRun
                upperRun := nextRun l.fue tr.sense.columns.file.upperRun
                lowerRun := nextRun l.fle tr.sense.columns.file.lowerRun }
      machine := { tapeSeen := true, zeroRun := nextRun (l.mlp.toNat == 0) tr.sense.columns.machine.zeroRun
                   upperRun := nextRun l.mue tr.sense.columns.machine.upperRun
                   lowerRun := nextRun l.mle tr.sense.columns.machine.lowerRun } } :=
  congrArg₂ PerReel.mk (sampled_checked hc (.inl hf) (l.fue, l.fle)) (sampled_checked hc (.inl hm) (l.mue, l.mle))

theorem sampled_broken_iff : ((tr.sampled l).sense.columns.file.zeroRun = 2 ∨ (tr.sampled l).sense.columns.machine.zeroRun = 2) ↔
    (l.flp = 0 ∧ 1 ≤ tr.sense.columns.file.zeroRun) ∨ (l.mlp = 0 ∧ 1 ≤ tr.sense.columns.machine.zeroRun) := by
  rw [sampled_columns hc hf hm]
  have hzero : ∀ b : Byte, b.toNat = 0 ↔ b = 0 := fun b => (BitVec.toNat_eq (y := 0#8)).symm
  simp only [nextRun_full_iff, beq_iff_eq, hzero]

theorem sampled_ended_iff : ((tr.sampled l).sense.columns.file.upperRun = 2 ∨ (tr.sampled l).sense.columns.file.lowerRun = 2 ∨
      (tr.sampled l).sense.columns.machine.upperRun = 2 ∨ (tr.sampled l).sense.columns.machine.lowerRun = 2) ↔
    (l.fue = true ∧ 1 ≤ tr.sense.columns.file.upperRun) ∨ (l.fle = true ∧ 1 ≤ tr.sense.columns.file.lowerRun) ∨
      (l.mue = true ∧ 1 ≤ tr.sense.columns.machine.upperRun) ∨ (l.mle = true ∧ 1 ≤ tr.sense.columns.machine.lowerRun) := by
  rw [sampled_columns hc hf hm]
  simp only [nextRun_full_iff]

end

/-- TAPE BREAK goes before COLUMN END (R6). -/
theorem columnCause_eq (a b : Column) : columnCause a b =
    if a.zeroRun = 2 ∨ b.zeroRun = 2 then some .tapeBreak
    else if a.upperRun = 2 ∨ a.lowerRun = 2 ∨ b.upperRun = 2 ∨ b.lowerRun = 2 then some .columnEnd else none := by
  simp [columnCause, or_assoc]

/-- In TRACK a reel saturates when its target is clamped and its run is then at the limit (R68, R69). -/
theorem saturates_track_iff (x : ReelServo) (d : Int) (limit : Nat) :
    x.saturates .track d limit = true ↔ 2047 < d.natAbs ∧ limit ≤ min 255 (x.satRun + 1) := by
  by_cases h : d.natAbs ≤ 2047
  · simp only [saturates_of_inRange h, Bool.false_eq_true, false_iff, not_and]
    omega
  · have hclamp : clampDemand d ≠ d := fun k => h ((clampDemand_eq_iff d).mp k)
    simp only [ReelServo.saturates, nextSatRun, satSucc, smallCountTop, beq_self_eq_true, Bool.true_and,
      bne_iff_ne.mpr hclamp, if_true, decide_eq_true_eq]
    exact ⟨fun hl => ⟨by omega, hl⟩, fun hl => hl.2⟩

section
variable {s : State} {t : TransportId} {l : LoopReading} (hc : (s.tr t).condition = .loaded)
  (hb : (s.tr t).brakesEngaged = false)
include hc hb

theorem servoSaturates_iff {f m : Int} (hf : reelTarget .track .file (s.servoOf t) ((s.tr t).sampled l) = f)
    (hm : reelTarget .track .machine (s.servoOf t) ((s.tr t).sampled l) = m) :
    ((s.tr t).sampled l).servoSaturates (s.servoOf t) = true ↔
      (2047 < f.natAbs ∧ (s.servoOf t).satLimit ≤ min 255 ((s.tr t).servo.reels.file.satRun + 1)) ∨
      (2047 < m.natAbs ∧ (s.servoOf t).satLimit ≤ min 255 ((s.tr t).servo.reels.machine.satRun + 1)) := by
  have hmode : ((s.tr t).sampled l).servoMode = .track := servoMode_track hb hc
  simp only [Transport.servoSaturates, hmode, hf, hm, Bool.or_eq_true, saturates_track_iff]
  rfl

/-- The transport driven by a sample in TRACK (R65 to R70). -/
theorem driven_track {f m : Int} (hf : reelTarget .track .file (s.servoOf t) ((s.tr t).sampled l) = f)
    (hm : reelTarget .track .machine (s.servoOf t) ((s.tr t).sampled l) = m) :
    (s.tr t).driven l (s.servoOf t) = { (s.tr t).sampled l with servo := { (s.tr t).servo with
      mode := .track
      reels := { file := (s.tr t).servo.reels.file.driven .track f (s.servoOf t).slew
                 machine := (s.tr t).servo.reels.machine.driven .track m (s.servoOf t).slew } } } := by
  have hmode : ((s.tr t).sampled l).servoMode = .track := servoMode_track hb hc
  simp only [Transport.driven, Transport.servoDriven, hmode, hf, hm]
  rfl

end

theorem loopGain_eq (c : ServoRecord) (a : Option Rank) :
    ((loopGain c a : Nat) : Int) = if a = some .loopGuard then (c.kpRec : Int) else c.kp := by
  cases a with
  | none => rfl
  | some r => cases r <;> rfl

/-- Settles O53: the commands name a run or timer as full; a sample finds one in its columns or in its targets; and an
opening cover at a FAULTED transport is a further fault. -/
theorem faultStopFollowsItsCause : Obligations.FaultStopFollowsItsCause := by
  intro t s tr
  refine ⟨fun hu hc hf => ⟨exec_coverChange_stops hc hf hu, fun x hwhen hseen => ?columns,
    exec_driveSaturation_stops hc hf, exec_loopGuardTimerExpiry_stops hc hf, exec_recoveryTimerExpiry_stops hc hf,
    fun l hl hb hfile hmachine => ?sample⟩, fun x hc hp ho hx => ?further⟩
  case columns =>
    have hchecked : tr.columnChecked (tr.sense.columns.get x) = true := by
      simpa [Transport.columnChecked, Transport.drawBegun, hseen] using hwhen
    exact ⟨exec_tapeBreak_stops hc hf hchecked, exec_columnEnd_stops hc hf hchecked⟩
  case sample =>
    intro c f m file machine gain targetF targetM out read broken ended
    obtain ⟨htf, htm⟩ := reelTarget_track tr l c
    rw [loopGain_eq] at htf htm
    have hread : StopsAlike (tr.sampled l) ((s.setTr t read).tr t) := by
      rw [State.tr_setTr_self]; constructor <;> rfl
    have hcause := columnCause_eq (tr.sampled l).sense.columns.file (tr.sampled l).sense.columns.machine
    simp only [sampled_broken_iff (l := l) (.inl hl) hfile hmachine, sampled_ended_iff (l := l) (.inl hl) hfile hmachine] at hcause
    have hsat := servoSaturates_iff hl hb htf htm
    have hcolumn : ∀ k, targetF.natAbs ≤ 2047 → targetM.natAbs ≤ 2047 →
        columnCause (tr.sampled l).sense.columns.file (tr.sampled l).sense.columns.machine = some k →
        ∃ u, exec (.servoSample t l) s = .next u ∧ (s.setTr t read).FaultStopped u t k := fun k h1 h2 hk => by
      have hnone : (tr.sampled l).servoSaturates c = false := by
        rw [Bool.eq_false_iff, ne_eq, hsat]
        rintro (⟨h, -⟩ | ⟨h, -⟩)
        · exact h.not_ge h1
        · exact h.not_ge h2
      obtain ⟨u, hu, hstop⟩ := exec_servoSample_column hc hf hk hnone
      exact ⟨u, hu, faultStopped_alike hread (by rw [State.setTr_setTr]; exact hstop)⟩
    refine ⟨fun h1 h2 hk => hcolumn _ h1 h2 (hcause.trans (if_pos hk)),
      fun h1 h2 hk he => hcolumn _ h1 h2 (hcause.trans ((if_neg hk).trans (if_pos he))), fun hk he hs => ?_⟩
    obtain ⟨u, hu, hstop⟩ := exec_servoSample_saturation hc hf (hcause.trans ((if_neg hk).trans (if_neg he)))
      (hsat.mpr hs)
    refine ⟨u, hu, faultStopped_alike (x := tr.driven l c) ?_ (by rw [State.setTr_setTr]; exact hstop)⟩
    rw [State.tr_setTr_self, driven_track hl hb htf htm]
    constructor <;> rfl
  case further =>
    rw [exec_coverChange_read (by rw [ho]; nofun) hp, coverRead_opens]
    · rw [handFault_faulted .coverOpen (by exact hc), finish_idle]
      simp only [← show tr = s.tr t from rfl, hx, Option.map_some]
    · rfl
    · exact fun hu => by cases hc.symm.trans hu

end Sys2Proof.FaultStops
end

section
/-! SUPPORT. What a servo sample does by mode, band and phase (R65 to R75, R85 to R89, R147), with the statement about it. -/

namespace Sys2Proof.ServoDrives

open Sys2Proof Sys2Proof.Machine Sys2Proof.OrderQueue Sys2Proof.Resumption Sys2Proof.ServoSamples Sys2Proof.FaultStops

/-! ### A sample in TRACK with no LOOP GUARD recovery -/

/-- The reels after a step under the slew limit toward demands in their range (R70). -/
def reelsToward (tr : Transport) (slew : Nat) (f m : Int) : PerReel ReelServo :=
  { file := { tr.servo.reels.file with
      demand := tr.servo.reels.file.demand + max (-(slew : Int)) (min slew (f - tr.servo.reels.file.demand)), satRun := 0 }
    machine := { tr.servo.reels.machine with
      demand := tr.servo.reels.machine.demand + max (-(slew : Int)) (min slew (m - tr.servo.reels.machine.demand))
      satRun := 0 } }

/-- The loop depths of a reading. -/
def depthsOf (l : LoopReading) : PerReel Nat := { file := l.flp.toNat, machine := l.mlp.toNat }

/-- A LOADED transport behind a sample with no LOOP GUARD recovery active: the depths and the columns held, the reels
driven, the band standing, the loop-guard timer running only OUTSIDE GUARD at STOPPED, and a pending LOOP GUARD gone
elsewhere (R74, R75, R86). -/
def trackSample (tr : Transport) (c : ServoRecord) (l : LoopReading) (columns : PerReel Column)
    (reels : PerReel ReelServo) : Transport :=
  { tr with
    sense := { tr.sense with depths := depthsOf l, columns := columns }
    servo := { reels := reels, mode := .track, band := bandOf c (depthsOf l)
               loopGuard := if tr.phase = .stopped ∧ bandOf c (depthsOf l) = .outsideGuard then
                 some (tr.servo.loopGuard.getD (1000 * c.recoveryLimit)) else none }
    hold := if bandOf c (depthsOf l) = .outsideGuard then tr.hold
      else { tr.hold with pending := { tr.hold.pending with loopGuard := false } } }

theorem nextLoopGuard_loaded {tr : Transport} (hc : tr.condition = .loaded) (b : Band) (limit : Nat) :
    nextLoopGuard tr b limit =
      if tr.phase = .stopped ∧ b = .outsideGuard then some (tr.servo.loopGuard.getD (1000 * limit)) else none := by
  by_cases h : tr.phase = .stopped ∧ b = .outsideGuard
  · rw [if_pos h]
    cases hg : tr.servo.loopGuard <;> simp [nextLoopGuard, hc, h, hg, ms, Nat.mul_comm]
  · rw [if_neg h]
    simpa [nextLoopGuard, hc] using fun h1 h2 => absurd ⟨h1, h2⟩ h

theorem sampled_not_active {h : Hold} (ha : h.active ≠ some .loopGuard) (b : Band) : h.sampled b =
    if b = .outsideGuard then h else { h with pending := { h.pending with loopGuard := false } } := by
  by_cases hb : b = .outsideGuard <;> simp [Hold.sampled, hb, ha, Hold.dropPending, RankSet.put]

theorem settled_not_active {h : Hold} (ha : h.active ≠ some .loopGuard) (b : Band) (goal : Nat) :
    h.settled b goal = false := by
  simp [Hold.settled, ha]

section
variable {s : State} {t : TransportId} {l : LoopReading} (hc : (s.tr t).condition = .loaded)
  (ha : (s.tr t).hold.active ≠ some .loopGuard)
include ha

theorem trackSample_active (c : ServoRecord) (columns : PerReel Column) (reels : PerReel ReelServo) :
    (trackSample (s.tr t) c l columns reels).hold.active ≠ some .loopGuard := by
  unfold trackSample
  dsimp only
  split <;> exact ha

include hc

theorem behindSample_track (c : ServoRecord) (columns : PerReel Column) (reels : PerReel ReelServo) :
    behindSample (s.tr t) c l columns .track reels = trackSample (s.tr t) c l columns reels := by
  have hh : (s.tr t).hasPhase = true := by simp [Transport.hasPhase, hc]
  simp only [behindSample, hh, if_true, sampled_not_active ha, nextLoopGuard_loaded hc]
  rfl

end

/-- The hand-offs of the band standing at a LOADED transport with no LOOP GUARD recovery (R25, R74, R85). -/
theorem bandTasks_loaded {y : Transport} (hc : y.condition = .loaded) (ha : y.hold.active ≠ some .loopGuard)
    (t : TransportId) (old : Band) (c : ServoRecord) : bandTasks t old y c =
      (if y.servo.band = .outsideGuard then [.arrive t .loopGuard] else []) ++
        if old = .outsideGuard ∧ y.servo.band ≠ .outsideGuard then [.takeTest t] else [] := by
  simp [bandTasks, settled_not_active ha, Transport.hasPhase, hc]

/-- The columns of a sample with a loop in both and no end switch active (R5, R6). -/
def quietColumns : PerReel Column := { file := seenColumn, machine := seenColumn }

/-- No end switch is active, and no column reads zero. -/
def Quiet (l : LoopReading) : Prop := l.fue = false ∧ l.fle = false ∧ l.mue = false ∧ l.mle = false ∧ l.flp ≠ 0 ∧ l.mlp ≠ 0

theorem toNat_ne_zero {b : Byte} (h : b ≠ 0) : b.toNat ≠ 0 := fun k => h (BitVec.eq_of_toNat_eq k)

theorem sampled_quietColumns {tr : Transport} (hc : Checks tr) {l : LoopReading} (hl : Quiet l) :
    ({ file := tr.sense.columns.file.sampled tr l.flp.toNat (l.fue, l.fle)
       machine := tr.sense.columns.machine.sampled tr l.mlp.toNat (l.mue, l.mle) } : PerReel Column) = quietColumns := by
  obtain ⟨h1, h2, h3, h4, hf, hm⟩ := hl
  rw [h1, h2, h3, h4, sampled_quiet hc _ (toNat_ne_zero hf), sampled_quiet hc _ (toNat_ne_zero hm)]
  rfl

/-- The targets of a sample in TRACK at the loop gain `g` (R66, R67). -/
def TargetsAt (tr : Transport) (c : ServoRecord) (l : LoopReading) (g f m : Int) : Prop :=
  f = (tr.engine.v * c.gFF).tdiv (16 * tr.servo.reels.file.radius) + (g * ((c.setpoint : Int) - l.flp.toNat)).tdiv 4 ∧
    m = (tr.engine.v * c.gFF).tdiv (16 * tr.servo.reels.machine.radius) + (g * ((l.mlp.toNat : Int) - c.setpoint)).tdiv 4

theorem reelTarget_at {tr : Transport} {c : ServoRecord} {l : LoopReading} {g f m : Int} (h : TargetsAt tr c l g f m)
    (hg : g = if tr.hold.active = some .loopGuard then (c.kpRec : Int) else c.kp) :
    reelTarget .track .file c (tr.sampled l) = f ∧ reelTarget .track .machine c (tr.sampled l) = m := by
  obtain ⟨htf, htm⟩ := reelTarget_track tr l c
  rw [loopGain_eq, ← hg] at htf htm
  exact ⟨htf.trans h.1.symm, htm.trans h.2.symm⟩

section
variable {s : State} {t : TransportId} {l : LoopReading} {f m : Int} (hc : (s.tr t).condition = .loaded)
  (hb : (s.tr t).brakesEngaged = false) (ha : (s.tr t).hold.active ≠ some .loopGuard)
  (htarget : TargetsAt (s.tr t) (s.servoOf t) l (s.servoOf t).kp f m)
include hc hb ha htarget

/-- A sample in TRACK whose reels and columns have no full run. -/
theorem exec_servoSample_tracked {columns : PerReel Column} {reels : PerReel ReelServo}
    (hcolumns : { file := (s.tr t).sense.columns.file.sampled (s.tr t) l.flp.toNat (l.fue, l.fle)
                  machine := (s.tr t).sense.columns.machine.sampled (s.tr t) l.mlp.toNat (l.mue, l.mle) } = columns)
    (hnone : columnCause columns.file columns.machine = none)
    (hsat : ((s.tr t).sampled l).servoSaturates (s.servoOf t) = false)
    (hreels : { file := (s.tr t).servo.reels.file.driven .track f (s.servoOf t).slew
                machine := (s.tr t).servo.reels.machine.driven .track m (s.servoOf t).slew } = reels) :
    let y := trackSample (s.tr t) (s.servoOf t) l columns reels
    exec (.servoSample t l) s = runTasks 4094
      ((if y.servo.band = .outsideGuard then [.arrive t .loopGuard] else []) ++
        if (s.tr t).servo.band = .outsideGuard ∧ y.servo.band ≠ .outsideGuard then [.takeTest t] else []) (s.setTr t y) := by
  subst hreels
  intro y
  obtain ⟨htf, htm⟩ := reelTarget_at htarget (if_neg ha).symm
  have hbehind : behindSample (s.tr t) (s.servoOf t) l columns .track _ = y := behindSample_track hc ha ..
  have hactive : y.hold.active ≠ some .loopGuard := trackSample_active ha _ _ _
  rw [exec_servoSample_behind hcolumns hnone (servoMode_track hb hc) hsat (by rw [htf, htm]), hbehind,
    bandTasks_loaded (y := y) hc hactive]

/-- A sample in TRACK with quiet columns and targets in the demand range. -/
theorem exec_servoSample_track (hl : Quiet l) (hf : f.natAbs ≤ 2047) (hm : m.natAbs ≤ 2047) :
    let y := trackSample (s.tr t) (s.servoOf t) l quietColumns (reelsToward (s.tr t) (s.servoOf t).slew f m)
    exec (.servoSample t l) s = runTasks 4094
      ((if y.servo.band = .outsideGuard then [.arrive t .loopGuard] else []) ++
        if (s.tr t).servo.band = .outsideGuard ∧ y.servo.band ≠ .outsideGuard then [.takeTest t] else []) (s.setTr t y) := by
  obtain ⟨htf, htm⟩ := reelTarget_at htarget (if_neg ha).symm
  refine exec_servoSample_tracked hc hb ha htarget (sampled_quietColumns (.inl hc) hl) rfl ?_ ?_
  · have hmode : ((s.tr t).sampled l).servoMode = .track := servoMode_track hb hc
    rw [Transport.servoSaturates, hmode, htf, htm]
    exact Bool.or_eq_false_iff.mpr ⟨saturates_of_inRange hf .., saturates_of_inRange hm ..⟩
  · rw [driven_inRange hf _ (by nofun), driven_inRange hm _ (by nofun)]
    rfl

end

/-! ### What the band standing makes of the sample -/

section
variable (tr : Transport) {c : ServoRecord} {l : LoopReading} (columns : PerReel Column) (reels : PerReel ReelServo)

theorem trackSample_inside (h : bandOf c (depthsOf l) ≠ .outsideGuard) : trackSample tr c l columns reels = { tr with
    sense := { tr.sense with depths := depthsOf l, columns := columns }
    servo := { reels := reels, mode := .track, band := bandOf c (depthsOf l), loopGuard := none }
    hold := { tr.hold with pending := { tr.hold.pending with loopGuard := false } } } := by
  rw [trackSample, if_neg h, if_neg fun k => h k.2]

theorem trackSample_outside (h : bandOf c (depthsOf l) = .outsideGuard) : trackSample tr c l columns reels = { tr with
    sense := { tr.sense with depths := depthsOf l, columns := columns }
    servo := { reels := reels, mode := .track, band := .outsideGuard
               loopGuard := if tr.phase = .stopped then some (tr.servo.loopGuard.getD (1000 * c.recoveryLimit)) else none } } := by
  simp only [trackSample, h, and_true, if_true]

end

/-! ### A take behind a sample (R25, R74) -/

theorem resolve_eq {x : OrderRecord} (hk : x.kind ≠ .load) (selected : Fin 16) : x.resolve selected =
    if x.kind = .unload then 15 else x.profile.getD (if x.kind = .rewind then 15 else selected) := by
  cases h : x.kind with
  | load => exact absurd h hk
  | move | rewind | unload => simp [OrderRecord.resolve, h]

theorem takeDirection_eq (x : OrderRecord) :
    x.takeDirection = if x.kind = .move then x.direction.getD .forward else .reverse := by
  cases h : x.kind <;> simp [OrderRecord.takeDirection, h]

theorem motion_eq (x : OrderRecord) (n : Fin 16) (p : Profile) : x.motion n p = {
    kind := x.kind, tag := x.tag, origin := x.origin, profileNo := n, copy := p
    direction := if x.kind = .move then x.direction.getD .forward else .reverse
    r := x.distance.map (fun (n : Nat) => (n : Int)), endReason := none, arrivalUnit := x.arrivalUnit } := by
  rw [← motion_r x n p, ← takeDirection_eq]
  rfl

theorem atTake_eq {k : OrderKind} (hk : k ≠ .load) (l : LoadControl) (pos : Position) (approach : Nat) :
    l.atTake k pos approach = if k = .move then l else
      { idleLoad with sequence := if k = .rewind then .rewind else .unload, step := some (firstSubStep pos approach) } := by
  cases k with
  | load => exact absurd rfl hk
  | move | rewind | unload => rfl

theorem taking_setTr (s : State) (t : TransportId) (z : Transport) (x : OrderRecord) (rest : List OrderRecord)
    (p : Profile) : taking (s.setTr t z) t x rest p = { z with
      queue := rest, phase := .waitVacuum, motion := some (x.motion (x.resolve z.selected) p)
      load := z.load.atTake x.kind z.position (s.servoOf t).approach } := by
  simp only [taking, State.tr_setTr_self, State.servoOf_setTr]

section
variable {s : State} {t : TransportId} {x : OrderRecord} {rest : List OrderRecord} {p : Profile}
  (hc : (s.tr t).canTake = true) (hq : (s.tr t).queue = x :: rest)
  (hp : s.tables.profiles.get (x.resolve (s.tr t).selected) = some p) (hcls : x.kind ≠ .move → p.cls = .rewind)
  (hl : x.kind = .move → ∀ code, ¬ s.LimitMet t (x.direction.getD .forward) code) (hk : x.kind ≠ .load)
  (hr : s.vacuum.ready = false)
include hc hq hp hcls hl hk hr

/-- With READY false the head of the queue is taken and waits for vacuum (R25 to R27, R43). -/
theorem runTasks_takeTest_waits (n : Nat) : ∃ u, runTasks (n + 3) [.takeTest t] s = .next u ∧ u.ports = s.ports ∧
    u.owners = s.owners ∧ u.tables = s.tables ∧ u.arbiter = s.arbiter ∧ u.vacuum.ready = false ∧
    u.tr t = { taking s t x rest p with
      engine := { (s.tr t).engine with
        workTop := if x.kind = .move then (s.tr t).engine.workTop
          else some (s.topFor t (x.motion (x.resolve (s.tr t).selected) p)
            (some (firstSubStep (s.tr t).position (s.servoOf t).approach))) } } := by
  have hentry : entryServes x.kind (s.tables.profiles.get (x.resolve (s.tr t).selected)) = some p :=
    entryServes_eq_some.mpr ⟨hp, (em (x.kind = .move)).imp_right hcls⟩
  obtain ⟨mon, htake⟩ := takeTest_sets hc hq hentry fun hm => by
    rw [takeDirection_eq, if_pos hm]; exact hl hm
  let w : State := { s.setTr t (taking s t x rest p) with monitor := mon }
  have hwt : w.tr t = taking s t x rest p := State.tr_setTr_self ..
  obtain ⟨hreview, hready⟩ := reviewVacuum_of_not_ready (s := w) hr
  have hrt : (reviewVacuum w).tr t = taking s t x rest p := by rw [hreview]; exact hwt
  have htop : (taking s t x rest p).topAtStart (x.motion (x.resolve (s.tr t).selected) p) (s.servoOf t).approach =
      if x.kind = .move then (s.tr t).engine.workTop
      else some (s.topFor t (x.motion (x.resolve (s.tr t).selected) p)
        (some (firstSubStep (s.tr t).position (s.servoOf t).approach))) := by
    by_cases hm : x.kind = .move
    · rw [if_pos hm]
      simp only [Transport.topAtStart, OrderRecord.motion, hm]
      rfl
    · have hstep : (taking s t x rest p).load.step = some (firstSubStep (s.tr t).position (s.servoOf t).approach) :=
        (atTake_sequence _ _ _ hm hk).1
      rw [if_neg hm, ← hstep]
      exact topAtStart_eq (s := s) (t := t) (tr := taking s t x rest p)
        (m := x.motion (x.resolve (s.tr t).selected) p) hm rfl
  have hservo : (reviewVacuum w).servoOf t = s.servoOf t := by rw [hreview]; rfl
  rw [runTasks_succ, handle, htake]
  simp only [List.append_nil]
  rw [runTasks_vacuumReview, runTasks_succ, handle, startFromRest_waits (by rw [hrt]; rfl) hready, hrt, hservo, htop]
  refine ⟨_, runTasks_nil .., ?_, ?_, ?_, ?_, hready, State.tr_setTr_self ..⟩
  all_goals rw [Reaction.idle, hreview]; rfl

end

/-! ### LOOP GUARD arrives (R85, R91 to R94, R97) -/

theorem stands_loopGuard (h : Hold) :
    h.stands .loopGuard = true ↔ h.cause = some .loopGuard ∨ h.inService.loopGuard = true ∨ h.pending.loopGuard = true := by
  simp [Hold.stands, RankSet.has, or_assoc]

/-- The Hold Controller with LOOP GUARD in service as the active recovery (R88, R89). -/
def guarding (h : Hold) (limit : Nat) : Hold :=
  { h with inService := { h.inService with loopGuard := true }, active := some .loopGuard, settle := 0
           timer := some (1000 * limit) }

section
variable {s : State} {t : TransportId}

/-- LOOP GUARD changes nothing at STOPPED, nor where it stands already (R74, R85). -/
theorem runTasks_guard_idle (h : (s.tr t).phase = .stopped ∨ (s.tr t).hold.stands .loopGuard = true) (n : Nat) :
    runTasks (n + 1) [.arrive t .loopGuard] s = .next s := by
  have harrive : arriveCause t .loopGuard s = Reaction.idle s := by
    by_cases hn : (!(s.tr t).hasPhase || (s.tr t).hold.stands .loopGuard) = true
    · exact if_pos hn
    · have hp := h.resolve_right fun k => hn (by rw [k, Bool.or_true])
      exact (if_neg hn).trans (by simp [hp])
  rw [runTasks_succ, handle, harrive]
  exact runTasks_nil ..

theorem runTasks_enterGuard (n : Nat) (l : List Task) : runTasks (n + 1) (.enterService t .loopGuard :: l) s =
    runTasks n l (s.setTr t (holding (s.tr t) (guarding (s.tr t).hold (s.servoOf t).recoveryLimit))) :=
  runTasks_enterService (fun h => by cases h) n l

variable (hc : (s.tr t).condition = .loaded) (hs : (s.tr t).hold.stands .loopGuard = false)
include hc hs

/-- LOOP GUARD in motion becomes the hold cause of a deceleration (R92). -/
theorem runTasks_guard_moving (hp : (s.tr t).phase = .accel ∨ (s.tr t).phase = .cruise) (hf : s.FreeToLetGo t) (n : Nat) :
    runTasks (n + 2) [.arrive t .loopGuard] s = .next ((s.setTr t
      { s.tr t with phase := .holdDecel, hold := { (s.tr t).hold with cause := some .loopGuard } }).letGo t) := by
  have harrive : arriveCause t .loopGuard s =
      beginDecel t .holdDecel (s.setTr t { s.tr t with hold := { (s.tr t).hold with cause := some .loopGuard } }) := by
    obtain hp | hp := hp <;> simp [arriveCause, Transport.hasPhase, hc, hs, hp, State.setHold]
  rw [runTasks_succ, handle, harrive]
  rw [runTasks_beginDecel (freeToLetGo_setTr hf (by rfl)) (runTasks_nil ..), setPhase_setTr]

/-- LOOP GUARD in a deceleration, or behind a VACUUM SAG, becomes pending (R93, R94, R97). -/
theorem runTasks_guard_pends (hp : (s.tr t).phase = .decel ∨ (s.tr t).phase = .holdDecel ∨
    ((s.tr t).phase = .held ∧ (s.tr t).hold.active = some .sag)) (n : Nat) :
    runTasks (n + 1) [.arrive t .loopGuard] s = .next (s.setTr t { s.tr t with
      hold := { (s.tr t).hold with pending := { (s.tr t).hold.pending with loopGuard := true } } }) := by
  have harrive : arriveCause t .loopGuard s = addPending t .loopGuard s := by
    obtain hp | hp | ⟨hp, ha⟩ := hp
    · simp [arriveCause, Transport.hasPhase, hc, hs, hp]
    · simp [arriveCause, Transport.hasPhase, hc, hs, hp]
    · simp [arriveCause, Transport.hasPhase, hc, hs, hp, arriveHeld, ha, Rank.outranks, Rank.number]
  rw [runTasks_succ, handle, harrive]
  exact runTasks_nil ..

/-- LOOP GUARD in a waiting phase saves the order and enters service; a request is withdrawn (R87, R91). -/
theorem runTasks_guard_waiting {m : Motion} (hp : (s.tr t).phase = .waitVacuum ∨ (s.tr t).phase = .waitGrant)
    (hm : (s.tr t).motion = some m) (hg : (s.tr t).engine.grant ≠ .held) (n : Nat) :
    runTasks (n + 2) [.arrive t .loopGuard] s = .next ((s.withdrawn t).setTr t { s.tr t with
      motion := none, phase := .held, engine := { ((s.withdrawn t).tr t).engine with workTop := none }
      hold := { guarding (s.tr t).hold (s.servoOf t).recoveryLimit with slot1 := .saved m } }) := by
  have harrive : arriveCause t .loopGuard s =
      { state := pushContext t (s.withdrawn t), now := [.enterService t .loopGuard] } := by
    obtain hp | hp := hp <;>
      simp [arriveCause, Transport.hasPhase, hc, hs, hp, giveUpGrant_of_not_held hg, Reaction.idle]
  rw [runTasks_succ, handle, harrive]
  simp only [List.append_nil]
  rw [runTasks_enterGuard, runTasks_nil]
  have hservo : (s.withdrawn t).servoOf t = s.servoOf t := by
    by_cases hr : (s.tr t).engine.grant = .requested <;> simp [State.withdrawn, hr]
  simp only [pushContext, tr_withdrawn, hm, Transport.emptyMotion, State.tr_setTr_self, State.setTr_setTr,
    State.servoOf_setTr, hservo]
  rfl

variable (hp : (s.tr t).phase = .held) (ha : (s.tr t).hold.active = some .pause)
include hp ha

theorem arriveCause_guard_held : arriveCause t .loopGuard s =
    if (s.tr t).hold.slot2.isSome then { state := s, now := [.fault t .suspendOverflow] }
    else { state := pushRecovery t .pause s, now := [.enterService t .loopGuard] } := by
  have hout : Rank.loopGuard.outranks .pause = true := rfl
  simp [arriveCause, Transport.hasPhase, hc, hs, hp, arriveHeld, ha, hout]

/-- LOOP GUARD goes before a PAUSE, which waits in slot 2 (R87, R97). -/
theorem runTasks_guard_pushes (h2 : (s.tr t).hold.slot2 = none) (n : Nat) :
    runTasks (n + 2) [.arrive t .loopGuard] s = .next (s.setTr t { s.tr t with
      hold := { guarding (s.tr t).hold (s.servoOf t).recoveryLimit with
        slot2 := some { rank := .pause, settle := (s.tr t).hold.settle } } }) := by
  rw [runTasks_succ, handle, arriveCause_guard_held hc hs hp ha, h2]
  simp only [Option.isSome_none, Bool.false_eq_true, if_false, List.append_nil]
  rw [runTasks_enterGuard, runTasks_nil, pushRecovery, State.setHold, State.tr_setTr_self, State.setTr_setTr]
  rfl

/-- With slot 2 taken there is no room for another recovery (R87). -/
theorem runTasks_guard_overflows (h2 : (s.tr t).hold.slot2 ≠ none) (n : Nat) :
    runTasks (n + 1) [.arrive t .loopGuard] s = runTasks n [.fault t .suspendOverflow] s := by
  rw [runTasks_succ, handle, arriveCause_guard_held hc hs hp ha, if_pos (Option.isSome_iff_ne_none.mpr h2)]
  rfl

end

/-! ### A sample outside TRACK -/

/-- The columns of a sample at a transport whose columns are not checked (R5, R6). -/
def uncheckedColumns (tr : Transport) : PerReel Column :=
  { file := { seenColumn with tapeSeen := tr.sense.columns.file.tapeSeen }
    machine := { seenColumn with tapeSeen := tr.sense.columns.machine.tapeSeen } }

theorem sampled_uncheckedColumns {tr : Transport} (hc : ¬ Checks tr) (l : LoopReading) :
    ({ file := tr.sense.columns.file.sampled tr l.flp.toNat (l.fue, l.fle)
       machine := tr.sense.columns.machine.sampled tr l.mlp.toNat (l.mue, l.mle) } : PerReel Column) =
      uncheckedColumns tr :=
  congrArg₂ PerReel.mk (sampled_unchecked hc ..) (sampled_unchecked hc ..)

/-- The hand-offs of a sample at a transport that has no motion phase and is not to begin SEARCH change nothing. -/
theorem runTasks_bandTasks_idle {s : State} {t : TransportId} {y : Transport} {c : ServoRecord} (hp : y.hasPhase = false)
    (hs : ¬ (y.condition = .loading ∧ y.load.step = some .draw ∧ y.servo.band = .inRecovery)) (old : Band) (n : Nat) :
    runTasks (n + 1) (bandTasks t old y c) (s.setTr t y) = .next (s.setTr t y) := by
  have htasks : bandTasks t old y c =
      if old = .outsideGuard ∧ y.servo.band ≠ .outsideGuard then [.takeTest t] else [] := by
    have hs' : (y.condition == .loading && y.load.step == some .draw && y.servo.band == .inRecovery) = false := by
      simpa [and_assoc] using hs
    simp [bandTasks, hp, hs']
  have hidle : takeTest t (s.setTr t y) = Reaction.idle (s.setTr t y) := takeTest_of_not_canTake (by
    have hl : y.condition ≠ .loaded := fun k => by simp [Transport.hasPhase, k] at hp
    simp [Transport.canTake, hl])
  rw [htasks]
  split
  · rw [runTasks_succ, handle, hidle]
    exact runTasks_nil ..
  · exact runTasks_nil ..

section
variable {s : State} {t : TransportId} {l : LoopReading}

/-- A sample with the brakes engaged, at a transport whose columns are not checked (R71). -/
theorem exec_servoSample_braked (hc : (s.tr t).condition = .unloaded ∨ (s.tr t).condition = .faulted)
    (hb : (s.tr t).brakesEngaged = true) : exec (.servoSample t l) s = .next (s.setTr t
      (behindSample (s.tr t) (s.servoOf t) l (uncheckedColumns (s.tr t)) .zero
        { file := (s.tr t).servo.reels.file.zeroed, machine := (s.tr t).servo.reels.machine.zeroed })) := by
  have hmode : (s.tr t).servoMode = .zero := by simp [Transport.servoMode, hb]
  have hmode' : ((s.tr t).sampled l).servoMode = .zero := hmode
  have hphase : (s.tr t).hasPhase = false := by
    obtain hc | hc := hc <;> simp [Transport.hasPhase, Transport.searching, hc]
  have hloading : (s.tr t).condition ≠ .loading := by obtain hc | hc := hc <;> simp [hc]
  have hchecks : ¬ Checks (s.tr t) := by obtain hc | hc := hc <;> simp [Checks, Transport.drawBegun, hc]
  rw [exec_servoSample_behind (sampled_uncheckedColumns hchecks l)
    (columnCause_none ⟨by nofun, by nofun, by nofun⟩ ⟨by nofun, by nofun, by nofun⟩) hmode
    (by simp [Transport.servoSaturates, hmode', saturates_of_not_track]) rfl]
  refine runTasks_bandTasks_idle ?_ ?_ _ 4093
  · exact hphase
  · exact fun k => hloading k.1

/-- A sample that keeps DRAW going (R72). -/
theorem exec_servoSample_draw (hc : (s.tr t).condition = .loading) (hs : (s.tr t).load.step = some .draw)
    (hb : (s.tr t).brakesEngaged = false) (hl : Quiet l) (hd : (s.servoOf t).drawDemand ≤ 2047) :
    let y := behindSample (s.tr t) (s.servoOf t) l quietColumns .draw
      (reelsToward (s.tr t) (s.servoOf t).slew (s.servoOf t).drawDemand (-((s.servoOf t).drawDemand : Int)))
    exec (.servoSample t l) s = runTasks 4094 (bandTasks t (s.tr t).servo.band y (s.servoOf t)) (s.setTr t y) :=
  exec_servoSample_inRange (sampled_quietColumns (.inr (by simp [Transport.drawBegun, hc, hs])) hl) rfl
    (servoMode_draw hb hc hs) (by nofun) rfl rfl (by omega) (by omega)

/-- A sample in WIND (R73). -/
theorem exec_servoSample_wind (hc : (s.tr t).condition = .unloading) (hs : (s.tr t).load.step = some .wind)
    (hb : (s.tr t).brakesEngaged = false) (hd : (s.servoOf t).windDemand ≤ 2047) :
    exec (.servoSample t l) s = .next (s.setTr t
      (behindSample (s.tr t) (s.servoOf t) l (uncheckedColumns (s.tr t)) .wind
        (reelsToward (s.tr t) (s.servoOf t).slew (-((s.servoOf t).windDemand : Int)) 0))) := by
  have hphase : (s.tr t).hasPhase = false := by simp [Transport.hasPhase, Transport.searching, hc]
  have hchecks : ¬ Checks (s.tr t) := by simp [Checks, Transport.drawBegun, hc]
  have hrun := exec_servoSample_inRange (sampled_uncheckedColumns hchecks l)
    (columnCause_none ⟨by nofun, by nofun, by nofun⟩ ⟨by nofun, by nofun, by nofun⟩) (servoMode_wind hb hc hs) (by nofun)
    rfl rfl (show (-((s.servoOf t).windDemand : Int)).natAbs ≤ 2047 by omega) (show (0 : Int).natAbs ≤ 2047 by decide)
  refine hrun.trans (runTasks_bandTasks_idle ?_ ?_ _ 4093)
  · exact hphase
  · exact fun k => by cases hc.symm.trans k.1

end

/-! ### The sample that ends DRAW (R146, R147) -/

/-- The transport behind a DRAW sample with both loops in the recovery band. -/
def drawnSample (tr : Transport) (c : ServoRecord) (l : LoopReading) : Transport :=
  { tr with
    sense := { tr.sense with depths := depthsOf l, columns := quietColumns }
    servo := { reels := reelsToward tr c.slew c.drawDemand (-(c.drawDemand : Int)), mode := .draw, loopGuard := none
               band := .inRecovery } }

section
variable {s : State} {t : TransportId} {l : LoopReading} (hc : (s.tr t).condition = .loading)
  (hs : (s.tr t).load.step = some .draw)
include hc hs

/-- What stands behind SEARCH's beginning decides the event of the sample. -/
theorem exec_servoSample_searches (hb : (s.tr t).brakesEngaged = false) (hl : Quiet l)
    (hd : (s.servoOf t).drawDemand ≤ 2047) (hband : bandOf (s.servoOf t) (depthsOf l) = .inRecovery) {u : State}
    (h : runTasks 4093 [.searchStart t] (s.setTr t (drawnSample (s.tr t) (s.servoOf t) l)) = .next u) :
    exec (.servoSample t l) s = .next u := by
  have hphase : (s.tr t).hasPhase = false := by simp [Transport.hasPhase, Transport.searching, hc, hs]
  have hbehind : behindSample (s.tr t) (s.servoOf t) l quietColumns .draw
      (reelsToward (s.tr t) (s.servoOf t).slew (s.servoOf t).drawDemand (-((s.servoOf t).drawDemand : Int))) =
      drawnSample (s.tr t) (s.servoOf t) l := by
    have hguard : nextLoopGuard (s.tr t) .inRecovery (s.servoOf t).recoveryLimit = none := by simp [nextLoopGuard]
    have hband' : bandOf (s.servoOf t) { file := l.flp.toNat, machine := l.mlp.toNat } = .inRecovery := hband
    simp only [behindSample, hphase, hband', hguard]
    rfl
  have htasks : bandTasks t (s.tr t).servo.band (drawnSample (s.tr t) (s.servoOf t) l) (s.servoOf t) =
      (if (s.tr t).servo.band = .outsideGuard then [.takeTest t] else []) ++ [.searchStart t] := by
    simp [bandTasks, drawnSample, Transport.hasPhase, Transport.searching, hc, hs]
  rw [exec_servoSample_draw hc hs hb hl hd, hbehind, htasks]
  split
  · have hidle : takeTest t (s.setTr t (drawnSample (s.tr t) (s.servoOf t) l)) = Reaction.idle _ :=
      takeTest_of_not_canTake (by simp [Transport.canTake, drawnSample, hc])
    rw [List.singleton_append, runTasks_succ, handle, hidle]
    exact h
  · exact runTasks_succ_of_next h

end

section
variable {s : State} {t : TransportId} {z : Transport} (hc : z.condition = .loading)
include hc

/-- With profile 0 loaded SEARCH begins, and its motion waits for vacuum, with READY false (R43, R147). -/
theorem runTasks_searchStart_waits {p : Profile} {g : LoadRecord} (hp : s.tables.profiles.get 0 = some p)
    (hg : z.load.record = some g) (hr : s.vacuum.ready = false) (n : Nat) :
    runTasks (n + 2) [.searchStart t] (s.setTr t z) = .next (s.setTr t { z with
      phase := .waitVacuum
      motion := some (searchMotion g p (s.servoOf t).searchSpeed)
      engine := { z.engine with workTop := some (s.servoOf t).searchSpeed }
      load := { z.load with step := some .search, timer := none, searchCount := 0, outcome := .none }
      servo := { z.servo with mode := .track } }) := by
  have hstart : searchStart t (s.setTr t z) = { state := s.setTr t { z with
      motion := some (searchMotion g p (s.servoOf t).searchSpeed), servo := { z.servo with mode := .track }
      load := { z.load with step := some .search, timer := none, searchCount := 0, outcome := .none } }
                                                now := [.startFromRest t] } := by
    simp only [searchStart, State.tr_setTr_self, State.setTr_tables, State.servoOf_setTr, State.setTr_setTr, hc, hp, hg,
      beq_self_eq_true]
  rw [runTasks_succ, handle, hstart]
  simp only [List.append_nil]
  rw [runTasks_succ, handle, startFromRest_waits (by rw [State.tr_setTr_self]) (by exact hr), State.tr_setTr_self,
    State.setTr_setTr]
  exact runTasks_nil ..

/-- With profile 0 EMPTY the LOAD ends BAD PROFILE (R147). -/
theorem searchStart_badProfile (hp : s.tables.profiles.get 0 = none) :
    searchStart t (s.setTr t z) = endLoadLoaded t .badProfile (s.setTr t z) := by
  simp only [searchStart, State.tr_setTr_self, State.setTr_tables, hp, hc, beq_self_eq_true]

/-- The LOAD that ends BAD PROFILE, with an empty queue: its response, the transport LOADED with its position
unreferenced, and a pending release that takes effect (R40, R147, R149). -/
theorem runTasks_searchStart_ends (hp : s.tables.profiles.get 0 = none) (hs : z.hold.slot1 = .free) (hq : z.queue = [])
    (hpos : z.sense.position = (s.tr t).sense.position) (hl : z.load.record = (s.tr t).load.record) (n : Nat) : ∃ w : State,
    runTasks (n + 4) [.searchStart t] (s.setTr t z) = .next (reviewVacuum (w.relieved t)) ∧ w.tables = s.tables ∧
      w.owners = s.owners ∧ w.tr t = { marked z 0x25 with
        condition := .loaded, phase := .stopped, motion := none, load := idleLoad
        engine := { (marked z 0x25).engine with workTop := none } } ∧
      ∀ q, w.port q = (s.port q).sent ((s.loadMarked t 0x25).loadEnding t q 0x25 none) := by
  have hend := (searchStart_badProfile (t := t) hc hp).trans (endLoadLoaded_eq (by rw [State.tr_setTr_self]; exact hs))
  simp only [loadMarked_loadEnding (s := s) (x := z) (t := t) _ hpos hl] at hend
  let v : State := sending (fun q => (s.loadMarked t 0x25).loadEnding t q 0x25 none) ((s.setTr t z).loadEnded t 0x25)
  have hv : v.tr t = { marked z 0x25 with
      condition := .loaded, phase := .stopped, motion := none, load := idleLoad
      engine := { (marked z 0x25).engine with workTop := none } } := by
    simp only [v, tr_sending, State.loadEnded, State.tr_setTr_self, loadMarked_eq]
  have hports : ((s.setTr t z).loadEnded t 0x25).ports = s.ports := by
    simp only [State.loadEnded, loadMarked_eq, State.setTr_ports]
  refine ⟨v, runTasks_ends (k := .searchStart t) (s := v) hend (by rw [hv]) (by rw [hv]) (by rw [hv]; exact hq) n, ?_, ?_,
    hv, fun q => ?_⟩
  · simp only [v, sending_tables, State.loadEnded, loadMarked_eq, State.setTr_tables]
  · simp only [v, sending_owners, State.loadEnded, loadMarked_eq, State.setTr_owners]
  · rw [port_sending, State.port, hports]
    rfl

end

/-! ### A take test that takes nothing -/

/-- With an empty queue, or where nothing can be taken, a take test changes nothing (R25). -/
theorem runTasks_maybeTake {s : State} {t : TransportId} {p : Prop} [Decidable p]
    (h : (s.tr t).queue = [] ∨ (s.tr t).canTake = false) (n : Nat) :
    runTasks (n + 1) (if p then [.takeTest t] else []) s = .next s := by
  have hidle : takeTest t s = Reaction.idle s := by
    obtain h | h := h
    · simp [takeTest, h]
    · exact takeTest_of_not_canTake h
  split
  · rw [runTasks_succ, handle, hidle]
    exact runTasks_nil ..
  · exact runTasks_nil ..

/-! ### Run counts at STOPPED (R5, R6, R68) -/

/-- A reel after a sample in TRACK: its demand under the slew limit, its run by whether the target is clamped (R68, R70). -/
theorem driven_track_eq (x : ReelServo) (d : Int) (slew : Nat) : x.driven .track d slew = { x with
    demand := x.demand + max (-(slew : Int)) (min slew (max (-2047) (min 2047 d) - x.demand))
    satRun := if max (-2047) (min 2047 d) = d then 0 else min 255 (x.satRun + 1) } := by
  have hrun : nextSatRun .track d x.satRun = if max (-2047) (min 2047 d) = d then 0 else min 255 (x.satRun + 1) := by
    by_cases h : max (-2047) (min 2047 d) = d
    · rw [if_pos h]
      simp [nextSatRun, show clampDemand d = d from h]
    · rw [if_neg h]
      simp [nextSatRun, show clampDemand d ≠ d from h, satSucc, smallCountTop]
  rw [← hrun]
  rfl

theorem saturates_track_false {x : ReelServo} {d : Int} {limit : Nat}
    (h : max (-2047) (min 2047 d) ≠ d → (if max (-2047) (min 2047 d) = d then 0 else min 255 (x.satRun + 1)) < limit) :
    x.saturates .track d limit = false := by
  by_cases hd : max (-2047) (min 2047 d) = d
  · simp [ReelServo.saturates, show clampDemand d = d from hd]
  · have hlt := h hd
    rw [if_neg hd] at hlt
    rw [Bool.eq_false_iff, ne_eq, saturates_track_iff]
    exact fun k => k.2.not_gt hlt

/-- A checked column with no run full after the sample counts them all (R5, R6). -/
theorem sampled_counting {tr : Transport} (hc : Checks tr) {k : Column} (hs : k.tapeSeen = true) {depth : Byte}
    {ends : Bool × Bool} (hz : (if depth == 0 then k.zeroRun + 1 else 0) < 2)
    (hu : (if ends.1 then k.upperRun + 1 else 0) < 2) (hl : (if ends.2 then k.lowerRun + 1 else 0) < 2) :
    k.sampled tr depth.toNat ends = { k with
      zeroRun := if depth == 0 then k.zeroRun + 1 else 0
      upperRun := if ends.1 then k.upperRun + 1 else 0, lowerRun := if ends.2 then k.lowerRun + 1 else 0 } := by
  have hzero : (depth.toNat == 0) = (depth == 0) := by
    rw [Bool.eq_iff_iff, beq_iff_eq, beq_iff_eq]
    exact ⟨fun h => BitVec.eq_of_toNat_eq h, fun h => by rw [h]; rfl⟩
  rw [sampled_checked hc (.inl hs), hzero, nextRun_of_lt hz, nextRun_of_lt hu, nextRun_of_lt hl, ← hs]

/-! ### A sample during a LOOP GUARD recovery (R89, R98) -/

/-- The Hold Controller behind a sample during a LOOP GUARD recovery: a pending LOOP GUARD gone but OUTSIDE GUARD, and the
settle count (R86, R89). -/
def settling (h : Hold) (b : Band) : Hold :=
  { h with pending := { h.pending with loopGuard := if b = .outsideGuard then h.pending.loopGuard else false }
           settle := if b = .inRecovery then min 255 (h.settle + 1) else 0 }

theorem sampled_active {h : Hold} (ha : h.active = some .loopGuard) (b : Band) : h.sampled b = settling h b := by
  cases b <;> simp [Hold.sampled, ha, settling, Hold.dropPending, RankSet.put, satSucc, smallCountTop]

theorem settled_active {h : Hold} (ha : h.active = some .loopGuard) (b : Band) (goal : Nat) :
    (settling h b).settled b goal = true ↔ b = .inRecovery ∧ goal ≤ (settling h b).settle := by
  have ha' : (settling h b).active = some .loopGuard := ha
  simp [Hold.settled, ha']

/-- A HELD transport behind a sample during a LOOP GUARD recovery. -/
def heldSample (tr : Transport) (c : ServoRecord) (l : LoopReading) (f m : Int) : Transport :=
  { tr with
    sense := { tr.sense with depths := depthsOf l, columns := quietColumns }
    servo := { reels := reelsToward tr c.slew f m, mode := .track, band := bandOf c (depthsOf l), loopGuard := none }
    hold := settling tr.hold (bandOf c (depthsOf l)) }

section
variable {s : State} {t : TransportId} {l : LoopReading} {f m : Int} (hc : (s.tr t).condition = .loaded)
  (hp : (s.tr t).phase = .held) (ha : (s.tr t).hold.active = some .loopGuard)
include hc hp ha

theorem exec_servoSample_held (hb : (s.tr t).brakesEngaged = false)
    (htarget : TargetsAt (s.tr t) (s.servoOf t) l (s.servoOf t).kpRec f m) (hl : Quiet l) (hf : f.natAbs ≤ 2047)
    (hm : m.natAbs ≤ 2047) :
    let y := heldSample (s.tr t) (s.servoOf t) l f m
    exec (.servoSample t l) s = runTasks 4094
      ((if y.servo.band = .outsideGuard then [.arrive t .loopGuard] else []) ++
        (if y.servo.band = .inRecovery ∧ (s.servoOf t).recoverySettle ≤ y.hold.settle then [.recoveryEnd t] else []) ++
        if (s.tr t).servo.band = .outsideGuard ∧ y.servo.band ≠ .outsideGuard then [.takeTest t] else []) (s.setTr t y) := by
  intro y
  obtain ⟨htf, htm⟩ := reelTarget_at htarget (if_pos ha).symm
  have hphase : (s.tr t).hasPhase = true := by simp [Transport.hasPhase, hc]
  have hphase' : y.hasPhase = true := hphase
  have hguard : nextLoopGuard (s.tr t) (bandOf (s.servoOf t) (depthsOf l)) (s.servoOf t).recoveryLimit = none := by
    simp [nextLoopGuard, hp]
  have hbehind : behindSample (s.tr t) (s.servoOf t) l quietColumns .track (reelsToward (s.tr t) (s.servoOf t).slew f m) =
      y := by
    have hguard' : nextLoopGuard (s.tr t) (bandOf (s.servoOf t) { file := l.flp.toNat, machine := l.mlp.toNat })
      (s.servoOf t).recoveryLimit = none := hguard
    simp only [behindSample, hphase, if_true, sampled_active ha, hguard']
    rfl
  have htasks : bandTasks t (s.tr t).servo.band y (s.servoOf t) =
      (if y.servo.band = .outsideGuard then [.arrive t .loopGuard] else []) ++
        (if y.servo.band = .inRecovery ∧ (s.servoOf t).recoverySettle ≤ y.hold.settle then [.recoveryEnd t] else []) ++
        if (s.tr t).servo.band = .outsideGuard ∧ y.servo.band ≠ .outsideGuard then [.takeTest t] else [] := by
    have hsettled : y.hold.settled y.servo.band (s.servoOf t).recoverySettle = true ↔
        y.servo.band = .inRecovery ∧ (s.servoOf t).recoverySettle ≤ y.hold.settle := settled_active ha _ _
    have hloading : y.condition ≠ .loading := by rw [show y.condition = .loaded from hc]; nofun
    simp only [bandTasks, hphase', Bool.true_and, hsettled, beq_false_of_ne hloading]
    simp
  rw [← htasks, ← hbehind]
  exact exec_servoSample_inRange (sampled_quietColumns (.inl hc) hl) rfl (servoMode_track hb hc) (by nofun) htf htm hf hm

end

/-! ### The end of a LOOP GUARD recovery in a sample (R98, R99) -/

section
variable {s : State} {t : TransportId} {p : Prop} [Decidable p] (ha : (s.tr t).hold.active = some .loopGuard)
  (hpend : (s.tr t).hold.pending = noRanks)
include ha hpend

/-- A PAUSE in slot 2 is active again (R98). -/
theorem runTasks_recoveryEnd_pauses {k : Nat} (hp : (s.tr t).phase = .held)
    (h2 : (s.tr t).hold.slot2 = some { rank := .pause, settle := k }) (n : Nat) :
    runTasks (n + 3) (.recoveryEnd t :: if p then [.takeTest t] else []) s = .next (s.setTr t (holding (s.tr t)
      (s.serving t { recovered (s.tr t).hold .loopGuard with slot2 := none } .pause))) := by
  have hne : (s.tr t).phase ≠ .stopped := by rw [hp]; nofun
  rw [runTasks_recoveryEnd_slot2 ha (successor_of_none hpend) h2 (by nofun), runTasks_maybeTake]
  rw [State.tr_setTr_self]
  exact .inr (canTake_eq_false (.inl hne))

/-- A saved MOVE that has way to go and meets no ending waits for vacuum, with READY false (R43, R99). -/
theorem runTasks_recoveryEnd_waits {m : Motion} (h2 : (s.tr t).hold.slot2 = none) (h1 : (s.tr t).hold.slot1 = .saved m)
    (hr : s.vacuum.ready = false) (hk : m.kind = .move) (he : m.endReason ≠ some .bot) (hd : ∀ r, m.r = some r → 0 < r)
    (hl : ∀ code, ¬ s.LimitMet t m.direction code) (n : Nat) :
    runTasks (n + 5) (.recoveryEnd t :: if p then [.takeTest t] else []) s = .next (s.setTr t
      { resumed (s.tr t) m (recovered (s.tr t).hold .loopGuard) with phase := .waitVacuum }) := by
  let v := resumed (s.tr t) m (recovered (s.tr t).hold .loopGuard)
  have hv : (s.setTr t v).tr t = v := State.tr_setTr_self ..
  have hm : ((s.setTr t v).tr t).motion = some m := by rw [hv]; rfl
  have hresume : resume t (s.setTr t v) = { state := s.setTr t v, now := [.startFromRest t] } :=
    resume_move hm hk he (fun code => (limitMet_setTr (by rfl) _ code).not.mpr (hl code)) hd
  have htop : v.topAtStart m (s.servoOf t).approach = v.engine.workTop := by simp only [Transport.topAtStart, hk]
  rw [runTasks_recoveryEnd_saved ha (successor_of_none hpend) h2 h1, runTasks_succ, handle, hresume]
  simp only [List.append_nil, List.singleton_append]
  rw [runTasks_succ, handle, startFromRest_waits hm hr, hv, State.setTr_setTr, State.servoOf_setTr, htop]
  simp only [Reaction.idle, List.append_nil, List.nil_append]
  rw [runTasks_maybeTake]
  rw [State.tr_setTr_self]
  exact .inr (canTake_eq_false (.inl (by nofun)))

end

/-- Settles O44: a sample in TRACK by band and phase, the ZERO, DRAW and WIND modes, the sample that ends DRAW, and the
samples of a LOOP GUARD recovery. -/
theorem servoSampleDrivesTheReels : Obligations.ServoSampleDrivesTheReels := by
  intro t l s tr c slew depths file machine targetF targetM noEnd
  refine ⟨?quiet, ?takes, ?guard, ?still, ?draw, ?wind, ?search, ?badProfile, ?runs, ?recovery⟩
  case quiet =>
    intro hc hb ⟨h1, h2, h3, h4⟩ hband hf hm ha hold hrf hrm
    have hin : bandOf c (depthsOf l) ≠ .outsideGuard := fun k => by cases hband.symm.trans k
    refine (exec_servoSample_track hc hb ha ⟨rfl, rfl⟩ ⟨h1, h2, h3, h4, hf, hm⟩ hrf hrm).trans ?_
    rw [if_neg (by exact hin), if_neg (by exact fun k => hold k.1), List.nil_append, runTasks_nil,
      trackSample_inside _ _ _ hin, show bandOf c (depthsOf l) = .inRecovery from hband]
    rfl
  case takes =>
    intro x rest p hc hphase hmo hpa hq hb ⟨h1, h2, h3, h4⟩ hold hin hf hm ha hrf hrm hr n hp hcls hl hk m step
    have hexec := exec_servoSample_track hc hb ha ⟨rfl, rfl⟩ ⟨h1, h2, h3, h4, hf, hm⟩ hrf hrm
    have hn : x.resolve tr.selected = n := resolve_eq hk _
    have hm : x.motion (x.resolve tr.selected) p = m := by rw [hn]; exact motion_eq x n p
    have hstep : firstSubStep tr.position c.approach = step := firstSubStep_eq s t
    let z := trackSample tr c l quietColumns (reelsToward tr c.slew targetF targetM)
    have htake := runTasks_takeTest_waits (s := s.setTr t z) (t := t) (x := x) (rest := rest) (p := p)
      (by
        rw [State.tr_setTr_self]
        exact canTake_iff.mpr ⟨hc, hphase, hmo, hpa, hin⟩)
      (by rw [State.tr_setTr_self]; exact hq) (by rw [State.tr_setTr_self]; exact hn ▸ hp) hcls
      (fun hk code => (limitMet_setTr (by rfl) _ code).not.mpr (hl hk code)) hk hr 4091
    obtain ⟨u, hu, hports, howners, htables, harb, hready, htr⟩ := htake
    refine ⟨u, ?_, hports, howners, htables, harb, hready, ?_⟩
    · rw [hexec, if_neg (by exact hin), if_pos (by exact ⟨hold, hin⟩)]
      exact hu
    · have hmotion : x.motion (x.resolve z.selected) p = m := hm
      have hsub : firstSubStep z.position c.approach = step := hstep
      rw [htr, taking_setTr, State.tr_setTr_self, hmotion, State.servoOf_setTr, hsub, atTake_eq hk, hsub,
        topFor_setTr (by rfl)]
      simp only [z, trackSample_inside _ _ _ hin]
      rfl
  case guard =>
    intro hc hb ⟨h1, h2, h3, h4⟩ hband hf hm ha hrf hrm h y serves pends stands
    have hband' : bandOf c (depthsOf l) = .outsideGuard := hband
    have hexec : exec (.servoSample t l) s = runTasks 4094 [.arrive t .loopGuard] (s.setTr t y) := by
      refine (exec_servoSample_track hc hb ha ⟨rfl, rfl⟩ ⟨h1, h2, h3, h4, hf, hm⟩ hrf hrm).trans ?_
      rw [if_pos (by exact hband'), if_neg (by exact fun k => k.2 hband'), trackSample_outside _ _ _ hband']
      rfl
    have hyt : (s.setTr t y).tr t = y := State.tr_setTr_self ..
    have hnot : ¬ stands → ((s.setTr t y).tr t).hold.stands .loopGuard = false := fun k => by
      rw [hyt, Bool.eq_false_iff]
      exact fun hs => k ((stands_loopGuard h).mp hs)
    have hyc : ((s.setTr t y).tr t).condition = .loaded := by rw [hyt]; exact hc
    have hyp : ∀ {q}, tr.phase = q → ((s.setTr t y).tr t).phase = q := fun k => by rw [hyt]; exact k
    have hyh : ((s.setTr t y).tr t).hold = h := by rw [hyt]
    rw [hexec]
    refine ⟨fun hst => ?_, fun hp hs hfree => ?_, fun hp hs => ?_, fun m hp hs hmo hg => ?_, fun hp hs hact h2 => ?_,
      fun hp hs hact h2 hfree => ?_, fun hp hs hact => ?_⟩
    · exact runTasks_guard_idle (hst.imp hyp fun k => hyh.symm ▸ (stands_loopGuard h).mpr k) 4093
    · refine (runTasks_guard_moving hyc (hnot hs) (hp.imp hyp hyp) (freeToLetGo_setTr hfree rfl) 4092).trans ?_
      rw [hyt, State.setTr_setTr]
    · refine (runTasks_guard_pends hyc (hnot hs) (hp.imp hyp fun k => .inl (hyp k)) 4093).trans ?_
      rw [hyt, State.setTr_setTr]
    · refine (runTasks_guard_waiting hyc (hnot hs) (hp.imp hyp hyp) (by rw [hyt]; exact hmo) (by rw [hyt]; exact hg)
        4092).trans ?_
      rw [hyt, tr_withdrawn, tr_withdrawn, hyt, setTr_withdrawn, setTr_withdrawn, hyt, State.setTr_setTr]
      rfl
    · refine (runTasks_guard_pushes hyc (hnot hs) (hyp hp) (hyh.symm ▸ hact) (hyh.symm ▸ h2) 4092).trans ?_
      rw [hyt, State.setTr_setTr]
      rfl
    · rw [runTasks_guard_overflows hyc (hnot hs) (hyp hp) (hyh.symm ▸ hact) (hyh.symm ▸ h2) 4093]
      have hnf : ((s.setTr t y).tr t).condition ≠ .faulted := by rw [hyc]; nofun
      obtain ⟨u, hu, hstop, -⟩ := runTasks_faultStops hnf (freeToLetGo_setTr hfree rfl) .suspendOverflow 4090
      exact ⟨u, hu, hstop⟩
    · refine (runTasks_guard_pends hyc (hnot hs) (.inr (.inr ⟨hyp hp, hyh.symm ▸ hact⟩)) 4093).trans ?_
      rw [hyt, State.setTr_setTr]
  case still =>
    exact fun hc hb => ⟨_, exec_servoSample_braked hc hb, rfl, rfl, rfl, rfl⟩
  case draw =>
    intro hc hs hb ⟨h1, h2, h3, h4⟩ hf hm hband hd
    have hphase : tr.hasPhase = false := by simp [Transport.hasPhase, Transport.searching, hc, hs]
    refine ⟨_, (exec_servoSample_draw hc hs hb ⟨h1, h2, h3, h4, hf, hm⟩ hd).trans
      (runTasks_bandTasks_idle ?_ ?_ _ 4093), ?_, ?_, ?_⟩
    · exact hphase
    · exact fun k => hband k.2.2
    all_goals rfl
  case wind =>
    exact fun hc hs hb hd => ⟨_, exec_servoSample_wind hc hs hb hd, rfl, rfl, rfl⟩
  case search =>
    intro p g hc hs hb ⟨h1, h2, h3, h4⟩ hf hm hband hd hp hg hr
    exact exec_servoSample_searches hc hs hb ⟨h1, h2, h3, h4, hf, hm⟩ hd hband
      (runTasks_searchStart_waits (z := drawnSample tr c l) hc hp hg hr 4091)
  case badProfile =>
    intro hc hs hb ⟨h1, h2, h3, h4⟩ hf hm hband hd hp hslot hq
    obtain ⟨w, hrun, htables, howners, hw, hports⟩ :=
      runTasks_searchStart_ends (s := s) (t := t) (z := drawnSample tr c l) hc hp hslot hq rfl rfl 4089
    exact ⟨w, exec_servoSample_searches hc hs hb ⟨h1, h2, h3, h4, hf, hm⟩ hd hband hrun, htables, howners, by rw [hw],
      by rw [hw], by rw [hw], by rw [hw], by rw [hw]; rfl, by rw [hw]; rfl, hports⟩
  case runs =>
    intro hc hp hq hb ha hsf hsm count column f m held clamped hrf hrm hcf hcm
    have hcolumns := congrArg₂ PerReel.mk
      (sampled_counting (tr := tr) (ends := (l.fue, l.fle)) (.inl hc) hsf hrf.1 hrf.2.1 hrf.2.2)
      (sampled_counting (tr := tr) (ends := (l.mue, l.mle)) (.inl hc) hsm hrm.1 hrm.2.1 hrm.2.2)
    have hnone : columnCause f m = none :=
      columnCause_none ⟨hrf.1.ne, hrf.2.1.ne, hrf.2.2.ne⟩ ⟨hrm.1.ne, hrm.2.1.ne, hrm.2.2.ne⟩
    have hsat : (tr.sampled l).servoSaturates c = false := by
      obtain ⟨htf, htm⟩ := reelTarget_at (tr := tr) (c := c) (l := l) ⟨rfl, rfl⟩ (if_neg ha).symm
      have hmode : (tr.sampled l).servoMode = .track := servoMode_track hb hc
      rw [Transport.servoSaturates, hmode, htf, htm]
      exact Bool.or_eq_false_iff.mpr ⟨saturates_track_false hcf, saturates_track_false hcm⟩
    have hreels := congrArg₂ PerReel.mk (driven_track_eq file targetF c.slew) (driven_track_eq machine targetM c.slew)
    refine (exec_servoSample_tracked hc hb ha ⟨rfl, rfl⟩ hcolumns hnone hsat hreels).trans ?_
    by_cases hband : bandOf c (depthsOf l) = .outsideGuard
    · have hband' : bandOf c depths = .outsideGuard := hband
      rw [if_pos (by exact hband), if_neg (by exact fun k => k.2 hband), List.append_nil,
        runTasks_guard_idle (.inl (by rw [State.tr_setTr_self]; exact hp)), trackSample_outside _ _ _ hband, if_pos hp]
      simp only [hband', if_true]
      rfl
    · have hband' : bandOf c depths ≠ .outsideGuard := hband
      rw [if_neg (by exact hband), List.nil_append, runTasks_maybeTake (.inl (by rw [State.tr_setTr_self]; exact hq)),
        trackSample_inside _ _ _ hband]
      simp only [hband', if_false]
      rfl
  case recovery =>
    intro hc hp hb ⟨h1, h2, h3, h4⟩ hf hm ha hin recF recM hrf hrm band h y out
    have hexec := exec_servoSample_held hc hp ha hb ⟨rfl, rfl⟩ ⟨h1, h2, h3, h4, hf, hm⟩ hrf hrm
    let z := heldSample tr c l recF recM
    have hz : (s.setTr t z).tr t = z := State.tr_setTr_self ..
    have hstands : ((s.setTr t z).tr t).hold.stands .loopGuard = true := by
      rw [hz]; exact (stands_loopGuard _).mpr (.inr (.inl hin))
    have hidle : ((s.setTr t z).tr t).canTake = false := by
      rw [hz]
      exact canTake_eq_false (.inl (by rw [show z.phase = .held from hp]; nofun))
    refine ⟨fun hgo => ?_, fun n hband hgoal hpend hslot => ?_,
      fun mo hband hgoal hpend hslot hsaved hr hk he hd hlim => ?_⟩
    · have hnot : ¬ (z.servo.band = .inRecovery ∧ c.recoverySettle ≤ z.hold.settle) := fun k =>
        hgo.elim (fun g => g k.1) (fun g => g.not_ge k.2)
      refine hexec.trans ?_
      rw [if_neg hnot, List.append_nil]
      by_cases hout : z.servo.band = .outsideGuard
      · rw [if_pos hout, if_neg (by exact fun k => k.2 hout), List.append_nil, runTasks_guard_idle (.inr hstands)]
        rfl
      · rw [if_neg hout, List.nil_append, runTasks_maybeTake (.inr hidle)]
        rfl
    · have hout : ¬ z.servo.band = .outsideGuard := fun k => by cases (show z.servo.band = .inRecovery from hband).symm.trans k
      refine hexec.trans ?_
      rw [if_neg hout, if_pos (by exact ⟨hband, hgoal⟩), List.nil_append, List.singleton_append,
        runTasks_recoveryEnd_pauses (by rw [hz]; exact ha) (by rw [hz]; exact hpend) (by rw [hz]; exact hp)
          (by rw [hz]; exact hslot), hz, State.setTr_setTr]
      rfl
    · have hout : ¬ z.servo.band = .outsideGuard := fun k => by cases (show z.servo.band = .inRecovery from hband).symm.trans k
      refine hexec.trans ?_
      rw [if_neg hout, if_pos (by exact ⟨hband, hgoal⟩), List.nil_append, List.singleton_append,
        runTasks_recoveryEnd_waits (s := s.setTr t z) (by rw [hz]; exact ha) (by rw [hz]; exact hpend) (by rw [hz]; exact hslot)
          (by rw [hz]; exact hsaved) hr hk he hd
          (fun code => (limitMet_setTr (by rfl) _ code).not.mpr (hlim code)), hz, State.setTr_setTr]
      rfl

end Sys2Proof.ServoDrives
end

section
/-! SUPPORT. An applied capstan count (R1, R2, R7, R10, R24, R57, R59, R78 to R80, R143, R151): what each part of the transport becomes, the crossing of a count that qualifies BOT, and the statement about it. -/

namespace Sys2Proof.CapstanCounts

open Sys2Proof Sys2Proof.Machine Sys2Proof.OrderQueue Sys2Proof.RadiusWindows Sys2Proof.MarkerCrossings
open Sys2Proof.LoadSequence

/-! ### The direction of a count (R1) -/

theorem countDirection_eq (l : Lines) (a b : Bool) : countDirection l a b =
    if (a = l.cta ↔ b = l.ctb) then none
    else some (if a = l.cta then (if a = b then .forward else .reverse) else if a = b then .reverse else .forward) := by
  have table : ∀ p q a b : Bool, (match p != a, q != b with
      | true, false => some (if a != b then Direction.forward else .reverse)
      | false, true => some (if a == b then .forward else .reverse)
      | true, true | false, false => none) =
      if (a = p ↔ b = q) then none
      else some (if a = p then (if a = b then .forward else .reverse) else if a = b then .reverse else .forward) := by
    decide
  exact table ..

/-- A change of both phases, or of none, and any change in UNLOADED, only changes the levels (R1). -/
theorem exec_capstanCount_levels {s : State} {t : TransportId} {a b : Bool}
    (h : (a = (s.tr t).lines.cta ↔ b = (s.tr t).lines.ctb) ∨ (s.tr t).condition = .unloaded) :
    exec (.capstanCount t a b) s = .next (s.setTr t { s.tr t with lines := { (s.tr t).lines with cta := a, ctb := b } }) := by
  obtain h | h := h
  · simp only [exec, execCapstanCount, countDirection_eq, if_pos h]
    rfl
  · simp only [exec, execCapstanCount]
    split
    · rfl
    · simp [setPhases, h]

/-! ### Marker runs (R7) -/

theorem advance_eq (x : MarkerRun) (active : Bool) (d : Direction) (before : Int) : x.advance active d before =
    if active = false then { x with count := 0 }
    else if x.count = 0 ∨ x.direction ≠ d then { count := 1, direction := d, edge := before, qualified := false }
    else { x with count := x.count + 1 } := by
  cases active <;> simp [MarkerRun.advance, MarkerRun.start]

/-- The run of an active marker has the direction of the count (R7). -/
theorem advance_direction (x : MarkerRun) (d : Direction) (before : Int) : (x.advance true d before).direction = d := by
  simp only [advance_eq, Bool.true_eq_false, if_false]
  split_ifs with h
  · rfl
  · exact Decidable.byContradiction fun k => h (.inr k)

theorem qualifies_iff (x : MarkerRun) (active : Bool) (q : Nat) :
    x.qualifies active q = true ↔ active = true ∧ q ≤ x.count ∧ x.qualified = false := by
  simp [MarkerRun.qualifies, and_assoc]

theorem judged_of_reaches {x : MarkerRun} {active : Bool} {q : Nat} (h : active = true ∧ q ≤ x.count ∧ x.qualified = false) :
    x.judged active q = { x with qualified := true } := if_pos ((qualifies_iff ..).mpr h)

theorem judged_of_not_reaches {x : MarkerRun} {active : Bool} {q : Nat}
    (h : ¬ (active = true ∧ q ≤ x.count ∧ x.qualified = false)) : x.judged active q = x :=
  if_neg fun k => h ((qualifies_iff ..).mp k)

/-- The sense state after a count, by what its runs come to (R2, R7). -/
theorem sense_counted_eq {x : Sense} {l : Lines} {d : Direction} {q : Nat} {p : Position} {bot eot : MarkerRun}
    (hp : x.position.moved d = p) (hb : (x.botRun.advance l.bots d x.position.count).judged l.bots q = bot)
    (he : (x.eotRun.advance l.eots d x.position.count).judged l.eots q = eot) : x.counted l d q =
      { x with lastDirection := some d, position := p, botRun := bot, eotRun := eot } := by
  subst hp hb he
  rfl

/-! ### The current order (R24) -/

/-- The Hold Controller with a saved order counted. -/
def slotCounted (h : Hold) (d : Direction) : Hold :=
  match h.slot1 with
  | .saved m => { h with slot1 := .saved (m.counted d) }
  | .free | .emptyContext => h

theorem slotCounted_of_not_saved {h : Hold} (hn : ∀ m, h.slot1 ≠ .saved m) (d : Direction) : slotCounted h d = h := by
  cases h1 : h.slot1 with
  | saved m => exact absurd h1 (hn m)
  | free | emptyContext => simp [slotCounted, h1]

theorem slotCounted_of_saved {h : Hold} {m : Motion} (h1 : h.slot1 = .saved m) (d : Direction) :
    slotCounted h d = { h with slot1 := .saved (m.counted d) } := by
  simp [slotCounted, h1]

theorem countR_eq (tr : Transport) (d : Direction) : tr.countR d = { tr with
    motion := tr.motion.map fun m => m.counted d
    hold := if tr.motion = none then slotCounted tr.hold d else tr.hold } := by
  cases hm : tr.motion with
  | some m => simp [Transport.countR, Transport.current, hm, Transport.setCurrent]
  | none =>
    have hslot : tr.countR d = { tr with hold := slotCounted tr.hold d } := by
      cases h1 : tr.hold.slot1 with
      | saved m => simp [Transport.countR, Transport.current, hm, h1, Transport.setCurrent, slotCounted]
      | free | emptyContext =>
        have hcurrent : tr.current = none := by simp [Transport.current, hm, h1]
        have hsame : slotCounted tr.hold d = tr.hold := by simp [slotCounted, h1]
        rw [hsame, Transport.countR, hcurrent]
    rw [if_pos rfl, hslot, Option.map_none, ← hm]

theorem current_countR (tr : Transport) (d : Direction) :
    (tr.countR d).current = tr.current.map fun m => m.counted d := by
  rw [countR_eq]
  cases hm : tr.motion with
  | some m => simp [Transport.current, hm]
  | none => cases h1 : tr.hold.slot1 <;> simp [Transport.current, hm, h1, slotCounted]

/-! ### The rewind approach (R151) -/

/-- A reverse count in REVERSE has left a referenced position at the approach distance or below. -/
def Near (tr : Transport) (d : Direction) (approach : Nat) : Prop :=
  d = .reverse ∧ tr.load.step = some .reverse ∧ tr.sense.position.referenced = true ∧
    tr.sense.position.count ≤ (approach : Int) ∧ tr.current ≠ none

theorem approachTest_of_near {tr : Transport} {d : Direction} {approach : Nat} (h : Near tr d approach) {m : Motion}
    (hm : tr.current = some m) : tr.approachTest d approach = { tr with
      load := { tr.load with step := some .reverseCreep }
      engine := { tr.engine with workTop := some (m.copy.creep.getD m.copy.vTop) } } := by
  obtain ⟨hd, hs, hr, hc, -⟩ := h
  simp [Transport.approachTest, hm, hd, hs, Transport.position, hr, hc, Profile.creepSpeed]

theorem approachTest_of_not_near {tr : Transport} {d : Direction} {approach : Nat} (h : ¬ Near tr d approach) :
    tr.approachTest d approach = tr := by
  cases hm : tr.current with
  | none => simp [Transport.approachTest, hm]
  | some m =>
    have hn : ¬ (d = .reverse ∧ tr.load.step = some .reverse ∧ tr.sense.position.referenced = true ∧
      tr.sense.position.count ≤ (approach : Int)) := fun ⟨hd, hs, hr, hc⟩ => h ⟨hd, hs, hr, hc, by rw [hm]; nofun⟩
    simp only [Transport.approachTest, hm]
    refine if_neg fun k => hn ?_
    simp only [Bool.and_eq_true, beq_iff_eq, decide_eq_true_eq, and_assoc] at k
    exact k

/-! ### The other parts of the transport -/

/-- What a count adds to the search counter (R143). -/
theorem load_counted_eq (l : LoadControl) (d : Direction) : l.counted d = { l with
    searchCount := if l.step = some .search ∨ l.step = some .reverseCreep ∨ l.step = some .forwardCreep then
      max (-16777215) (min 16777215 (l.searchCount + if d = .forward then 1 else -1)) else l.searchCount } := by
  have hunit : unitStep d = if d = .forward then 1 else -1 := by cases d <;> rfl
  have hsearches : (l.step.map SeqStep.searches).getD false = true ↔
      l.step = some .search ∨ l.step = some .reverseCreep ∨ l.step = some .forwardCreep := by
    cases l.step with
    | none => simp
    | some x => cases x <;> simp [SeqStep.searches]
  by_cases h : l.step = some .search ∨ l.step = some .reverseCreep ∨ l.step = some .forwardCreep
  · rw [LoadControl.counted, if_pos (hsearches.mpr h), if_pos h, ← hunit]
    rfl
  · rw [LoadControl.counted, if_neg fun k => h (hsearches.mp k), if_neg h]

theorem moved_eq (x : Position) (d : Direction) : x.moved d = { x with
    count := max (-131072) (min 16777215 (x.count + if d = .forward then 1 else -1)) } := by
  cases d <;> rfl

theorem engine_counted_eq (e : Engine) (c : ServoRecord) : e.counted c.tachTime = { e with
    tachTimer := e.tachTimer.map fun _ => 1000 * c.tachTimeout
    tach := if e.tach = .detected then .countSeen else e.tach } := by
  simp [Engine.counted, ServoRecord.tachTime, ms, Nat.mul_comm]

theorem motion_counted_eq (m : Motion) (d : Direction) : m.counted d = { m with
    r := m.r.map fun r => max (-33554432) (min 33554431 (if d = m.direction then r - 1 else r + 1)) } := by
  simp only [Motion.counted, clampR, clamp, beq_iff_eq]
  rfl

theorem changes_iff (x : Sense) (d : Direction) :
    x.changes d = true ↔ x.lastDirection ≠ none ∧ x.lastDirection ≠ some d := by
  cases h : x.lastDirection <;> simp [Sense.changes, h]

theorem rejected_rejected_eq (c : TransportCounters) (a b : Bool) : (c.rejected a).rejected b =
    { c with radiusRejections := ((c.rejected a).rejected b).radiusRejections } := by
  cases a <;> cases b <;> rfl

/-! ### The radius windows (R78 to R80) -/

section
variable (w : ReelServo) {kept change : Bool} (c : ServoRecord) {turned before : Prop} [Decidable turned]
  (ht : change = true ↔ turned)
include ht

/-- The window count and the reel count that an applied count leaves before the window is closed (R78). -/
theorem reel_counted_eq : w.counted change = { w with
    windowCount := if turned then 1 else min 16384 (w.windowCount + 1)
    reelCount := if turned then 0 else w.reelCount } := by
  by_cases h : turned
  · rw [ReelServo.counted, if_pos (ht.mpr h), if_pos h, if_pos h]
  · rw [ReelServo.counted, if_neg fun k => h (ht.mp k), if_neg h, if_neg h]
    rfl

theorem windowFull_iff : (w.counted change).windowFull c.window = true ↔
    c.window ≤ if turned then 1 else min 16384 (w.windowCount + 1) := by
  rw [reel_counted_eq w ht]
  exact decide_eq_true_iff

/-- A window below W goes on counting (R78). -/
theorem afterCount_counting (h : (if turned then 1 else min 16384 (w.windowCount + 1)) < c.window) :
    w.afterCount kept change c = { w with
      windowCount := if turned then 1 else min 16384 (w.windowCount + 1), reelCount := if turned then 0 else w.reelCount } := by
  rw [← reel_counted_eq w ht]
  exact if_neg fun k => ((windowFull_iff w c ht).mp k).not_gt h

variable [Decidable before] (hb : kept = true ↔ before)
include hb

/-- A window at W closes and restarts; a rejected one, and one before DRAW start, leaves the estimate (R79, R80, log 43). -/
theorem afterCount_closing (h : c.window ≤ if turned then 1 else min 16384 (w.windowCount + 1)) :
    let n := if turned then 0 else w.reelCount
    let measured := (2 * c.kRad + n) / (2 * n)
    w.afterCount kept change c = { w with
      windowCount := 0, reelCount := 0
      radius := if before ∨ n = 0 ∨ measured < 160 ∨ 560 < measured then w.radius
        else max 175 (min 525 (w.radius + ((measured : Int) - w.radius).tdiv 4)) } := by
  intro n measured
  have hclose : w.afterCount kept change c = (w.counted change).closeWindow kept c.kRad :=
    if_pos ((windowFull_iff w c ht).mpr h)
  have hstands : (!kept && windowAccepted c.kRad n) = false ↔ before ∨ n = 0 ∨ measured < 160 ∨ 560 < measured := by
    rw [Bool.and_eq_false_iff, Bool.not_eq_false', hb, windowAccepted_eq_false_iff]
  rw [hclose, reel_counted_eq w ht]
  simp only [ReelServo.closeWindow]
  by_cases hk : before ∨ n = 0 ∨ measured < 160 ∨ 560 < measured
  · rw [if_pos hk, if_neg (by exact Bool.eq_false_iff.mp (hstands.mpr hk))]
  · rw [if_neg hk, if_pos (by exact (Bool.not_eq_false _).mp fun k => hk (hstands.mp k))]
    rfl

end

/-! ### The transport after a count -/

/-- The transport after a count, with this sub-step and this working top speed. -/
def countedAs (tr : Transport) (d : Direction) (c : ServoRecord) (step : Option SeqStep) (top : Option Nat) : Transport :=
  { tr with
    sense := tr.sense.counted tr.lines d c.q
    motion := tr.motion.map fun m => m.counted d
    hold := if tr.motion = none then slotCounted tr.hold d else tr.hold
    load := { tr.load.counted d with step := step }
    engine := { tr.engine.counted c.tachTime with workTop := top }
    servo := tr.servo.counted tr.beforeDraw (tr.sense.changes d) c
    counters := (tr.countedFirst d c).counters }

/-- The count leaves a referenced position at the approach distance or below, in REVERSE (R151, log 26). -/
def Approaches (tr : Transport) (d : Direction) (approach : Nat) : Prop :=
  d = .reverse ∧ tr.load.step = some .reverse ∧ tr.sense.position.referenced = true ∧
    (tr.sense.position.moved d).count ≤ (approach : Int) ∧ tr.current ≠ none

section
variable (tr : Transport) (d : Direction) (c : ServoRecord)

theorem load_counted_step (l : LoadControl) : (l.counted d).step = l.step := by rw [load_counted_eq]

theorem countedFirst_countR : (tr.countedFirst d c).countR d = countedAs tr d c tr.load.step tr.engine.workTop := by
  rw [countR_eq]
  simp only [countedAs, Transport.countedFirst, ← load_counted_step d tr.load]
  rfl

theorem current_countedAs (step : Option SeqStep) (top : Option Nat) :
    (countedAs tr d c step top).current = tr.current.map fun m => m.counted d := by
  rw [← current_countR, countR_eq]
  rfl

theorem near_countedAs (approach : Nat) :
    Near (countedAs tr d c tr.load.step tr.engine.workTop) d approach ↔ Approaches tr d approach := by
  rw [Near, Approaches, current_countedAs, ne_eq, Option.map_eq_none_iff]
  rfl

variable {tr d c}

theorem counted_of_not_approaches (h : ¬ Approaches tr d c.approach) :
    tr.counted d c = countedAs tr d c tr.load.step tr.engine.workTop := by
  rw [Transport.counted_eq, countedFirst_countR]
  exact approachTest_of_not_near fun k => h ((near_countedAs ..).mp k)

theorem counted_of_approaches (h : Approaches tr d c.approach) {m : Motion} (hm : tr.current = some m) :
    tr.counted d c = countedAs tr d c (some .reverseCreep) (some (m.copy.creep.getD m.copy.vTop)) := by
  rw [Transport.counted_eq, countedFirst_countR,
    approachTest_of_near ((near_countedAs ..).mpr h) (m := m.counted d) (by rw [current_countedAs, hm]; rfl)]
  rfl

/-- The transport after a count that qualifies no crossing, by whether it comes near BOT (R151). -/
theorem counted_eq_countedAs {near : Prop} [Decidable near] (hn : Approaches tr d c.approach ↔ near) : ∃ top,
    tr.counted d c = countedAs tr d c (if near then some .reverseCreep else tr.load.step) top ∧
      (¬ near → top = tr.engine.workTop) ∧
      ∀ m, near → tr.current = some m → top = some (m.copy.creep.getD m.copy.vTop) := by
  by_cases h : near
  · obtain ⟨m, hm⟩ := Option.ne_none_iff_exists'.mp (hn.mpr h).2.2.2.2
    refine ⟨_, (counted_of_approaches (hn.mpr h) hm).trans (by rw [if_pos h]), fun k => absurd h k, fun k _ hk => ?_⟩
    rw [Option.some.inj (hm.symm.trans hk)]
  · exact ⟨_, (counted_of_not_approaches fun k => h (hn.mp k)).trans (by rw [if_neg h]), fun _ => rfl, fun _ k => absurd k h⟩

end

/-! ### A count that qualifies BOT (R8, R148) -/

/-- With no current order, or with the search decided, the search limit changes nothing (R148, R153). -/
theorem searchLimitTest_stands {s : State} {t : TransportId}
    (h : (s.tr t).current = none ∨ (s.tr t).load.outcome ≠ .none) : searchLimitTest t s = Reaction.idle s := by
  have hreached : searchLimitReached t s = Reaction.idle s := by
    cases hm : (s.tr t).current with
    | none => simp [searchLimitReached, hm]
    | some m => simp [searchLimitReached, hm, h.resolve_left (by rw [hm]; nofun)]
  rw [searchLimitTest, hreached, ite_self]

theorem botForward_none {u : State} {t : TransportId} (hm : (u.tr t).current = none) :
    botForwardToLoad t u = Reaction.idle u := by
  simp [botForwardToLoad, hm]

section
variable {s : State} {t : TransportId} {a b : Bool} {d : Direction}
  (hd : countDirection (s.tr t).lines a b = some d) (hc : (s.tr t).condition ≠ .unloaded)
  (hbot : (s.tr t).sense.qualifiesAt { (s.tr t).lines with cta := a, ctb := b } d (s.servoOf t).q .bot = true)
  (heot : (s.tr t).sense.qualifiesAt { (s.tr t).lines with cta := a, ctb := b } d (s.servoOf t).q .eot = false)
include hd hc hbot heot

/-- A count that qualifies BOT alone: the crossing is acted on, and then the search limit is tested (R2). -/
theorem exec_capstanCount_bot : exec (.capstanCount t a b) s =
    runTasks 4096 [.crossing t .bot, .searchLimitTest t] (s.setTr t
      (({ s.tr t with lines := { (s.tr t).lines with cta := a, ctb := b } } : Transport).counted d (s.servoOf t))) := by
  simp only [exec, execCapstanCount, hd, setPhases, State.tr_setTr_self, beq_iff_eq, hc, if_false, applyCount,
    State.servoOf_setTr, State.setTr_setTr, hbot, heot, crossingOrder, finish, agendaBound, List.map_cons, List.map_nil,
    List.cons_append, List.nil_append, Bool.and_false, Bool.false_eq_true, if_false, List.append_nil]

end

/-- The transport behind the BOT crossing of a count in direction `d`, with this edge stamp (R8). -/
def botCrossed (z : Transport) (d : Direction) (edge : Int) : Transport :=
  z.setPosition (if d = .forward then z.position.referencedAt edge else z.position.botReversed edge)

section
variable {s : State} {t : TransportId} {z : Transport} {d : Direction} (hd : z.sense.botRun.direction = d)
include hd

/-- With no current order the crossing is all (R8). -/
theorem runTasks_botCrossed (hm : z.current = none) (n : Nat) :
    runTasks (n + 2) [.crossing t .bot, .searchLimitTest t] (s.setTr t z) =
      .next (s.setTr t (botCrossed z d z.sense.botRun.edge)) := by
  have hz : ((s.setTr t (botCrossed z d z.sense.botRun.edge)).tr t).current = none := by
    rw [State.tr_setTr_self]; exact hm
  have hcross : crossing t .bot (s.setTr t z) = Reaction.idle (s.setTr t (botCrossed z d z.sense.botRun.edge)) := by
    have hd' : (z.sense.run .bot).direction = d := hd
    cases d with
    | forward =>
      simp only [crossing, State.tr_setTr_self, State.setTr_setTr, hd']
      exact botForward_none hz
    | reverse =>
      simp only [crossing, State.tr_setTr_self, State.setTr_setTr, hd']
      exact botReverse_none hz
  rw [runTasks_succ, handle, hcross]
  simp only [Reaction.idle, List.nil_append, List.append_nil]
  rw [runTasks_succ, handle, searchLimitTest_stands (.inl hz)]
  exact runTasks_nil ..

/-- A forward one decides the search of a LOAD in ACCEL and CRUISE, at the search limit too: BOT FOUND, and a deceleration
without an end reason (R148). -/
theorem runTasks_botFound (hf : d = .forward) (hm : z.current ≠ none) (hc : z.condition = .loading)
    (hs : z.load.step = some .search) (hp : z.phase = .accel ∨ z.phase = .cruise) (hfree : s.FreeToLetGo t)
    (hg : z.engine.grant = (s.tr t).engine.grant) (n : Nat) :
    runTasks (n + 3) [.crossing t .bot, .searchLimitTest t] (s.setTr t z) =
      .next ((s.setTr t { botCrossed z d z.sense.botRun.edge with
        phase := .decel, load := { z.load with outcome := .botFound } }).letGo t) := by
  subst hf
  have hd' : (z.sense.run .bot).direction = .forward := hd
  let found := botCrossed z .forward z.sense.botRun.edge
  let decided : Transport := { found with load := { z.load with outcome := .botFound } }
  have hfound : (s.setTr t found).tr t = found := State.tr_setTr_self ..
  have hdecided : (s.setTr t decided).tr t = decided := State.tr_setTr_self ..
  have hcross : crossing t .bot (s.setTr t z) = beginDecel t .decel (s.setTr t decided) := by
    have hload := botForward_finds (u := s.setTr t found) (t := t) (by rw [hfound]; exact hm) (by rw [hfound]; exact hc)
      (by rw [hfound]; exact hs)
    rw [hfound, State.setTr_setTr] at hload
    obtain ⟨hdecel, -⟩ := decided_decelerates (z.current.get (Option.isSome_iff_ne_none.mpr hm)) (w := s.setTr t decided)
      (t := t) (by rw [hdecided]; exact hp)
    simp only [crossing, State.tr_setTr_self, State.setTr_setTr, hd']
    exact hload.trans hdecel
  have hfree' : (s.setTr t decided).FreeToLetGo t := freeToLetGo_setTr hfree hg
  have hout : (((s.setTr t { decided with phase := .decel }).letGo t).tr t).load.outcome = .botFound := by
    rw [tr_letGo, State.tr_setTr_self]
  rw [runTasks_succ, handle, hcross]
  refine runTasks_beginDecel hfree' ?_
  rw [setPhase_setTr, runTasks_succ, handle, searchLimitTest_stands (.inr (by rw [hout]; nofun))]
  exact runTasks_nil ..

end

/-! ### The statement -/

theorem reels_counted_get (x : Servo) (kept change : Bool) (c : ServoRecord) (r : Reel) :
    (x.counted kept change c).reels.get r = (x.reels.get r).afterCount kept change c := by cases r <;> rfl

/-- Settles O42: the levels alone, a count that qualifies no crossing, and one that qualifies BOT, with no order and in the
search of a LOAD. -/
theorem capstanCountIsApplied : Obligations.CapstanCountIsApplied := by
  intro t a b s tr c lines pos before
  refine ⟨exec_capstanCount_levels, ?_⟩
  intro hab hc d one moved run bot eot reaches sense found near turned left
  let tr0 : Transport := { tr with lines := lines }
  have hd : countDirection tr.lines a b = some d := (countDirection_eq ..).trans (if_neg hab)
  have hbot : tr.sense.botRun.advance tr.lines.bots d pos.count = bot := advance_eq ..
  have heot : tr.sense.eotRun.advance tr.lines.eots d pos.count = eot := advance_eq ..
  have hmoved : pos.moved d = moved := moved_eq ..
  have hleft : (fun m : Motion => m.counted d) = left := funext fun m => motion_counted_eq m d
  have hload : tr.load.counted d = { tr.load with searchCount := found } := load_counted_eq ..
  have hnear : Approaches tr0 d c.approach ↔ near := by
    rw [Approaches, show tr0.sense.position.moved d = moved from hmoved]
    rfl
  have hturned : tr.sense.changes d = true ↔ turned := changes_iff ..
  have hbefore : tr0.beforeDraw = true ↔ before := beforeDraw_iff hc
  obtain ⟨top, hz, htop, hcreep⟩ := counted_eq_countedAs hnear
  refine ⟨fun hnb hne hsearch => ?plain, fun hrb hne => ?_⟩
  case plain =>
    have hsense : tr0.sense.counted tr0.lines d c.q = sense :=
      sense_counted_eq (x := tr.sense) (l := lines) hmoved (hbot.symm ▸ judged_of_not_reaches hnb)
        (heot.symm ▸ judged_of_not_reaches hne)
    have hexec : exec (.capstanCount t a b) s = .next (s.setTr t (tr0.counted d c)) := by
      have hq : ∀ k, tr.sense.qualifiesAt lines d c.q k = false := fun k => by
        rw [Bool.eq_false_iff]
        cases k with
        | bot => exact fun h => hnb (hbot ▸ (qualifies_iff ..).mp h)
        | eot => exact fun h => hne (heot ▸ (qualifies_iff ..).mp h)
      have hidle : searchLimitTest t (s.setTr t (tr0.counted d c)) = Reaction.idle (s.setTr t (tr0.counted d c)) := by
        refine searchLimitTest_idle fun h => ?_
        rw [State.tr_setTr_self, hz] at h ⊢
        have hcount : (tr0.load.counted d).searchCount = found := congrArg LoadControl.searchCount hload
        refine hcount.trans_lt (hsearch ?_)
        by_cases hn : near
        · simp [countedAs, hn] at h
        · simpa [countedAs, hn] using h
      rw [exec_capstanCount_plain hd hc hq, runTasks_succ, handle, hidle]
      exact runTasks_nil ..
    have htopz : (tr0.counted d c).engine.workTop = top := by rw [hz]; rfl
    refine ⟨tr0.counted d c, hexec, ?_, ?_, ?_, ?_, ?_, fun r => ?_⟩
    · rw [hz]
      have hcounters : (tr0.countedFirst d c).counters = { tr.counters with
        radiusRejections := (tr0.countedFirst d c).counters.radiusRejections } := rejected_rejected_eq ..
      simp only [countedAs, hsense, hleft, show tr0.load.counted d = _ from hload, engine_counted_eq]
      rw [hcounters]
      rfl
    · rw [hz]
      rintro (hm | hslot)
      · exact if_neg hm
      · rw [show (countedAs tr0 d c _ top).hold = if tr.motion = none then slotCounted tr.hold d else tr.hold from rfl,
          slotCounted_of_not_saved hslot, ite_self]
    · rw [hz]
      intro m hm hslot
      rw [← hleft]
      exact (if_pos hm).trans (slotCounted_of_saved hslot d)
    · rw [htopz]
      exact htop
    · rw [htopz]
      exact hcreep
    · intro w y n total measured
      have hy : y = w.afterCount tr0.beforeDraw (tr.sense.changes d) c := by
        rw [show y = (tr0.counted d c).servo.reels.get r from rfl, hz]
        exact reels_counted_get ..
      rw [hy]
      refine ⟨?_, fun htotal => ?_, fun htotal => ?_⟩
      · obtain htotal | htotal := Nat.lt_or_ge total c.window
        · rw [afterCount_counting w c hturned htotal]
        · rw [afterCount_closing w c hturned hbefore htotal]
      · rw [afterCount_counting w c hturned htotal]
        exact ⟨rfl, rfl, rfl⟩
      · rw [afterCount_closing w c hturned hbefore htotal]
        exact ⟨rfl, rfl, rfl⟩
  have hdir : bot.direction = d := by
    rw [← hbot, hrb.1]; exact advance_direction ..
  have hqb : tr.sense.qualifiesAt lines d c.q .bot = true := (qualifies_iff ..).mpr (hbot.symm ▸ hrb)
  have hqe : tr.sense.qualifiesAt lines d c.q .eot = false :=
    Bool.eq_false_iff.mpr fun h => hne (heot ▸ (qualifies_iff ..).mp h)
  have hexec := exec_capstanCount_bot hd hc hqb hqe
  have hsense : tr0.sense.counted tr0.lines d c.q = { sense with botRun := { bot with qualified := true } } :=
    sense_counted_eq (x := tr.sense) (l := lines) hmoved (hbot.symm ▸ judged_of_reaches hrb)
      (heot.symm ▸ judged_of_not_reaches hne)
  have hzsense : (tr0.counted d c).sense = { sense with botRun := { bot with qualified := true } } := by
    rw [hz]; exact hsense
  have hzdir : (tr0.counted d c).sense.botRun.direction = d := by rw [hzsense]; exact hdir
  intro back crossed
  have hcrossed : (botCrossed (tr0.counted d c) d (tr0.counted d c).sense.botRun.edge).sense = crossed := by
    simp only [botCrossed, Transport.setPosition, Transport.position, hzsense]
    by_cases hf : d = .forward
    · simp only [hf, if_true, crossed]
      rfl
    · simp only [hf, if_false, crossed]
      rfl
  refine ⟨fun hm => ?_, fun m hf hcond hstep hm hp hfree => ?_⟩
  · have hzm : (tr0.counted d c).current = none := by
      rw [hz, current_countedAs]
      exact Option.map_eq_none_iff.mpr hm
    refine ⟨_, hexec.trans (runTasks_botCrossed hzdir hzm 4094), ?_, ?_, hcrossed⟩
    · show (tr0.counted d c).lines = lines
      rw [hz]
      rfl
    · show (tr0.counted d c).phase = tr.phase
      rw [hz]
      rfl
  · have hfar : tr0.counted d c = countedAs tr0 d c tr.load.step tr.engine.workTop :=
      counted_of_not_approaches fun k => by cases hf.symm.trans k.1
    have hzm : (tr0.counted d c).current ≠ none := by
      rw [hfar, current_countedAs, ne_eq, Option.map_eq_none_iff, show tr0.current = some m by simp [Transport.current, tr0, hm]]
      nofun
    have hrun := runTasks_botFound hzdir hf hzm (by rw [hfar]; exact hcond) (by rw [hfar]; exact hstep)
      (by rw [hfar]; exact hp) hfree (by rw [hfar]; rfl) 4093
    refine ⟨_, hexec.trans hrun, ?_, hcrossed, rfl, ?_, ?_, ?_, ?_⟩
    · show (tr0.counted d c).lines = lines
      rw [hfar]
      rfl
    · show (tr0.counted d c).motion = some (left m)
      rw [hfar, show (countedAs tr0 d c tr.load.step tr.engine.workTop).motion = tr.motion.map (fun m => m.counted d) from rfl,
        hm, ← hleft]
      rfl
    · show (tr0.counted d c).hold = tr.hold
      rw [hfar]
      exact if_neg (by rw [hm]; nofun)
    · show ({ (tr0.counted d c).load with outcome := .botFound } : LoadControl) = _
      rw [hfar]
      simp only [countedAs, show tr0.load.counted d = _ from hload]
    · show (tr0.counted d c).engine = _
      rw [hfar]
      simp only [countedAs, engine_counted_eq]
      rfl

end Sys2Proof.CapstanCounts
end
